-- ==== Sys2Proof/Word.lean ====
section
/-!
DEFINITION. The word types of the RN960 (00 R2, R6) and their plainest arithmetic.
-/
namespace Sys2Proof

/-- A scalar register's contents, a doubleword of memory, an address as a register holds it (01 R20). -/
abbrev Word := BitVec 64

/-- The unit of memory: one byte (00 R6). -/
abbrev Byte := BitVec 8

/-- An instruction word (03 R84). -/
abbrev InstrWord := BitVec 32

/-- One 32-bit element of a vector register (01 R24). -/
abbrev Elem := BitVec 32

end Sys2Proof
end

