-- ==== Sys2Proof/Syntax.lean ====
section
/-!
DEFINITION. The steps of the machine as syntax: one constructor of `Instr` per row of spec/opcode_table.json.
A row with a 32-bit word carries that word's operand fields (03 R87, R88), each at the width of its field.
A row that is an engine command carries the ring it is taken from and its 256 bits (03 R98).
A row that is an event of the part carries what comes from outside the machine with that event.
-/
namespace Sys2Proof

/-- The three command rings of a context (01 R39). -/
inductive Ring where
  | ri | ro | mx
  deriving DecidableEq, Repr

/-- An engine command: four doublewords (03 R98). -/
structure Cmd where
  w0 : BitVec 64
  w1 : BitVec 64
  w2 : BitVec 64
  w3 : BitVec 64
  deriving DecidableEq, Repr

/-- What the gauge row finds at the end of a pass of an array (06 R230): agreement, a fault of the main row `g`
that the second run mends, a fault of the gauge row, or three different results. -/
inductive Gauge where
  | agree | mainRow | gaugeRow | allDiffer
  deriving DecidableEq, Repr

/-- One row of the partial that a holder returns for ATTNR: m2, l2 and O2 as binary32 images (07 R256). -/
structure AttnRow where
  m : BitVec 32
  l : BitVec 32
  o : List (BitVec 32)
  deriving DecidableEq, Repr

/-- A holder's reply to ATTNR (07 R256); `poisoned` when its pages could not be read clean, and `format` when a record of
them has a format byte that fails (log entry 48). -/
inductive AttnReply where
  | partials (rows : List AttnRow)
  | moved
  | geometry
  | poisoned
  | format
  deriving DecidableEq, Repr

/-- A back-invalidation snoop (14 R439). -/
inductive Snoop where
  | invalidate | downgrade
  deriving DecidableEq, Repr

/-- A Garetor packet: the header fields of table *Garetor header* (14 R449), the reserved bits of its three
doublewords taken together, the payload, and the plane it crosses (`true` is plane B). -/
structure GPacket where
  seq : BitVec 16
  ack : BitVec 16
  ackl : BitVec 2
  lane : BitVec 2
  dst : BitVec 4
  src : BitVec 4
  type : BitVec 4
  ver : BitVec 4
  av : Bool
  rpl : Bool
  len : BitVec 9
  ret : Bool
  scope : BitVec 3
  cls : BitVec 4
  op : BitVec 4
  size : BitVec 2
  off : BitVec 39
  rlen : BitVec 9
  status : BitVec 3
  tag : BitVec 16
  rsv : BitVec 48
  payload : List Byte
  planeB : Bool
  deriving DecidableEq, Repr

/-- A row of a memory whose codes found an error: of a scratchpad bank of the core in focus, of a vault bank of its cluster, or
the row of HBM that holds a physical address (13 R425, 15 R469). -/
inductive RowPlace where
  | scratchpad (bank row : Nat)
  | vault (bank row : Nat)
  | hbm (pa : Nat)
  deriving DecidableEq, Repr

/-- Where an uncorrectable error is found (13 R406), or the row in which an error was corrected. The scratchpad site names a
byte of the core in focus; a memory line is named by its physical address. -/
inductive ErrorSite where
  | scalarRegister (n : Nat)
  | vectorRegister (n : Nat)
  | scratchpad (addr : Nat)
  | scalarCacheLine (pa : Nat)
  | blockLine (pa : Nat)
  | lagoonSector (frame : Nat)
  | hbmLine (pa : Nat)
  | poolLine (pa : Nat)
  | corrected (row : RowPlace)
  deriving DecidableEq, Repr

/-- A signature with the public key under which it is to be checked (15 R466, R468). -/
structure Signed where
  key : List Byte
  sig : List Byte
  deriving DecidableEq, Repr

/-- One firmware stage as Bizil finds it (15 R466): what the image's header gives for it, and the image itself. -/
structure StageImage where
  digest : List Byte
  version : BitVec 16
  signed : Signed
  image : List Byte
  deriving DecidableEq, Repr

/-- A flit of a fabric port that fails its IDE integrity check, and whether the link recovers it by a retry (14 R432, 15 R472). -/
structure IdeReport where
  port : Nat
  recovered : Bool
  deriving DecidableEq, Repr

/-- What Bizil meets while it boots (15 R463, R466, R469; 14 R432, R434): whether the flash reads, the four stages,
whether HBM trains, which fabric ports train, which of them at four lanes and which with their spare lane in use, the TIME
exchange's estimate if one came, in a maintenance reset the logged rows that could be repaired, and what the enclosure's formation gives the
device: its number and its peer access map (14 R458). -/
structure BootReport where
  flashOk : Bool
  stages : List StageImage
  hbmOk : Bool
  portsUp : List Nat
  portsX4 : List Nat
  portsSpare : List Nat
  timeEstimate : Option (BitVec 64)
  repaired : List Nat
  num : BitVec 4
  accessMap : List (BitVec 32)
  deriving DecidableEq, Repr

/-- Every step of the part: one constructor per row of the opcode table, in the table's order. -/
inductive Instr where
  /-- ADD: Adds two scalar registers at width T.W, optionally saturating. (R112) -/
  | add (d : BitVec 5) (a : BitVec 5) (b : BitVec 5) (w : BitVec 2) (u : BitVec 1) (t : BitVec 1)
  /-- SUB: Subtracts s[b] from s[a] at width T.W, optionally saturating. (R112) -/
  | sub (d : BitVec 5) (a : BitVec 5) (b : BitVec 5) (w : BitVec 2) (u : BitVec 1) (t : BitVec 1)
  /-- MUL: Multiplies two scalar registers, low w bits or saturated. (R112) -/
  | mul (d : BitVec 5) (a : BitVec 5) (b : BitVec 5) (w : BitVec 2) (u : BitVec 1) (t : BitVec 1)
  /-- MULH: Writes the high w bits of the 2w-bit product. (R112) -/
  | mulh (d : BitVec 5) (a : BitVec 5) (b : BitVec 5) (w : BitVec 2) (u : BitVec 1)
  /-- DIV: Divides toward zero without trapping; division by zero gives all ones. (R113) -/
  | div (d : BitVec 5) (a : BitVec 5) (b : BitVec 5) (w : BitVec 2) (u : BitVec 1) (t : BitVec 1)
  /-- REM: Remainder with the sign of x; by zero gives x. (R113) -/
  | rem (d : BitVec 5) (a : BitVec 5) (b : BitVec 5) (w : BitVec 2) (u : BitVec 1)
  /-- MIN: Smaller of two operands, signed or unsigned by T.U. (R112) -/
  | min (d : BitVec 5) (a : BitVec 5) (b : BitVec 5) (w : BitVec 2) (u : BitVec 1)
  /-- MAX: Larger of two operands, signed or unsigned by T.U. (R112) -/
  | max (d : BitVec 5) (a : BitVec 5) (b : BitVec 5) (w : BitVec 2) (u : BitVec 1)
  /-- AND: Bitwise AND of the w-bit patterns. (R112) -/
  | and (d : BitVec 5) (a : BitVec 5) (b : BitVec 5) (w : BitVec 2) (u : BitVec 1)
  /-- OR: Bitwise OR of the w-bit patterns. (R112) -/
  | or (d : BitVec 5) (a : BitVec 5) (b : BitVec 5) (w : BitVec 2) (u : BitVec 1)
  /-- XOR: Bitwise XOR of the w-bit patterns. (R112) -/
  | xor (d : BitVec 5) (a : BitVec 5) (b : BitVec 5) (w : BitVec 2) (u : BitVec 1)
  /-- ANDN: x AND NOT y. (R112) -/
  | andn (d : BitVec 5) (a : BitVec 5) (b : BitVec 5) (w : BitVec 2) (u : BitVec 1)
  /-- SHL: Shifts left by s[b][5:0] mod w. (R114) -/
  | shl (d : BitVec 5) (a : BitVec 5) (b : BitVec 5) (w : BitVec 2) (u : BitVec 1)
  /-- SHR: Shifts right, arithmetic for .i and logical for .n. (R114) -/
  | shr (d : BitVec 5) (a : BitVec 5) (b : BitVec 5) (w : BitVec 2) (u : BitVec 1)
  /-- ROR: Rotates the w-bit pattern right. (R114) -/
  | ror (d : BitVec 5) (a : BitVec 5) (b : BitVec 5) (w : BitVec 2) (u : BitVec 1)
  /-- CLZ: Counts leading zeros of the w-bit pattern. (R112) -/
  | clz (d : BitVec 5) (a : BitVec 5) (w : BitVec 2) (u : BitVec 1)
  /-- POPC: Counts the ones of the w-bit pattern. (R112) -/
  | popc (d : BitVec 5) (a : BitVec 5) (w : BitVec 2) (u : BitVec 1)
  /-- ABS: Absolute value, wrapping or saturating. (R112) -/
  | abs (d : BitVec 5) (a : BitVec 5) (w : BitVec 2) (u : BitVec 1) (t : BitVec 1)
  /-- NEG: Negation, wrapping or saturating. (R112) -/
  | neg (d : BitVec 5) (a : BitVec 5) (w : BitVec 2) (u : BitVec 1) (t : BitVec 1)
  /-- EXT: Takes the low w bits and widens them by T.U. (R112) -/
  | ext (d : BitVec 5) (a : BitVec 5) (w : BitVec 2) (u : BitVec 1)
  /-- MADD: s[d] := s[a] × s[b] + s[c] modulo 2^64. (R115) -/
  | madd (d : BitVec 5) (a : BitVec 5) (b : BitVec 5) (c : BitVec 5)
  /-- MSUB: s[d] := s[c] − s[a] × s[b] modulo 2^64. (R115) -/
  | msub (d : BitVec 5) (a : BitVec 5) (b : BitVec 5) (c : BitVec 5)
  /-- SEL: Selects s[b] or s[c] by s[a], without trapping on poison. (R115) -/
  | sel (d : BitVec 5) (a : BitVec 5) (b : BitVec 5) (c : BitVec 5)
  /-- CMP_EQ: Writes 1 if the w-bit patterns are equal, else 0. (R116) -/
  | cmpEq (d : BitVec 5) (a : BitVec 5) (b : BitVec 5) (w : BitVec 2) (u : BitVec 1)
  /-- CMP_NE: Writes 1 if the w-bit patterns differ. (R116) -/
  | cmpNe (d : BitVec 5) (a : BitVec 5) (b : BitVec 5) (w : BitVec 2) (u : BitVec 1)
  /-- CMP_LT: Writes 1 if x < y, signed or unsigned. (R116) -/
  | cmpLt (d : BitVec 5) (a : BitVec 5) (b : BitVec 5) (w : BitVec 2) (u : BitVec 1)
  /-- CMP_LE: Writes 1 if x ≤ y. (R116) -/
  | cmpLe (d : BitVec 5) (a : BitVec 5) (b : BitVec 5) (w : BitVec 2) (u : BitVec 1)
  /-- CMP_GT: Writes 1 if x > y. (R116) -/
  | cmpGt (d : BitVec 5) (a : BitVec 5) (b : BitVec 5) (w : BitVec 2) (u : BitVec 1)
  /-- CMP_GE: Writes 1 if x ≥ y. (R116) -/
  | cmpGe (d : BitVec 5) (a : BitVec 5) (b : BitVec 5) (w : BitVec 2) (u : BitVec 1)
  /-- ADDI: Adds a sign-extended 16-bit immediate. (R117) -/
  | addi (d : BitVec 5) (a : BitVec 5) (i : BitVec 16)
  /-- ADDIS: Adds a sign-extended immediate shifted left by 16. (R117) -/
  | addis (d : BitVec 5) (a : BitVec 5) (i : BitVec 16)
  /-- ANDI: ANDs a zero-extended immediate. (R117) -/
  | andi (d : BitVec 5) (a : BitVec 5) (i : BitVec 16)
  /-- ORI: ORs a zero-extended immediate. (R117) -/
  | ori (d : BitVec 5) (a : BitVec 5) (i : BitVec 16)
  /-- XORI: XORs a zero-extended immediate. (R117) -/
  | xori (d : BitVec 5) (a : BitVec 5) (i : BitVec 16)
  /-- SHLI: Shifts left by an immediate on 64 bits. (R117) -/
  | shli (d : BitVec 5) (a : BitVec 5) (n : BitVec 6)
  /-- SHRI: Shifts right logically by an immediate. (R117) -/
  | shri (d : BitVec 5) (a : BitVec 5) (n : BitVec 6)
  /-- SRAI: Shifts right arithmetically by an immediate. (R117) -/
  | srai (d : BitVec 5) (a : BitVec 5) (n : BitVec 6)
  /-- RORI: Rotates right by an immediate. (R117) -/
  | rori (d : BitVec 5) (a : BitVec 5) (n : BitVec 6)
  /-- SLTI: Sets 1 if s[a] is signed less than the immediate. (R117) -/
  | slti (d : BitVec 5) (a : BitVec 5) (i : BitVec 16)
  /-- SLTIN: Sets 1 if s[a] is unsigned less than the sign-extended immediate. (R117) -/
  | sltin (d : BitVec 5) (a : BitVec 5) (i : BitVec 16)
  /-- BEQ: Branches when s[a] equals s[b]. (R118) -/
  | beq (a : BitVec 5) (b : BitVec 5) (o : BitVec 13)
  /-- BNE: Branches when s[a] differs from s[b]. (R118) -/
  | bne (a : BitVec 5) (b : BitVec 5) (o : BitVec 13)
  /-- BLT: Branches on signed less than. (R118) -/
  | blt (a : BitVec 5) (b : BitVec 5) (o : BitVec 13)
  /-- BGE: Branches on signed greater or equal. (R118) -/
  | bge (a : BitVec 5) (b : BitVec 5) (o : BitVec 13)
  /-- BLTN: Branches on unsigned less than. (R118) -/
  | bltn (a : BitVec 5) (b : BitVec 5) (o : BitVec 13)
  /-- BGEN: Branches on unsigned greater or equal. (R118) -/
  | bgen (a : BitVec 5) (b : BitVec 5) (o : BitVec 13)
  /-- BTST: Branches when s[a] AND s[b] is non-zero. (R118) -/
  | btst (a : BitVec 5) (b : BitVec 5) (o : BitVec 13)
  /-- BTSTZ: Branches when s[a] AND s[b] is zero. (R118) -/
  | btstz (a : BitVec 5) (b : BitVec 5) (o : BitVec 13)
  /-- J: Jumps by a signed 26-bit word offset. (R119) -/
  | j (o : BitVec 26)
  /-- JL: Writes s31 := PC + 4, then jumps by the offset. (R119) -/
  | jl (o : BitVec 26)
  /-- JR: Jumps to the address in s[a]. (R120) -/
  | jr (a : BitVec 5)
  /-- JLR: Writes the link to s[d] and jumps to s[a]. (R120) -/
  | jlr (d : BitVec 5) (a : BitVec 5)
  /-- LOOP: Opens a hardware loop level that repeats the body s[a] times. (R124) -/
  | loop (a : BitVec 5) (l : BitVec 12)
  /-- LOOP_S: Opens a software-pipelined loop level with rotation and held stores. (R125) -/
  | loopS (r : BitVec 3) (a : BitVec 5) (n : BitVec 4) (l : BitVec 12)
  /-- LD_N: Zero-extending scalar load at base plus scaled offset. (R135) -/
  | ldN (d : BitVec 5) (a : BitVec 5) (c : BitVec 4) (z : BitVec 2) (o : BitVec 10)
  /-- LD_I: Sign-extending scalar load at base plus scaled offset. (R135) -/
  | ldI (d : BitVec 5) (a : BitVec 5) (c : BitVec 4) (z : BitVec 2) (o : BitVec 10)
  /-- ST: Stores the low bytes of s[d], held while LOOP.S is open. (R135) -/
  | st (d : BitVec 5) (a : BitVec 5) (c : BitVec 4) (z : BitVec 2) (o : BitVec 10)
  /-- LDX_N: Zero-extending indexed load. (R135) -/
  | ldxN (d : BitVec 5) (a : BitVec 5) (c : BitVec 4) (z : BitVec 2) (b : BitVec 5)
  /-- LDX_I: Sign-extending indexed load. (R135) -/
  | ldxI (d : BitVec 5) (a : BitVec 5) (c : BitVec 4) (z : BitVec 2) (b : BitVec 5)
  /-- STX: Indexed store. (R135) -/
  | stx (d : BitVec 5) (a : BitVec 5) (c : BitVec 4) (z : BitVec 2) (b : BitVec 5)
  /-- LD_ACQ: Zero-extending acquire load at device scope in all classes. (R136) -/
  | ldAcq (d : BitVec 5) (a : BitVec 5) (c : BitVec 4) (z : BitVec 2) (o : BitVec 10)
  /-- ST_REL: Release store at device scope in all classes. (R136) -/
  | stRel (d : BitVec 5) (a : BitVec 5) (c : BitVec 4) (z : BitVec 2) (o : BitVec 10)
  /-- ATOM_SWAP: Atomically swaps the location with s[d] and returns the old value. (R142) -/
  | atomSwap (d : BitVec 5) (a : BitVec 5) (c : BitVec 4) (z : BitVec 1) (p : BitVec 3) (r : BitVec 2)
  /-- ATOM_CAS: Compares with s[d] and stores s[d+1] on a match, returning the old value. (R142) -/
  | atomCas (d : BitVec 5) (a : BitVec 5) (c : BitVec 4) (z : BitVec 1) (p : BitVec 3) (r : BitVec 2)
  /-- ATOM_ADD: Atomic add returning the old value. (R142) -/
  | atomAdd (d : BitVec 5) (a : BitVec 5) (c : BitVec 4) (z : BitVec 1) (p : BitVec 3) (r : BitVec 2)
  /-- ATOM_AND: Atomic AND returning the old value. (R142) -/
  | atomAnd (d : BitVec 5) (a : BitVec 5) (c : BitVec 4) (z : BitVec 1) (p : BitVec 3) (r : BitVec 2)
  /-- ATOM_OR: Atomic OR returning the old value. (R142) -/
  | atomOr (d : BitVec 5) (a : BitVec 5) (c : BitVec 4) (z : BitVec 1) (p : BitVec 3) (r : BitVec 2)
  /-- ATOM_XOR: Atomic XOR returning the old value. (R142) -/
  | atomXor (d : BitVec 5) (a : BitVec 5) (c : BitVec 4) (z : BitVec 1) (p : BitVec 3) (r : BitVec 2)
  /-- ATOM_MIN: Atomic signed minimum returning the old value. (R142) -/
  | atomMin (d : BitVec 5) (a : BitVec 5) (c : BitVec 4) (z : BitVec 1) (p : BitVec 3) (r : BitVec 2)
  /-- ATOM_MAX: Atomic signed maximum returning the old value. (R142) -/
  | atomMax (d : BitVec 5) (a : BitVec 5) (c : BitVec 4) (z : BitVec 1) (p : BitVec 3) (r : BitVec 2)
  /-- ATOM_MINN: Atomic unsigned minimum returning the old value. (R142) -/
  | atomMinn (d : BitVec 5) (a : BitVec 5) (c : BitVec 4) (z : BitVec 1) (p : BitVec 3) (r : BitVec 2)
  /-- ATOM_MAXN: Atomic unsigned maximum returning the old value. (R142) -/
  | atomMaxn (d : BitVec 5) (a : BitVec 5) (c : BitVec 4) (z : BitVec 1) (p : BitVec 3) (r : BitVec 2)
  /-- ATOM_FADD: Atomic binary32 add at size 4 returning the old value. (R141) -/
  | atomFadd (d : BitVec 5) (a : BitVec 5) (c : BitVec 4) (p : BitVec 3) (r : BitVec 2)
  /-- RED_ADD: Non-returning atomic add, retiring after translation. (R144) -/
  | redAdd (d : BitVec 5) (a : BitVec 5) (c : BitVec 4) (z : BitVec 1) (p : BitVec 3) (r : BitVec 1)
  /-- RED_AND: Non-returning atomic AND. (R144) -/
  | redAnd (d : BitVec 5) (a : BitVec 5) (c : BitVec 4) (z : BitVec 1) (p : BitVec 3) (r : BitVec 1)
  /-- RED_OR: Non-returning atomic OR. (R144) -/
  | redOr (d : BitVec 5) (a : BitVec 5) (c : BitVec 4) (z : BitVec 1) (p : BitVec 3) (r : BitVec 1)
  /-- RED_XOR: Non-returning atomic XOR. (R144) -/
  | redXor (d : BitVec 5) (a : BitVec 5) (c : BitVec 4) (z : BitVec 1) (p : BitVec 3) (r : BitVec 1)
  /-- RED_MIN: Non-returning atomic signed minimum. (R144) -/
  | redMin (d : BitVec 5) (a : BitVec 5) (c : BitVec 4) (z : BitVec 1) (p : BitVec 3) (r : BitVec 1)
  /-- RED_MAX: Non-returning atomic signed maximum, also the queue kick. (R144) -/
  | redMax (d : BitVec 5) (a : BitVec 5) (c : BitVec 4) (z : BitVec 1) (p : BitVec 3) (r : BitVec 1)
  /-- RED_MINN: Non-returning atomic unsigned minimum. (R144) -/
  | redMinn (d : BitVec 5) (a : BitVec 5) (c : BitVec 4) (z : BitVec 1) (p : BitVec 3) (r : BitVec 1)
  /-- RED_MAXN: Non-returning atomic unsigned maximum. (R144) -/
  | redMaxn (d : BitVec 5) (a : BitVec 5) (c : BitVec 4) (z : BitVec 1) (p : BitVec 3) (r : BitVec 1)
  /-- RED_FADD: Non-returning atomic binary32 add. (R144) -/
  | redFadd (d : BitVec 5) (a : BitVec 5) (c : BitVec 4) (p : BitVec 3) (r : BitVec 1)
  /-- RED_PERFORM: A retired RED performs later in class order and is acknowledged, or is entered in the completion record. (R144) -/
  | redPerform
  /-- VADD_F32: Lane-wise F32 add rounded under FMODE. (R154) -/
  | vaddF32 (d : BitVec 5) (a : BitVec 5) (b : BitVec 5) (m : BitVec 3)
  /-- VSUB_F32: Lane-wise F32 subtract. (R154) -/
  | vsubF32 (d : BitVec 5) (a : BitVec 5) (b : BitVec 5) (m : BitVec 3)
  /-- VMUL_F32: Lane-wise F32 multiply. (R154) -/
  | vmulF32 (d : BitVec 5) (a : BitVec 5) (b : BitVec 5) (m : BitVec 3)
  /-- VFMA_F32: Lane-wise F32 fused multiply-add into vd. (R154) -/
  | vfmaF32 (d : BitVec 5) (a : BitVec 5) (b : BitVec 5) (m : BitVec 3)
  /-- VMIN_F32: Lane-wise F32 minimum. (R154) -/
  | vminF32 (d : BitVec 5) (a : BitVec 5) (b : BitVec 5) (m : BitVec 3)
  /-- VMAX_F32: Lane-wise F32 maximum. (R154) -/
  | vmaxF32 (d : BitVec 5) (a : BitVec 5) (b : BitVec 5) (m : BitVec 3)
  /-- VABS_F32: Lane-wise F32 absolute value. (R154) -/
  | vabsF32 (d : BitVec 5) (a : BitVec 5) (m : BitVec 3)
  /-- VNEG_F32: Lane-wise F32 negation. (R154) -/
  | vnegF32 (d : BitVec 5) (a : BitVec 5) (m : BitVec 3)
  /-- VCMP_EQ_F32: F32 equality compare into a MASK register. (R155) -/
  | vcmpEqF32 (d : BitVec 5) (a : BitVec 5) (b : BitVec 5) (m : BitVec 3)
  /-- VCMP_NE_F32: F32 inequality compare into a MASK register. (R155) -/
  | vcmpNeF32 (d : BitVec 5) (a : BitVec 5) (b : BitVec 5) (m : BitVec 3)
  /-- VCMP_LT_F32: F32 less-than compare into a MASK register. (R155) -/
  | vcmpLtF32 (d : BitVec 5) (a : BitVec 5) (b : BitVec 5) (m : BitVec 3)
  /-- VCMP_LE_F32: F32 less-or-equal compare into a MASK register. (R155) -/
  | vcmpLeF32 (d : BitVec 5) (a : BitVec 5) (b : BitVec 5) (m : BitVec 3)
  /-- VRED_SUM_F32: F32 pairwise-tree sum along a row or column. (R158) -/
  | vredSumF32 (d : BitVec 5) (a : BitVec 5) (m : BitVec 3) (x : BitVec 2)
  /-- VRED_MAX_F32: F32 maximum reduction along an axis. (R158) -/
  | vredMaxF32 (d : BitVec 5) (a : BitVec 5) (m : BitVec 3) (x : BitVec 2)
  /-- VRED_MIN_F32: F32 minimum reduction along an axis. (R158) -/
  | vredMinF32 (d : BitVec 5) (a : BitVec 5) (m : BitVec 3) (x : BitVec 2)
  /-- VADD_BF16: Lane-wise BF16 add. (R154) -/
  | vaddBf16 (d : BitVec 5) (a : BitVec 5) (b : BitVec 5) (m : BitVec 3)
  /-- VSUB_BF16: Lane-wise BF16 subtract. (R154) -/
  | vsubBf16 (d : BitVec 5) (a : BitVec 5) (b : BitVec 5) (m : BitVec 3)
  /-- VMUL_BF16: Lane-wise BF16 multiply. (R154) -/
  | vmulBf16 (d : BitVec 5) (a : BitVec 5) (b : BitVec 5) (m : BitVec 3)
  /-- VFMA_BF16: Lane-wise BF16 fused multiply-add. (R154) -/
  | vfmaBf16 (d : BitVec 5) (a : BitVec 5) (b : BitVec 5) (m : BitVec 3)
  /-- VMIN_BF16: Lane-wise BF16 minimum. (R154) -/
  | vminBf16 (d : BitVec 5) (a : BitVec 5) (b : BitVec 5) (m : BitVec 3)
  /-- VMAX_BF16: Lane-wise BF16 maximum. (R154) -/
  | vmaxBf16 (d : BitVec 5) (a : BitVec 5) (b : BitVec 5) (m : BitVec 3)
  /-- VABS_BF16: Lane-wise BF16 absolute value. (R154) -/
  | vabsBf16 (d : BitVec 5) (a : BitVec 5) (m : BitVec 3)
  /-- VNEG_BF16: Lane-wise BF16 negation. (R154) -/
  | vnegBf16 (d : BitVec 5) (a : BitVec 5) (m : BitVec 3)
  /-- VCMP_EQ_BF16: BF16 equality compare. (R155) -/
  | vcmpEqBf16 (d : BitVec 5) (a : BitVec 5) (b : BitVec 5) (m : BitVec 3)
  /-- VCMP_NE_BF16: BF16 inequality compare. (R155) -/
  | vcmpNeBf16 (d : BitVec 5) (a : BitVec 5) (b : BitVec 5) (m : BitVec 3)
  /-- VCMP_LT_BF16: BF16 less-than compare. (R155) -/
  | vcmpLtBf16 (d : BitVec 5) (a : BitVec 5) (b : BitVec 5) (m : BitVec 3)
  /-- VCMP_LE_BF16: BF16 less-or-equal compare. (R155) -/
  | vcmpLeBf16 (d : BitVec 5) (a : BitVec 5) (b : BitVec 5) (m : BitVec 3)
  /-- VRED_SUM_BF16: BF16 sum reduction along an axis. (R158) -/
  | vredSumBf16 (d : BitVec 5) (a : BitVec 5) (m : BitVec 3) (x : BitVec 2)
  /-- VRED_MAX_BF16: BF16 maximum reduction along an axis. (R158) -/
  | vredMaxBf16 (d : BitVec 5) (a : BitVec 5) (m : BitVec 3) (x : BitVec 2)
  /-- VRED_MIN_BF16: BF16 minimum reduction along an axis. (R158) -/
  | vredMinBf16 (d : BitVec 5) (a : BitVec 5) (m : BitVec 3) (x : BitVec 2)
  /-- VADD_F16: Lane-wise F16 add. (R154) -/
  | vaddF16 (d : BitVec 5) (a : BitVec 5) (b : BitVec 5) (m : BitVec 3)
  /-- VSUB_F16: Lane-wise F16 subtract. (R154) -/
  | vsubF16 (d : BitVec 5) (a : BitVec 5) (b : BitVec 5) (m : BitVec 3)
  /-- VMUL_F16: Lane-wise F16 multiply. (R154) -/
  | vmulF16 (d : BitVec 5) (a : BitVec 5) (b : BitVec 5) (m : BitVec 3)
  /-- VFMA_F16: Lane-wise F16 fused multiply-add. (R154) -/
  | vfmaF16 (d : BitVec 5) (a : BitVec 5) (b : BitVec 5) (m : BitVec 3)
  /-- VMIN_F16: Lane-wise F16 minimum. (R154) -/
  | vminF16 (d : BitVec 5) (a : BitVec 5) (b : BitVec 5) (m : BitVec 3)
  /-- VMAX_F16: Lane-wise F16 maximum. (R154) -/
  | vmaxF16 (d : BitVec 5) (a : BitVec 5) (b : BitVec 5) (m : BitVec 3)
  /-- VABS_F16: Lane-wise F16 absolute value. (R154) -/
  | vabsF16 (d : BitVec 5) (a : BitVec 5) (m : BitVec 3)
  /-- VNEG_F16: Lane-wise F16 negation. (R154) -/
  | vnegF16 (d : BitVec 5) (a : BitVec 5) (m : BitVec 3)
  /-- VCMP_EQ_F16: F16 equality compare. (R155) -/
  | vcmpEqF16 (d : BitVec 5) (a : BitVec 5) (b : BitVec 5) (m : BitVec 3)
  /-- VCMP_NE_F16: F16 inequality compare. (R155) -/
  | vcmpNeF16 (d : BitVec 5) (a : BitVec 5) (b : BitVec 5) (m : BitVec 3)
  /-- VCMP_LT_F16: F16 less-than compare. (R155) -/
  | vcmpLtF16 (d : BitVec 5) (a : BitVec 5) (b : BitVec 5) (m : BitVec 3)
  /-- VCMP_LE_F16: F16 less-or-equal compare. (R155) -/
  | vcmpLeF16 (d : BitVec 5) (a : BitVec 5) (b : BitVec 5) (m : BitVec 3)
  /-- VRED_SUM_F16: F16 sum reduction along an axis. (R158) -/
  | vredSumF16 (d : BitVec 5) (a : BitVec 5) (m : BitVec 3) (x : BitVec 2)
  /-- VRED_MAX_F16: F16 maximum reduction along an axis. (R158) -/
  | vredMaxF16 (d : BitVec 5) (a : BitVec 5) (m : BitVec 3) (x : BitVec 2)
  /-- VRED_MIN_F16: F16 minimum reduction along an axis. (R158) -/
  | vredMinF16 (d : BitVec 5) (a : BitVec 5) (m : BitVec 3) (x : BitVec 2)
  /-- VADD_I32: Lane-wise 32-bit integer add modulo 2^32. (R156) -/
  | vaddI32 (d : BitVec 5) (a : BitVec 5) (b : BitVec 5) (m : BitVec 3)
  /-- VSUB_I32: Lane-wise 32-bit integer subtract. (R156) -/
  | vsubI32 (d : BitVec 5) (a : BitVec 5) (b : BitVec 5) (m : BitVec 3)
  /-- VMUL_I32: Low 32 bits of the lane product. (R156) -/
  | vmulI32 (d : BitVec 5) (a : BitVec 5) (b : BitVec 5) (m : BitVec 3)
  /-- VMAD_I32: Lane-wise 32-bit multiply-add into vd. (R156) -/
  | vmadI32 (d : BitVec 5) (a : BitVec 5) (b : BitVec 5) (m : BitVec 3)
  /-- VMIN_I32: Signed 32-bit lane minimum. (R156) -/
  | vminI32 (d : BitVec 5) (a : BitVec 5) (b : BitVec 5) (m : BitVec 3)
  /-- VMAX_I32: Signed 32-bit lane maximum. (R156) -/
  | vmaxI32 (d : BitVec 5) (a : BitVec 5) (b : BitVec 5) (m : BitVec 3)
  /-- VMINN_I32: Unsigned 32-bit lane minimum. (R156) -/
  | vminnI32 (d : BitVec 5) (a : BitVec 5) (b : BitVec 5) (m : BitVec 3)
  /-- VMAXN_I32: Unsigned 32-bit lane maximum. (R156) -/
  | vmaxnI32 (d : BitVec 5) (a : BitVec 5) (b : BitVec 5) (m : BitVec 3)
  /-- VCMP_EQ_I32: 32-bit equality compare into MASK. (R156) -/
  | vcmpEqI32 (d : BitVec 5) (a : BitVec 5) (b : BitVec 5) (m : BitVec 3)
  /-- VCMP_NE_I32: 32-bit inequality compare into MASK. (R156) -/
  | vcmpNeI32 (d : BitVec 5) (a : BitVec 5) (b : BitVec 5) (m : BitVec 3)
  /-- VCMP_LT_I32: Signed 32-bit less-than compare. (R156) -/
  | vcmpLtI32 (d : BitVec 5) (a : BitVec 5) (b : BitVec 5) (m : BitVec 3)
  /-- VCMP_LE_I32: Signed 32-bit less-or-equal compare. (R156) -/
  | vcmpLeI32 (d : BitVec 5) (a : BitVec 5) (b : BitVec 5) (m : BitVec 3)
  /-- VCMP_LTN_I32: Unsigned 32-bit less-than compare. (R156) -/
  | vcmpLtnI32 (d : BitVec 5) (a : BitVec 5) (b : BitVec 5) (m : BitVec 3)
  /-- VCMP_LEN_I32: Unsigned 32-bit less-or-equal compare. (R156) -/
  | vcmpLenI32 (d : BitVec 5) (a : BitVec 5) (b : BitVec 5) (m : BitVec 3)
  /-- VABS_I32: 32-bit lane absolute value, wrapping. (R156) -/
  | vabsI32 (d : BitVec 5) (a : BitVec 5) (m : BitVec 3)
  /-- VNEG_I32: 32-bit lane negation modulo 2^32. (R156) -/
  | vnegI32 (d : BitVec 5) (a : BitVec 5) (m : BitVec 3)
  /-- VRED_SUM_I32: 32-bit wrapping sum reduction along an axis. (R158) -/
  | vredSumI32 (d : BitVec 5) (a : BitVec 5) (m : BitVec 3) (x : BitVec 2)
  /-- VRED_MAX_I32: Signed 32-bit maximum reduction. (R158) -/
  | vredMaxI32 (d : BitVec 5) (a : BitVec 5) (m : BitVec 3) (x : BitVec 2)
  /-- VRED_MIN_I32: Signed 32-bit minimum reduction. (R158) -/
  | vredMinI32 (d : BitVec 5) (a : BitVec 5) (m : BitVec 3) (x : BitVec 2)
  /-- VAND_I32: Bitwise AND of 32-bit lanes. (R156) -/
  | vandI32 (d : BitVec 5) (a : BitVec 5) (b : BitVec 5) (m : BitVec 3)
  /-- VOR_I32: Bitwise OR of 32-bit lanes. (R156) -/
  | vorI32 (d : BitVec 5) (a : BitVec 5) (b : BitVec 5) (m : BitVec 3)
  /-- VXOR_I32: Bitwise XOR of 32-bit lanes. (R156) -/
  | vxorI32 (d : BitVec 5) (a : BitVec 5) (b : BitVec 5) (m : BitVec 3)
  /-- VSHL_I32: Shifts 32-bit lanes left by vb mod 32. (R157) -/
  | vshlI32 (d : BitVec 5) (a : BitVec 5) (b : BitVec 5) (m : BitVec 3)
  /-- VSHR_I32: Logical right shift of 32-bit lanes. (R157) -/
  | vshrI32 (d : BitVec 5) (a : BitVec 5) (b : BitVec 5) (m : BitVec 3)
  /-- VSRA_I32: Arithmetic right shift of 32-bit lanes. (R157) -/
  | vsraI32 (d : BitVec 5) (a : BitVec 5) (b : BitVec 5) (m : BitVec 3)
  /-- VADD_SAT_I32: Signed saturating 32-bit add. (R156) -/
  | vaddSatI32 (d : BitVec 5) (a : BitVec 5) (b : BitVec 5) (m : BitVec 3)
  /-- VSUB_SAT_I32: Signed saturating 32-bit subtract. (R156) -/
  | vsubSatI32 (d : BitVec 5) (a : BitVec 5) (b : BitVec 5) (m : BitVec 3)
  /-- VADDN_SAT_I32: Unsigned saturating 32-bit add. (R156) -/
  | vaddnSatI32 (d : BitVec 5) (a : BitVec 5) (b : BitVec 5) (m : BitVec 3)
  /-- VSUBN_SAT_I32: Unsigned saturating 32-bit subtract. (R156) -/
  | vsubnSatI32 (d : BitVec 5) (a : BitVec 5) (b : BitVec 5) (m : BitVec 3)
  /-- VADD_I16: Lane-wise 16-bit integer add. (R156) -/
  | vaddI16 (d : BitVec 5) (a : BitVec 5) (b : BitVec 5) (m : BitVec 3)
  /-- VSUB_I16: Lane-wise 16-bit integer subtract. (R156) -/
  | vsubI16 (d : BitVec 5) (a : BitVec 5) (b : BitVec 5) (m : BitVec 3)
  /-- VMUL_I16: Low 16 bits of the lane product. (R156) -/
  | vmulI16 (d : BitVec 5) (a : BitVec 5) (b : BitVec 5) (m : BitVec 3)
  /-- VMAD_I16: Lane-wise 16-bit multiply-add into vd. (R156) -/
  | vmadI16 (d : BitVec 5) (a : BitVec 5) (b : BitVec 5) (m : BitVec 3)
  /-- VMIN_I16: Signed 16-bit lane minimum. (R156) -/
  | vminI16 (d : BitVec 5) (a : BitVec 5) (b : BitVec 5) (m : BitVec 3)
  /-- VMAX_I16: Signed 16-bit lane maximum. (R156) -/
  | vmaxI16 (d : BitVec 5) (a : BitVec 5) (b : BitVec 5) (m : BitVec 3)
  /-- VMINN_I16: Unsigned 16-bit lane minimum. (R156) -/
  | vminnI16 (d : BitVec 5) (a : BitVec 5) (b : BitVec 5) (m : BitVec 3)
  /-- VMAXN_I16: Unsigned 16-bit lane maximum. (R156) -/
  | vmaxnI16 (d : BitVec 5) (a : BitVec 5) (b : BitVec 5) (m : BitVec 3)
  /-- VCMP_EQ_I16: 16-bit equality compare into MASK. (R156) -/
  | vcmpEqI16 (d : BitVec 5) (a : BitVec 5) (b : BitVec 5) (m : BitVec 3)
  /-- VCMP_NE_I16: 16-bit inequality compare. (R156) -/
  | vcmpNeI16 (d : BitVec 5) (a : BitVec 5) (b : BitVec 5) (m : BitVec 3)
  /-- VCMP_LT_I16: Signed 16-bit less-than compare. (R156) -/
  | vcmpLtI16 (d : BitVec 5) (a : BitVec 5) (b : BitVec 5) (m : BitVec 3)
  /-- VCMP_LE_I16: Signed 16-bit less-or-equal compare. (R156) -/
  | vcmpLeI16 (d : BitVec 5) (a : BitVec 5) (b : BitVec 5) (m : BitVec 3)
  /-- VCMP_LTN_I16: Unsigned 16-bit less-than compare. (R156) -/
  | vcmpLtnI16 (d : BitVec 5) (a : BitVec 5) (b : BitVec 5) (m : BitVec 3)
  /-- VCMP_LEN_I16: Unsigned 16-bit less-or-equal compare. (R156) -/
  | vcmpLenI16 (d : BitVec 5) (a : BitVec 5) (b : BitVec 5) (m : BitVec 3)
  /-- VABS_I16: 16-bit lane absolute value. (R156) -/
  | vabsI16 (d : BitVec 5) (a : BitVec 5) (m : BitVec 3)
  /-- VNEG_I16: 16-bit lane negation. (R156) -/
  | vnegI16 (d : BitVec 5) (a : BitVec 5) (m : BitVec 3)
  /-- VRED_SUM_I16: 16-bit wrapping sum reduction. (R158) -/
  | vredSumI16 (d : BitVec 5) (a : BitVec 5) (m : BitVec 3) (x : BitVec 2)
  /-- VRED_MAX_I16: Signed 16-bit maximum reduction. (R158) -/
  | vredMaxI16 (d : BitVec 5) (a : BitVec 5) (m : BitVec 3) (x : BitVec 2)
  /-- VRED_MIN_I16: Signed 16-bit minimum reduction. (R158) -/
  | vredMinI16 (d : BitVec 5) (a : BitVec 5) (m : BitVec 3) (x : BitVec 2)
  /-- VAND_I16: Bitwise AND of 16-bit lanes. (R156) -/
  | vandI16 (d : BitVec 5) (a : BitVec 5) (b : BitVec 5) (m : BitVec 3)
  /-- VOR_I16: Bitwise OR of 16-bit lanes. (R156) -/
  | vorI16 (d : BitVec 5) (a : BitVec 5) (b : BitVec 5) (m : BitVec 3)
  /-- VXOR_I16: Bitwise XOR of 16-bit lanes. (R156) -/
  | vxorI16 (d : BitVec 5) (a : BitVec 5) (b : BitVec 5) (m : BitVec 3)
  /-- VSHL_I16: Left shift of 16-bit lanes. (R157) -/
  | vshlI16 (d : BitVec 5) (a : BitVec 5) (b : BitVec 5) (m : BitVec 3)
  /-- VSHR_I16: Logical right shift of 16-bit lanes. (R157) -/
  | vshrI16 (d : BitVec 5) (a : BitVec 5) (b : BitVec 5) (m : BitVec 3)
  /-- VSRA_I16: Arithmetic right shift of 16-bit lanes. (R157) -/
  | vsraI16 (d : BitVec 5) (a : BitVec 5) (b : BitVec 5) (m : BitVec 3)
  /-- VADD_SAT_I16: Signed saturating 16-bit add. (R156) -/
  | vaddSatI16 (d : BitVec 5) (a : BitVec 5) (b : BitVec 5) (m : BitVec 3)
  /-- VSUB_SAT_I16: Signed saturating 16-bit subtract. (R156) -/
  | vsubSatI16 (d : BitVec 5) (a : BitVec 5) (b : BitVec 5) (m : BitVec 3)
  /-- VADDN_SAT_I16: Unsigned saturating 16-bit add. (R156) -/
  | vaddnSatI16 (d : BitVec 5) (a : BitVec 5) (b : BitVec 5) (m : BitVec 3)
  /-- VSUBN_SAT_I16: Unsigned saturating 16-bit subtract. (R156) -/
  | vsubnSatI16 (d : BitVec 5) (a : BitVec 5) (b : BitVec 5) (m : BitVec 3)
  /-- VADD_I8: Lane-wise 8-bit integer add. (R156) -/
  | vaddI8 (d : BitVec 5) (a : BitVec 5) (b : BitVec 5) (m : BitVec 3)
  /-- VSUB_I8: Lane-wise 8-bit integer subtract. (R156) -/
  | vsubI8 (d : BitVec 5) (a : BitVec 5) (b : BitVec 5) (m : BitVec 3)
  /-- VMUL_I8: Low 8 bits of the lane product. (R156) -/
  | vmulI8 (d : BitVec 5) (a : BitVec 5) (b : BitVec 5) (m : BitVec 3)
  /-- VMAD_I8: Lane-wise 8-bit multiply-add into vd. (R156) -/
  | vmadI8 (d : BitVec 5) (a : BitVec 5) (b : BitVec 5) (m : BitVec 3)
  /-- VMIN_I8: Signed 8-bit lane minimum. (R156) -/
  | vminI8 (d : BitVec 5) (a : BitVec 5) (b : BitVec 5) (m : BitVec 3)
  /-- VMAX_I8: Signed 8-bit lane maximum. (R156) -/
  | vmaxI8 (d : BitVec 5) (a : BitVec 5) (b : BitVec 5) (m : BitVec 3)
  /-- VMINN_I8: Unsigned 8-bit lane minimum. (R156) -/
  | vminnI8 (d : BitVec 5) (a : BitVec 5) (b : BitVec 5) (m : BitVec 3)
  /-- VMAXN_I8: Unsigned 8-bit lane maximum. (R156) -/
  | vmaxnI8 (d : BitVec 5) (a : BitVec 5) (b : BitVec 5) (m : BitVec 3)
  /-- VCMP_EQ_I8: 8-bit equality compare into MASK. (R156) -/
  | vcmpEqI8 (d : BitVec 5) (a : BitVec 5) (b : BitVec 5) (m : BitVec 3)
  /-- VCMP_NE_I8: 8-bit inequality compare. (R156) -/
  | vcmpNeI8 (d : BitVec 5) (a : BitVec 5) (b : BitVec 5) (m : BitVec 3)
  /-- VCMP_LT_I8: Signed 8-bit less-than compare. (R156) -/
  | vcmpLtI8 (d : BitVec 5) (a : BitVec 5) (b : BitVec 5) (m : BitVec 3)
  /-- VCMP_LE_I8: Signed 8-bit less-or-equal compare. (R156) -/
  | vcmpLeI8 (d : BitVec 5) (a : BitVec 5) (b : BitVec 5) (m : BitVec 3)
  /-- VCMP_LTN_I8: Unsigned 8-bit less-than compare. (R156) -/
  | vcmpLtnI8 (d : BitVec 5) (a : BitVec 5) (b : BitVec 5) (m : BitVec 3)
  /-- VCMP_LEN_I8: Unsigned 8-bit less-or-equal compare. (R156) -/
  | vcmpLenI8 (d : BitVec 5) (a : BitVec 5) (b : BitVec 5) (m : BitVec 3)
  /-- VABS_I8: 8-bit lane absolute value. (R156) -/
  | vabsI8 (d : BitVec 5) (a : BitVec 5) (m : BitVec 3)
  /-- VNEG_I8: 8-bit lane negation. (R156) -/
  | vnegI8 (d : BitVec 5) (a : BitVec 5) (m : BitVec 3)
  /-- VRED_SUM_I8: 8-bit wrapping sum reduction. (R158) -/
  | vredSumI8 (d : BitVec 5) (a : BitVec 5) (m : BitVec 3) (x : BitVec 2)
  /-- VRED_MAX_I8: Signed 8-bit maximum reduction. (R158) -/
  | vredMaxI8 (d : BitVec 5) (a : BitVec 5) (m : BitVec 3) (x : BitVec 2)
  /-- VRED_MIN_I8: Signed 8-bit minimum reduction. (R158) -/
  | vredMinI8 (d : BitVec 5) (a : BitVec 5) (m : BitVec 3) (x : BitVec 2)
  /-- VAND_I8: Bitwise AND of 8-bit lanes. (R156) -/
  | vandI8 (d : BitVec 5) (a : BitVec 5) (b : BitVec 5) (m : BitVec 3)
  /-- VOR_I8: Bitwise OR of 8-bit lanes. (R156) -/
  | vorI8 (d : BitVec 5) (a : BitVec 5) (b : BitVec 5) (m : BitVec 3)
  /-- VXOR_I8: Bitwise XOR of 8-bit lanes. (R156) -/
  | vxorI8 (d : BitVec 5) (a : BitVec 5) (b : BitVec 5) (m : BitVec 3)
  /-- VSHL_I8: Left shift of 8-bit lanes. (R157) -/
  | vshlI8 (d : BitVec 5) (a : BitVec 5) (b : BitVec 5) (m : BitVec 3)
  /-- VSHR_I8: Logical right shift of 8-bit lanes. (R157) -/
  | vshrI8 (d : BitVec 5) (a : BitVec 5) (b : BitVec 5) (m : BitVec 3)
  /-- VSRA_I8: Arithmetic right shift of 8-bit lanes. (R157) -/
  | vsraI8 (d : BitVec 5) (a : BitVec 5) (b : BitVec 5) (m : BitVec 3)
  /-- VADD_SAT_I8: Signed saturating 8-bit add. (R156) -/
  | vaddSatI8 (d : BitVec 5) (a : BitVec 5) (b : BitVec 5) (m : BitVec 3)
  /-- VSUB_SAT_I8: Signed saturating 8-bit subtract. (R156) -/
  | vsubSatI8 (d : BitVec 5) (a : BitVec 5) (b : BitVec 5) (m : BitVec 3)
  /-- VADDN_SAT_I8: Unsigned saturating 8-bit add. (R156) -/
  | vaddnSatI8 (d : BitVec 5) (a : BitVec 5) (b : BitVec 5) (m : BitVec 3)
  /-- VSUBN_SAT_I8: Unsigned saturating 8-bit subtract. (R156) -/
  | vsubnSatI8 (d : BitVec 5) (a : BitVec 5) (b : BitVec 5) (m : BitVec 3)
  /-- VCVT_F32: Converts va lane by lane to F32. (R159) -/
  | vcvtF32 (d : BitVec 5) (a : BitVec 5) (m : BitVec 3)
  /-- VCVT_BF16: Converts va to BF16x2. (R159) -/
  | vcvtBf16 (d : BitVec 5) (a : BitVec 5) (m : BitVec 3)
  /-- VCVT_F16: Converts va to F16x2. (R159) -/
  | vcvtF16 (d : BitVec 5) (a : BitVec 5) (m : BitVec 3)
  /-- VCVT_I32: Converts va to I32. (R159) -/
  | vcvtI32 (d : BitVec 5) (a : BitVec 5) (m : BitVec 3)
  /-- VCVT_I16: Converts va to I16x2. (R159) -/
  | vcvtI16 (d : BitVec 5) (a : BitVec 5) (m : BitVec 3)
  /-- VCVT_I8: Converts va to I8x4. (R159) -/
  | vcvtI8 (d : BitVec 5) (a : BitVec 5) (m : BitVec 3)
  /-- VCVT_E4M3: Converts va to E4M3x4. (R159) -/
  | vcvtE4m3 (d : BitVec 5) (a : BitVec 5) (m : BitVec 3)
  /-- VCVT_E5M2: Converts va to E5M2x4. (R159) -/
  | vcvtE5m2 (d : BitVec 5) (a : BitVec 5) (m : BitVec 3)
  /-- VCVT_P_F32: Packing or upper-lane conversion to F32. (R160) -/
  | vcvtPF32 (d : BitVec 5) (a : BitVec 5) (b : BitVec 5) (m : BitVec 3)
  /-- VCVT_P_BF16: Packs va and vb into BF16x2. (R160) -/
  | vcvtPBf16 (d : BitVec 5) (a : BitVec 5) (b : BitVec 5) (m : BitVec 3)
  /-- VCVT_P_F16: Packs or takes upper lanes into F16x2. (R160) -/
  | vcvtPF16 (d : BitVec 5) (a : BitVec 5) (b : BitVec 5) (m : BitVec 3)
  /-- VCVT_P_I32: Packing or upper-lane conversion to I32. (R160) -/
  | vcvtPI32 (d : BitVec 5) (a : BitVec 5) (b : BitVec 5) (m : BitVec 3)
  /-- VCVT_P_I16: Packs or takes upper lanes into I16x2. (R160) -/
  | vcvtPI16 (d : BitVec 5) (a : BitVec 5) (b : BitVec 5) (m : BitVec 3)
  /-- VCVT_P_I8: Packs va and vb into I8x4. (R160) -/
  | vcvtPI8 (d : BitVec 5) (a : BitVec 5) (b : BitVec 5) (m : BitVec 3)
  /-- VCVT_P_E4M3: Packs va and vb into E4M3x4. (R160) -/
  | vcvtPE4m3 (d : BitVec 5) (a : BitVec 5) (b : BitVec 5) (m : BitVec 3)
  /-- VCVT_P_E5M2: Packs va and vb into E5M2x4. (R160) -/
  | vcvtPE5m2 (d : BitVec 5) (a : BitVec 5) (b : BitVec 5) (m : BitVec 3)
  /-- VROT: Rotates elements along a row or column by an immediate. (R162) -/
  | vrot (d : BitVec 5) (a : BitVec 5) (k : BitVec 6) (x : BitVec 2)
  /-- VBCAST: Broadcasts one column or row of va along the axis. (R162) -/
  | vbcast (d : BitVec 5) (a : BitVec 5) (k : BitVec 6) (x : BitVec 2)
  /-- MAND: Element mask AND. (R164) -/
  | mand (d : BitVec 3) (a : BitVec 3) (b : BitVec 3)
  /-- MOR: Element mask OR. (R164) -/
  | mor (d : BitVec 3) (a : BitVec 3) (b : BitVec 3)
  /-- MXOR: Element mask XOR. (R164) -/
  | mxor (d : BitVec 3) (a : BitVec 3) (b : BitVec 3)
  /-- MANDN: Element mask AND NOT. (R164) -/
  | mandn (d : BitVec 3) (a : BitVec 3) (b : BitVec 3)
  /-- MNOT: Element mask complement. (R164) -/
  | mnot (d : BitVec 3) (a : BitVec 3)
  /-- MFROMV: Builds an element mask from a vector read as MASK. (R164) -/
  | mfromv (d : BitVec 3) (a : BitVec 5)
  /-- MTOV: Writes an element mask into a vector register tagged MASK. (R164) -/
  | mtov (d : BitVec 5) (a : BitVec 3)
  /-- MPOPC: Counts the set bits of a mask into a scalar register. (R164) -/
  | mpopc (d : BitVec 5) (a : BitVec 3)
  /-- VSEL: Selects va or vb per element by a mask. (R165) -/
  | vsel (d : BitVec 5) (a : BitVec 5) (b : BitVec 5) (m : BitVec 3)
  /-- VEXP2: F32 base-2 exponential under FMODE. (R161) -/
  | vexp2 (d : BitVec 5) (a : BitVec 5) (m : BitVec 3)
  /-- VLOG2: F32 base-2 logarithm. (R161) -/
  | vlog2 (d : BitVec 5) (a : BitVec 5) (m : BitVec 3)
  /-- VRCP: F32 reciprocal. (R161) -/
  | vrcp (d : BitVec 5) (a : BitVec 5) (m : BitVec 3)
  /-- VRSQ: F32 reciprocal square root. (R161) -/
  | vrsq (d : BitVec 5) (a : BitVec 5) (m : BitVec 3)
  /-- VTANH: F32 hyperbolic tangent. (R161) -/
  | vtanh (d : BitVec 5) (a : BitVec 5) (m : BitVec 3)
  /-- VSILU: F32 SiLU. (R161) -/
  | vsilu (d : BitVec 5) (a : BitVec 5) (m : BitVec 3)
  /-- VMOV: Masked copy of va with its tag. (R163) -/
  | vmov (d : BitVec 5) (a : BitVec 5) (m : BitVec 3)
  /-- VGET: Reads one element into a scalar register. (R163) -/
  | vget (d : BitVec 5) (a : BitVec 5) (b : BitVec 5)
  /-- VSETE: Writes one element from a scalar register. (R163) -/
  | vsete (d : BitVec 5) (a : BitVec 5) (b : BitVec 5)
  /-- VIDX: Writes each element's index, tag I32. (R163) -/
  | vidx (d : BitVec 5) (m : BitVec 3)
  /-- VSPLAT_F32: Splats s[a][31:0] with tag F32. (R163) -/
  | vsplatF32 (d : BitVec 5) (a : BitVec 5) (m : BitVec 3)
  /-- VSPLAT_BF16: Splats s[a][15:0] into both lanes, tag BF16x2. (R163) -/
  | vsplatBf16 (d : BitVec 5) (a : BitVec 5) (m : BitVec 3)
  /-- VSPLAT_F16: Splats s[a][15:0], tag F16x2. (R163) -/
  | vsplatF16 (d : BitVec 5) (a : BitVec 5) (m : BitVec 3)
  /-- VSPLAT_I32: Splats s[a][31:0], tag I32. (R163) -/
  | vsplatI32 (d : BitVec 5) (a : BitVec 5) (m : BitVec 3)
  /-- VSPLAT_I16: Splats s[a][15:0], tag I16x2. (R163) -/
  | vsplatI16 (d : BitVec 5) (a : BitVec 5) (m : BitVec 3)
  /-- VSPLAT_I8: Splats s[a][7:0] into four lanes, tag I8x4. (R163) -/
  | vsplatI8 (d : BitVec 5) (a : BitVec 5) (m : BitVec 3)
  /-- VSPLAT_E4M3: Splats s[a][7:0], tag E4M3x4. (R163) -/
  | vsplatE4m3 (d : BitVec 5) (a : BitVec 5) (m : BitVec 3)
  /-- VSPLAT_E5M2: Splats s[a][7:0], tag E5M2x4. (R163) -/
  | vsplatE5m2 (d : BitVec 5) (a : BitVec 5) (m : BitVec 3)
  /-- VSPLAT_MASK: Splats 1 if s[a] is non-zero, tag MASK. (R163) -/
  | vsplatMask (d : BitVec 5) (a : BitVec 5) (m : BitVec 3)
  /-- VLD: Loads 16 tile rows into a vector register, expanding MX grains. (R167) -/
  | vld (d : BitVec 5) (t : BitVec 8) (r : BitVec 7)
  /-- VST: Stores 16 register rows into a tile, quantising for MX tiles. (R168) -/
  | vst (d : BitVec 5) (t : BitVec 8) (r : BitVec 7)
  /-- VPERM: Permutes vd in place through a tile index table. (R174) -/
  | vperm (d : BitVec 5) (t : BitVec 8) (r : BitVec 7)
  /-- VATOM_ADD_I32: Returning 64-lane atomic integer add. (R182) -/
  | vatomAddI32 (d : BitVec 5) (a : BitVec 5) (b : BitVec 5) (c : BitVec 4) (p : BitVec 3)
  /-- VATOM_ADD_F32: Returning 64-lane atomic binary32 add. (R182) -/
  | vatomAddF32 (d : BitVec 5) (a : BitVec 5) (b : BitVec 5) (c : BitVec 4) (p : BitVec 3)
  /-- VATOM_MIN_I32: Returning 64-lane atomic signed minimum. (R182) -/
  | vatomMinI32 (d : BitVec 5) (a : BitVec 5) (b : BitVec 5) (c : BitVec 4) (p : BitVec 3)
  /-- VATOM_MAX_I32: Returning 64-lane atomic signed maximum. (R182) -/
  | vatomMaxI32 (d : BitVec 5) (a : BitVec 5) (b : BitVec 5) (c : BitVec 4) (p : BitVec 3)
  /-- VATOM_AND: Returning 64-lane atomic AND. (R182) -/
  | vatomAnd (d : BitVec 5) (a : BitVec 5) (b : BitVec 5) (c : BitVec 4) (p : BitVec 3)
  /-- VATOM_OR: Returning 64-lane atomic OR. (R182) -/
  | vatomOr (d : BitVec 5) (a : BitVec 5) (b : BitVec 5) (c : BitVec 4) (p : BitVec 3)
  /-- VATOM_XOR: Returning 64-lane atomic XOR. (R182) -/
  | vatomXor (d : BitVec 5) (a : BitVec 5) (b : BitVec 5) (c : BitVec 4) (p : BitVec 3)
  /-- VATOM_SWAP: Returning 64-lane atomic swap. (R182) -/
  | vatomSwap (d : BitVec 5) (a : BitVec 5) (b : BitVec 5) (c : BitVec 4) (p : BitVec 3)
  /-- VATOM_ADD_I32_NR: Non-returning 64-lane atomic integer add. (R182) -/
  | vatomAddI32Nr (d : BitVec 5) (a : BitVec 5) (b : BitVec 5) (c : BitVec 4) (p : BitVec 3)
  /-- VATOM_ADD_F32_NR: Non-returning 64-lane atomic binary32 add. (R182) -/
  | vatomAddF32Nr (d : BitVec 5) (a : BitVec 5) (b : BitVec 5) (c : BitVec 4) (p : BitVec 3)
  /-- VATOM_MIN_I32_NR: Non-returning 64-lane atomic signed minimum. (R182) -/
  | vatomMinI32Nr (d : BitVec 5) (a : BitVec 5) (b : BitVec 5) (c : BitVec 4) (p : BitVec 3)
  /-- VATOM_MAX_I32_NR: Non-returning 64-lane atomic signed maximum. (R182) -/
  | vatomMaxI32Nr (d : BitVec 5) (a : BitVec 5) (b : BitVec 5) (c : BitVec 4) (p : BitVec 3)
  /-- VATOM_AND_NR: Non-returning 64-lane atomic AND. (R182) -/
  | vatomAndNr (d : BitVec 5) (a : BitVec 5) (b : BitVec 5) (c : BitVec 4) (p : BitVec 3)
  /-- VATOM_OR_NR: Non-returning 64-lane atomic OR. (R182) -/
  | vatomOrNr (d : BitVec 5) (a : BitVec 5) (b : BitVec 5) (c : BitVec 4) (p : BitVec 3)
  /-- VATOM_XOR_NR: Non-returning 64-lane atomic XOR. (R182) -/
  | vatomXorNr (d : BitVec 5) (a : BitVec 5) (b : BitVec 5) (c : BitVec 4) (p : BitVec 3)
  /-- VATOM_LANE_RETURN: A VATOM lane returns applied or not applied; the last return ends the instruction or traps VATOM_INCOMPLETE. (R182) -/
  | vatomLaneReturn (lane : Nat) (applied : Bool)
  /-- ENQ: Writes a 256-bit command from a register quad into a command ring, stalling when full. (R189) -/
  | enq (r : BitVec 2) (q : BitVec 3)
  /-- ENQ_NB: Writes a command into a ring or records refusal in ENQST when full. (R189) -/
  | enqNb (r : BitVec 2) (q : BitVec 3)
  /-- TALLOC: Allocates a tile-table entry from a quad image. (R261) -/
  | talloc (t : BitVec 8) (q : BitVec 3)
  /-- TFREE: Waits for the tile to be idle, writes back a dirty region tile, and frees the entry. (R263) -/
  | tfree (t : BitVec 8)
  /-- TWAIT: Waits until the tile is EMPTY or READY with no reads in flight. (R264) -/
  | twait (t : BitVec 8)
  /-- TSET: Rewrites a tile entry's RW fields from a quad image. (R262) -/
  | tset (t : BitVec 8) (q : BitVec 3)
  /-- TGET: Reads doubleword 0 of a tile entry without waiting. (R265) -/
  | tget (d : BitVec 5) (t : BitVec 8)
  /-- MFC: Reads a control register into a scalar register. (R283) -/
  | mfc (d : BitVec 5) (c : BitVec 12)
  /-- MTC: Writes a control register's RW fields and acts on its WO fields. (R283) -/
  | mtc (a : BitVec 5) (c : BitVec 12)
  /-- TRAP: Takes TRAP_INSN with a 12-bit code, returning past the instruction. (R286) -/
  | trap (n : BitVec 12)
  /-- RETT: Returns from kernel mode to task mode at TPC. (R289) -/
  | rett
  /-- RETRY: Restarts halted, delivered rings and returns as RETT. (R290) -/
  | retry
  /-- SAFEPT: Marks a safe point, resets the overdue count, and halts if a pre-emption is pending. (R276) -/
  | safept (k : BitVec 12)
  /-- WAITC: Ends the task and stores a continuation record for later signals. (R273) -/
  | waitc (a : BitVec 5) (k : BitVec 12)
  /-- TASK_EXIT: WAITC with s0: drains rings, frees tiles and ends the task. (R273) -/
  | taskExit
  /-- VALLOC: Sets the context's vector allocation to k groups. (R178) -/
  | valloc (k : BitVec 12)
  /-- WAITX: Holds the context until its crossbar count is at most n. (R175) -/
  | waitx (n : BitVec 12)
  /-- SNAPOPEN: Reads an SF region's version with acquire and raises the open version. (R281) -/
  | snapopen (d : BitVec 5) (a : BitVec 5)
  /-- SNAPPUB: Drains, writes back the region's dirty lines, and increments its version. (R282) -/
  | snappub (d : BitVec 5) (a : BitVec 5)
  /-- TOKW: Waits for and pops a token from a stream-consumed FIFO. (R266) -/
  | tokw (s : BitVec 6)
  /-- TOKS: Pushes a token into a stream-produced FIFO as a release. (R266) -/
  | toks (s : BitVec 6)
  /-- SEMW: Waits until a semaphore is at least 1 and decrements it. (R266) -/
  | semw (s : BitVec 6)
  /-- SEMS: Increments a semaphore, trapping on overflow. (R266) -/
  | sems (s : BitVec 6)
  /-- SEMR: Reads a semaphore's value without waiting. (R266) -/
  | semr (d : BitVec 5) (s : BitVec 6)
  /-- POND_SYNC: Arrives at a barrier of pond level 1, 2 or 3. (R270) -/
  | pondSync (l : BitVec 2)
  /-- FENCE: Waits until earlier accesses of covered classes have performed at the scope. (R278) -/
  | fence (s : BitVec 3) (m : BitVec 16)
  /-- STALL_CLEAR: A stalled context's blocking condition clears and the instruction issues. (R18) -/
  | stallClear
  /-- SAFE_POINT_OVERDUE: The 4,096th counted instruction after a safe point kills the task. (R56) -/
  | safePointOverdue
  /-- ROLLBACK_RESUME: After the iteration's issued commands complete, gives back waits, replays the journal and restarts at S. (R414) -/
  | rollbackResume
  /-- TASK_END: After rings drain and accesses perform, frees tiles, stores the continuation and frees the context. (R273) -/
  | taskEnd
  /-- REGISTER_DROWSY: An ACTIVE vector register unreferenced for 4,096 cycles becomes DROWSY. (R27) -/
  | registerDrowsy (reg : Nat)
  /-- DEBUGGER_READ: A debugger reads a vector register's contents, tag and power state. (R28) -/
  | debuggerRead (reg : Nat)
  /-- TLOAD: Loads a tensor region into a tile. (R206) -/
  | tload (r : Ring) (c : Cmd)
  /-- TLOADT: Loads a tensor region transposed into a tile. (R204) -/
  | tloadt (r : Ring) (c : Cmd)
  /-- TSTORE: Stores tile contents into a tensor region. (R206) -/
  | tstore (r : Ring) (c : Cmd)
  /-- TSTORET: Stores tile contents transposed into a tensor region. (R204) -/
  | tstoret (r : Ring) (c : Cmd)
  /-- COPY: Copies a tensor from one handle's layout to another's. (R208) -/
  | copy (r : Ring) (c : Cmd)
  /-- FILL_TILE: FILL with M = 0 writes a tile with a pattern or ZERO grains. (R209) -/
  | fillTile (r : Ring) (c : Cmd)
  /-- FILL_MEMORY: FILL with M = 1 writes LEN bytes of memory with a pattern. (R209) -/
  | fillMemory (r : Ring) (c : Cmd)
  /-- GATHER: Writes tile rows from indexed memory rows. (R210) -/
  | gather (r : Ring) (c : Cmd)
  /-- SCATTER: Writes tile rows to indexed memory rows. (R210) -/
  | scatter (r : Ring) (c : Cmd)
  /-- BIND: Reads and checks a handle, keeping a bound copy and page list. (R203) -/
  | bind (r : Ring) (c : Cmd)
  /-- UNBIND: Frees a handle's binding slot. (R202) -/
  | unbind (r : Ring) (c : Cmd)
  /-- BLOAD: Declares a block in the block cache and starts filling it. (R211) -/
  | bload (r : Ring) (c : Cmd)
  /-- BWAIT: Waits until a block's completion flag is set. (R211) -/
  | bwait (r : Ring) (c : Cmd)
  /-- BDISC: Ends a block without writing it back. (R212) -/
  | bdisc (r : Ring) (c : Cmd)
  /-- BFLUSH: Writes back a block's dirty lines, optionally dropping it. (R211) -/
  | bflush (r : Ring) (c : Cmd)
  /-- RFETCH: Copies lines from pool or peer HBM to local memory. (R213) -/
  | rfetch (r : Ring) (c : Cmd)
  /-- RSEND: Copies lines from local memory to pool or peer HBM. (R213) -/
  | rsend (r : Ring) (c : Cmd)
  /-- MIGRATE: Queues a page migration request and completes at once. (R214) -/
  | migrate (r : Ring) (c : Cmd)
  /-- TWBACK: Writes back a dirty region-mapped tile. (R215) -/
  | twback (r : Ring) (c : Cmd)
  /-- CINV: Writes back and invalidates a range in device caches. (R216) -/
  | cinv (r : Ring) (c : Cmd)
  /-- MARK: Moves no data; signals after earlier ring commands complete. (R217) -/
  | mark (r : Ring) (c : Cmd)
  /-- KVAPPEND: Appends tokens' K and V to a layer, with copy-on-write and rescale. (R243) -/
  | kvappend (r : Ring) (c : Cmd)
  /-- KVGROW: Doubles a layer's slab with forwarding and commits the new slab. (R246) -/
  | kvgrow (r : Ring) (c : Cmd)
  /-- KVCOW: Performs pending releases and copy-on-write for each layer without appending. (R245) -/
  | kvcow (r : Ring) (c : Cmd)
  /-- KVREMAP: Forks a sequence's layers into an empty destination by reference. (R250) -/
  | kvremap (r : Ring) (c : Cmd)
  /-- PFXWALK: Matches tokens against the brine tree and takes counted prefix pages. (R251) -/
  | pfxwalk (r : Ring) (c : Cmd)
  /-- PFXINS: Copies pages into supplied slots, writes new nodes and links them. (R253) -/
  | pfxins (r : Ring) (c : Cmd)
  /-- PFXREL_SEQUENCE: PFXREL with LIST = 0 empties a sequence and releases its prefix slots. (R254) -/
  | pfxrelSequence (r : Ring) (c : Cmd)
  /-- PFXREL_LIST: PFXREL with LIST = 1 decrements the counts of a slot list. (R254) -/
  | pfxrelList (r : Ring) (c : Cmd)
  /-- PFXDIR_CLAIM: Claims an absent prefix directory entry for this device. (R255) -/
  | pfxdirClaim (r : Ring) (c : Cmd)
  /-- PFXDIR_SHARE: Adds this device as a reader of a directory entry. (R255) -/
  | pfxdirShare (r : Ring) (c : Cmd)
  /-- PFXDIR_DROP: Drops a reader bit, or the holder's claim after in-flight ATTNR. (R255) -/
  | pfxdirDrop (r : Ring) (c : Cmd)
  /-- ATTNR: Sends a remote attention request to a prefix holder and merges its partial. (R256) -/
  | attnr (r : Ring) (c : Cmd)
  /-- ATTNR_REPLY: The holder's reply arrives and is merged into S and O, or faults. (R256) -/
  | attnrReply (reply : AttnReply)
  /-- ATTNR_TIMEOUT: No reply 100 µs after both planes fail raises PFX_REMOTE. (R258) -/
  | attnrTimeout
  /-- MMUL: Computes C := A·Bᵀ (+ C) on the score array in passes. (R222) -/
  | mmul (r : Ring) (c : Cmd)
  /-- MMUL2: Computes two products at once on both arrays. (R222) -/
  | mmul2 (r : Ring) (c : Cmd)
  /-- ATTN: Computes one 64-key chunk of attention into S and O. (R224) -/
  | attn (r : Ring) (c : Cmd)
  /-- ATTN_SOFTMAX_START: An ATTN's soft-maximum step begins once S and O pass their gate. (R228) -/
  | attnSoftmaxStart
  /-- MXV: Computes a matrix-vector product on both arrays. (R226) -/
  | mxv (r : Ring) (c : Cmd)
  /-- MZERO: Zeroes a tile as a writer. (R227) -/
  | mzero (r : Ring) (c : Cmd)
  /-- SINIT: Initialises statistics rows and optionally O. (R227) -/
  | sinit (r : Ring) (c : Cmd)
  /-- SFIN: Divides each O row by its sum l. (R227) -/
  | sfin (r : Ring) (c : Cmd)
  /-- SMERGE: Merges two partial attention results row by row. (R227) -/
  | smerge (r : Ring) (c : Cmd)
  /-- SCOPY: Copies statistics bytes from one tile to another. (R227) -/
  | scopy (r : Ring) (c : Cmd)
  /-- ARRAY_PASS_END: A pass completes; the gauge row is compared and the pass writes, reruns or faults. (R230) -/
  | arrayPassEnd (arr : Bool) (o : Gauge) (cols : List Nat)
  /-- MATRIX_FREEZE: A late scratchpad read freezes the arrays and soft-maximum stage. (R229) -/
  | matrixFreeze
  /-- MATRIX_RESUME: The late read returns and the frozen units resume together. (R229) -/
  | matrixResume
  /-- ARRAY_ROW_REMAP: A row reaching THR is remapped to the spare row between passes. (R424) -/
  | arrayRowRemap (arr : Bool) (row : Nat)
  /-- BITTERN_COMMIT: Bizil commits an array's bittern record to non-volatile storage. (R423) -/
  | bitternCommit (arr : Bool)
  /-- ENGINE_FAULT: After outstanding requests complete, records the fault and halts the ring. (R196) -/
  | engineFault (r : Ring)
  /-- COMMAND_COMPLETE: A command's effects perform and its signal fires in ring order. (R192) -/
  | commandComplete (r : Ring)
  /-- HELD_SIGNAL_PUSH: A signal held on a full FIFO pushes once a token is popped. (R44) -/
  | heldSignalPush (r : Ring)
  /-- BLOCK_FILL_COMPLETE: Every line of a declared block is filled and its completion flag is set. (R211) -/
  | blockFillComplete (va : Nat)
  /-- REGION_FILL_COMPLETE: A region fill completes; the tile becomes READY with TOUCHED set. (R35) -/
  | regionFillComplete (tile : Nat)
  /-- BARRIER_PASS: Every member has arrived and the members pass the barrier. (R270) -/
  | barrierPass (level : Nat)
  /-- DOORBELL: A host doorbell write raises KICK by unsigned maximum. (R381) -/
  | doorbell (q : Nat) (v : BitVec 64)
  /-- KICK_REPORT: The atomic unit reports a BOUND queue's KICK change to the sluice. (R382) -/
  | kickReport (q : Nat)
  /-- QUEUE_SCAN: Every 10 µs a worker reads the KICK of every enabled unbound queue. (R382) -/
  | queueScan
  /-- QUEUE_IDLE_TIMEOUT: A BOUND queue idle 100 µs with a waiting bind list returns to IDLE. (R383) -/
  | queueIdleTimeout (q : Nat)
  /-- PACKET_LAUNCH: Parses a LAUNCH packet, admits it and places it in the heap or a batch. (R385) -/
  | packetLaunch (q : Nat)
  /-- PACKET_RESUME: Performs a RESUME packet's decrement on a continuation record. (R389) -/
  | packetResume (q : Nat)
  /-- PACKET_SHOOTDOWN: Starts a TLB shoot-down from its payload. (R348) -/
  | packetShootdown (q : Nat)
  /-- PACKET_NOP: Enters the heap as a launch with no tasks. (R389) -/
  | packetNop (q : Nat)
  /-- SHOOTDOWN_COMPLETE: Matching entries are dropped and earlier walks and accesses done; the packet completes. (R349) -/
  | shootdownComplete
  /-- BATCH_CLOSE: A batch window closes and enters the heap as one entry. (R403) -/
  | batchClose (w : Nat)
  /-- DISPATCH: Starts the first ready heap entry that fits, group by group. (R393) -/
  | dispatch
  /-- PROLOGUE_START: Runs a packet's prologue on a worker when it is the ready minimum. (R397) -/
  | prologueStart
  /-- PROLOGUE_OVERRUN: A prologue that issues 65,536 instructions ends with PROLOGUE_FAULT. (R398) -/
  | prologueOverrun (worker : Nat)
  /-- LAUNCH_COMPLETE: Writes the completion record, satisfies dependences, signals WCVA and interrupts. (R388) -/
  | launchComplete (lid : BitVec 32)
  /-- HALT_COMPLETE: A halted context's rings quiesce and its state is saved into a save block. (R417) -/
  | haltComplete
  /-- PARTITION_SWAP: Halts a partition's contexts and writes back its block-cache slices. (R422) -/
  | partitionSwap (part : Nat)
  /-- SWAP_EXCHANGE: After the halt, exchanges the clusters' state with their cellars in 1.6 µs. (R422) -/
  | swapExchange (part : Nat)
  /-- THERMAL_LEVEL_CHANGE: The thermal controller changes level; clocks step and shedding acts. (R470) -/
  | thermalLevelChange (celsius : Int)
  /-- LOCKSTEP_MISMATCH: The sluice pair's results differ; both stop and trap to Bizil. (R429) -/
  | lockstepMismatch
  /-- LOCKSTEP_RESTART: The pair restarts from its last committed state and resumes dispatch. (R378) -/
  | lockstepRestart
  /-- MIGRATION_START: The migration unit takes a frame, sets MIG, shoots down and copies a page. (R351) -/
  | migrationStart
  /-- MIGRATION_SWITCH: The copy completes; the leaf is switched atomically and the old frame returned. (R351) -/
  | migrationSwitch
  /-- MIGRATION_DEADLINE_DROP: A migration request not started by its deadline is dropped and counted. (R214) -/
  | migrationDeadlineDrop
  /-- MIGRATION_ABANDON: A write waiting 50 µs on MIG abandons the migration and proceeds. (R351) -/
  | migrationAbandon
  /-- PT_NODE_BUSY: A non-leaf entry keeps MIG set for 50 µs and the walk faults. (R343) -/
  | ptNodeBusy
  /-- HEAT_SWEEP: Every SWEEP period the sweeper fades every leaf's heat by 1. (R346) -/
  | heatSweep
  /-- LAGOON_SCRUB_VISIT: The scrubber visits a lagoon frame and invalidates it if its stamp is out of range. (R337) -/
  | lagoonScrubVisit
  /-- BI_SNOOP: A back-invalidation snoop recalls or downgrades a BI line. (R439) -/
  | biSnoop (pa : Nat) (k : Snoop)
  /-- ADD_CAPACITY: An Add Capacity event offers an extent to the host driver or is declined. (R443) -/
  | addCapacity (module : Nat) (start : Nat) (len : Nat)
  /-- RELEASE_CAPACITY: A release request moves an ONLINE extent to RELEASING. (R443) -/
  | releaseCapacity (start : Nat)
  /-- CAPACITY_ACCEPT: The host driver accepts an offered extent; it goes ONLINE. (R443) -/
  | capacityAccept (start : Nat)
  /-- CAPACITY_DECLINE: The host driver declines an offered extent. (R443) -/
  | capacityDecline (start : Nat)
  /-- CONFIRM_REVOCATION: The host driver confirms revocation; the extent is released. (R443) -/
  | confirmRevocation (start : Nat)
  /-- FORCED_REMOVAL: The module removes an extent; in-flight accesses complete poisoned or dropped. (R444) -/
  | forcedRemoval (start : Nat)
  /-- HEAD_LINK_DOWN: A pool head's port goes down and its requests replay on the other head. (R445) -/
  | headLinkDown (port : Nat)
  /-- HEAD_COMPLETION_TIMEOUT: A request without completion for 4 µs fails its head. (R445) -/
  | headCompletionTimeout (port : Nat)
  /-- HEAD_RECOVER: A failed head's port trains again and interleave resumes after replays. (R445) -/
  | headRecover (port : Nat)
  /-- MODULE_UNREACHABLE: Both heads down for 100 µs make the module unreachable. (R447) -/
  | moduleUnreachable (module : Nat)
  /-- LANE_FAILURE: A failing SerDes lane retrains the port with its spare, at ×4 or down. (R434) -/
  | laneFailure (port : Nat)
  /-- PORT_RETRAIN_DONE: A port's retrain completes and it carries traffic again. (R434) -/
  | portRetrainDone (port : Nat)
  /-- IDE_FAILURE: An unrecoverable IDE failure takes a port down; one that the link recovers is counted. (R432, R472) -/
  | ideFailure (rep : IdeReport)
  /-- WRITE: Garetor WRITE arrives and is applied in lane sequence order. (R452) -/
  | write (p : GPacket)
  /-- READ: Garetor READ arrives, is applied in order and answered with DATA. (R452) -/
  | read (p : GPacket)
  /-- DATA: A read response arrives and the READ performs. (R454) -/
  | data (p : GPacket)
  /-- ATOM: Garetor ATOM arrives and is applied once, duplicates answered from the result cache. (R453) -/
  | atom (p : GPacket)
  /-- RED: Garetor RED arrives and is applied in lane order. (R452) -/
  | red (p : GPacket)
  /-- RESULT: A RESULT arrives: an atomic's old value, a refusal, BUSY or HELD. (R457) -/
  | result (p : GPacket)
  /-- ACK: A cumulative acknowledgement arrives and resolves packets of a lane. (R454) -/
  | ack (p : GPacket)
  /-- AREQ: An ATTNR request arrives; the holder computes SINIT and ATTN and replies. (R257) -/
  | areq (p : GPacket)
  /-- AREP: An ATTNR reply arrives at the requester. (R256) -/
  | arep (p : GPacket)
  /-- TIME: A device-time exchange packet arrives and steers TIME. (R459) -/
  | time (p : GPacket)
  /-- ACK_SEND: Sends a cumulative acknowledgement within 1 µs or after 64 packets. (R454) -/
  | ackSend (src : Nat) (lane : Nat)
  /-- BUSY_RESEND: A packet refused BUSY is sent again after 1 µs. (R452) -/
  | busyResend (dst : Nat) (lane : Nat) (seq : BitVec 16)
  /-- APPLY_RETRY: Retries a not-applied packet every 1 µs at the head of its lane. (R457) -/
  | applyRetry (src : Nat) (lane : Nat) (applied : Bool)
  /-- HELD_SEND: Every 2 µs of retrying sends a HELD result to the source. (R457) -/
  | heldSend (src : Nat) (lane : Nat)
  /-- APPLY_REFUSE: After 100 µs of retries the packet is refused NOT_APPLIED. (R457) -/
  | applyRefuse (src : Nat) (lane : Nat)
  /-- PLANE_FAIL_TIMEOUT: A packet unresolved for 3 µs fails its plane and replays on the other. (R455) -/
  | planeFailTimeout (dst : Nat) (plane : Bool)
  /-- PLANE_LINK_DOWN: Both ports of a plane report down and the plane fails. (R455) -/
  | planeLinkDown (plane : Bool)
  /-- PLANE_RESTORE: A failed plane returns after 1 ms of lossless TIME exchange. (R455) -/
  | planeRestore (dst : Nat) (plane : Bool)
  /-- PLANE_RETRY: With both planes failed, retries both every 10 µs. (R456) -/
  | planeRetry (dst : Nat)
  /-- PEER_UNREACHABLE: After 100 µs without recovery, accesses to the destination complete as unreachable. (R456) -/
  | peerUnreachable (dst : Nat)
  /-- TIME_EXCHANGE: Every 10 µs the reference device exchanges TIME packets with every other device. (R459) -/
  | timeExchange
  /-- SYNC_LOSS: No TIME exchange for 1 ms sets SYNCLOSS and reports an event. (R459) -/
  | syncLoss
  /-- CHANNEL_SPARE_SWITCH: Firmware switches a failing HBM channel to its spare for up to 20 µs. (R334) -/
  | channelSpareSwitch (stack : Nat) (channel : Nat)
  /-- UNCORRECTABLE_ERROR: An uncorrectable error becomes poison where table Error origins gives. (R406) -/
  | uncorrectableError (site : ErrorSite)
  /-- CONTROL_STATE_ERROR: An error in tile table, ring, loop or control state kills every task on the core. (R408) -/
  | controlStateError
  /-- ROW_SPARE_START: A failing scratchpad or vault row starts copying to a spare row. (R425) -/
  | rowSpareStart (bank : Nat) (row : Nat) (vault : Bool)
  /-- ROW_SPARE_SWITCH: The copy ends and the row switches atomically to the spare. (R425) -/
  | rowSpareSwitch (bank : Nat) (row : Nat) (vault : Bool)
  /-- TELEMETRY_WRITE: Every 1 ms writes the telemetry block at TELBASE. (R472) -/
  | telemetryWrite
  /-- CONFIG_WRITE: Writes a configuration register, discarding idle-only writes while a partition is formed. (R461) -/
  | configWrite (off : Nat) (v : BitVec 64)
  /-- WARM_RESET_REQUEST: DEVCTL.WARM requests a warm reset. (R463) -/
  | warmResetRequest
  /-- MAINT_RESET_REQUEST: DEVCTL.MAINT requests a maintenance reset that burns repairs. (R463) -/
  | maintResetRequest
  /-- PARTITION_FORM: PFORM bit 0 forms every partition that CLUCFG names. (R461) -/
  | partitionForm
  /-- PARTITION_DISSOLVE: PFORM bit 1 dissolves all partitions unless a queue is enabled. (R461) -/
  | partitionDissolve
  /-- GARETOR_RESET: GRST resets the Garetor state towards one device. (R456) -/
  | garetorReset (n : Nat)
  /-- HOST_BAR_ACCESS: A host access to BAR 4 reaches local HBM, or is void outside READY. (R465) -/
  | hostBarAccess (wr : Bool) (addr : Nat) (bs : List Byte)
  /-- ATTEST: Mailbox ATTEST returns a signed attestation report. (R467) -/
  | attest (nonce : List Byte)
  /-- DEPLOY: Signed mailbox request moving MANUFACTURE to DEPLOYED. (R468) -/
  | deploy (by_ : Signed)
  /-- TAKE_OWNERSHIP: Signed mailbox request moving DEPLOYED to OWNED. (R468) -/
  | takeOwnership (by_ : Signed) (digest : List Byte)
  /-- RELEASE_OWNERSHIP: Owner-signed request moving OWNED to DEPLOYED. (R468) -/
  | releaseOwnership (by_ : Signed)
  /-- RETIRE: Signed request retiring the device and destroying its secret. (R468) -/
  | retire (by_ : Signed)
  /-- RAISE_SECURITY_MINIMUM: Signed mailbox command raising the fused minimum security version. (R466) -/
  | raiseSecurityMinimum (by_ : Signed) (stage : Nat) (v : BitVec 16)
  /-- RECOVERY_IMAGE: The host supplies a firmware image through the mailbox in RECOVERY. (R466) -/
  | recoveryImage (img : List StageImage)
  /-- COLD_RESET: Power-up or fundamental reset starts the reset sequence. (R463) -/
  | coldReset
  /-- RESET_PHASE_END: After 10 µs clocks settle and the device enters BOOT. (R463) -/
  | resetPhaseEnd
  /-- BOOT_COMPLETE: Firmware verified and links trained; the device enters WIPE or RECOVERY. (R466) -/
  | bootComplete (rep : BootReport)
  /-- WIPE_COMPLETE: Memories are zeroed and the device enters READY. (R464) -/
  | wipeComplete
  /-- POWER_OFF: Board power is removed and nothing in the device runs. (R470) -/
  | powerOff
  /-- OUT_OF_SERVICE_TEMPERATURE: At 108 °C Bizil sets STATE to OUT_OF_SERVICE, stops dispatch and raises an event. (R470) -/
  | outOfServiceTemperature
  /-- MODULE_REENUMERATION: The host driver re-enumerates an unreachable pool module, which returns to service. (R447) -/
  | moduleReenumeration (module : Nat)
  /-- SPARE_CHANNEL_SWITCH_END: An HBM channel's switch to its spare channel ends, at most 20 µs after it began, and the unit stops refusing accesses. (R334) -/
  | spareChannelSwitchEnd (stack : Nat) (channel : Nat)
  deriving DecidableEq, Repr

end Sys2Proof
end

