-- ==== Sys2Proof/WellFormed.lean ====
section
/-!
DEFINITION. Which instructions are well formed: the operand values that 03 R91, R95, R96, R97 and R99 define.
An encoding whose field holds another value is no instruction: `decodeWord` refuses it by name.
-/
namespace Sys2Proof

/-- The command opcode: doubleword 0 bits 7:0 (03 R98). -/
def Cmd.opc (c : Cmd) : Nat := c.w0.toNat % 256

/-- Flag Fk: doubleword 0 bit 27 + k (06 R201). -/
def Cmd.flag (c : Cmd) (k : Nat) : Bool := c.w0.toNat / 2 ^ (27 + k) % 2 == 1

/-- OP of PFXDIR: bits 1:0 of the operand field (07 R234). -/
def Cmd.dirOp (c : Cmd) : Nat := c.w0.toNat / 2 ^ 32 % 4

/-- The operand values the spec defines for each instruction. A command is well formed when its opcode (and, where one
opcode gives several rows, the flag or OP that tells them apart) is the row's and the ring accepts it (03 R99).
An event carries no encoding, so it is always well formed. -/
def Instr.wf : Instr → Bool
  | .add _ _ _ _ _ _ => true
  | .sub _ _ _ _ _ _ => true
  | .mul _ _ _ _ _ _ => true
  | .mulh _ _ _ _ _ => true
  | .div _ _ _ _ _ _ => true
  | .rem _ _ _ _ _ => true
  | .min _ _ _ _ _ => true
  | .max _ _ _ _ _ => true
  | .and _ _ _ _ _ => true
  | .or _ _ _ _ _ => true
  | .xor _ _ _ _ _ => true
  | .andn _ _ _ _ _ => true
  | .shl _ _ _ _ _ => true
  | .shr _ _ _ _ _ => true
  | .ror _ _ _ _ _ => true
  | .clz _ _ _ _ => true
  | .popc _ _ _ _ => true
  | .abs _ _ _ _ _ => true
  | .neg _ _ _ _ _ => true
  | .ext _ _ _ _ => true
  | .madd _ _ _ _ => true
  | .msub _ _ _ _ => true
  | .sel _ _ _ _ => true
  | .cmpEq _ _ _ _ _ => true
  | .cmpNe _ _ _ _ _ => true
  | .cmpLt _ _ _ _ _ => true
  | .cmpLe _ _ _ _ _ => true
  | .cmpGt _ _ _ _ _ => true
  | .cmpGe _ _ _ _ _ => true
  | .addi _ _ _ => true
  | .addis _ _ _ => true
  | .andi _ _ _ => true
  | .ori _ _ _ => true
  | .xori _ _ _ => true
  | .shli _ _ _ => true
  | .shri _ _ _ => true
  | .srai _ _ _ => true
  | .rori _ _ _ => true
  | .slti _ _ _ => true
  | .sltin _ _ _ => true
  | .beq _ _ _ => true
  | .bne _ _ _ => true
  | .blt _ _ _ => true
  | .bge _ _ _ => true
  | .bltn _ _ _ => true
  | .bgen _ _ _ => true
  | .btst _ _ _ => true
  | .btstz _ _ _ => true
  | .j _ => true
  | .jl _ => true
  | .jr _ => true
  | .jlr _ _ => true
  | .loop _ l => l != 0
  | .loopS r _ n l => l != 0 && r.toNat ≤ 4 && n.toNat < 2 ^ r.toNat
  | .ldN _ _ _ _ _ => true
  | .ldI _ _ _ _ _ => true
  | .st _ _ _ _ _ => true
  | .ldxN _ _ _ _ _ => true
  | .ldxI _ _ _ _ _ => true
  | .stx _ _ _ _ _ => true
  | .ldAcq _ _ _ _ _ => true
  | .stRel _ _ _ _ _ => true
  | .atomSwap _ _ _ _ p _ => p.toNat ≤ 4
  | .atomCas _ _ _ _ p _ => p.toNat ≤ 4
  | .atomAdd _ _ _ _ p _ => p.toNat ≤ 4
  | .atomAnd _ _ _ _ p _ => p.toNat ≤ 4
  | .atomOr _ _ _ _ p _ => p.toNat ≤ 4
  | .atomXor _ _ _ _ p _ => p.toNat ≤ 4
  | .atomMin _ _ _ _ p _ => p.toNat ≤ 4
  | .atomMax _ _ _ _ p _ => p.toNat ≤ 4
  | .atomMinn _ _ _ _ p _ => p.toNat ≤ 4
  | .atomMaxn _ _ _ _ p _ => p.toNat ≤ 4
  | .atomFadd _ _ _ p _ => p.toNat ≤ 4
  | .redAdd _ _ _ _ p _ => p.toNat ≤ 4
  | .redAnd _ _ _ _ p _ => p.toNat ≤ 4
  | .redOr _ _ _ _ p _ => p.toNat ≤ 4
  | .redXor _ _ _ _ p _ => p.toNat ≤ 4
  | .redMin _ _ _ _ p _ => p.toNat ≤ 4
  | .redMax _ _ _ _ p _ => p.toNat ≤ 4
  | .redMinn _ _ _ _ p _ => p.toNat ≤ 4
  | .redMaxn _ _ _ _ p _ => p.toNat ≤ 4
  | .redFadd _ _ _ p _ => p.toNat ≤ 4
  | .redPerform => true
  | .vaddF32 _ _ _ _ => true
  | .vsubF32 _ _ _ _ => true
  | .vmulF32 _ _ _ _ => true
  | .vfmaF32 _ _ _ _ => true
  | .vminF32 _ _ _ _ => true
  | .vmaxF32 _ _ _ _ => true
  | .vabsF32 _ _ _ => true
  | .vnegF32 _ _ _ => true
  | .vcmpEqF32 _ _ _ _ => true
  | .vcmpNeF32 _ _ _ _ => true
  | .vcmpLtF32 _ _ _ _ => true
  | .vcmpLeF32 _ _ _ _ => true
  | .vredSumF32 _ _ _ x => x == 1 || x == 2
  | .vredMaxF32 _ _ _ x => x == 1 || x == 2
  | .vredMinF32 _ _ _ x => x == 1 || x == 2
  | .vaddBf16 _ _ _ _ => true
  | .vsubBf16 _ _ _ _ => true
  | .vmulBf16 _ _ _ _ => true
  | .vfmaBf16 _ _ _ _ => true
  | .vminBf16 _ _ _ _ => true
  | .vmaxBf16 _ _ _ _ => true
  | .vabsBf16 _ _ _ => true
  | .vnegBf16 _ _ _ => true
  | .vcmpEqBf16 _ _ _ _ => true
  | .vcmpNeBf16 _ _ _ _ => true
  | .vcmpLtBf16 _ _ _ _ => true
  | .vcmpLeBf16 _ _ _ _ => true
  | .vredSumBf16 _ _ _ x => x == 1 || x == 2
  | .vredMaxBf16 _ _ _ x => x == 1 || x == 2
  | .vredMinBf16 _ _ _ x => x == 1 || x == 2
  | .vaddF16 _ _ _ _ => true
  | .vsubF16 _ _ _ _ => true
  | .vmulF16 _ _ _ _ => true
  | .vfmaF16 _ _ _ _ => true
  | .vminF16 _ _ _ _ => true
  | .vmaxF16 _ _ _ _ => true
  | .vabsF16 _ _ _ => true
  | .vnegF16 _ _ _ => true
  | .vcmpEqF16 _ _ _ _ => true
  | .vcmpNeF16 _ _ _ _ => true
  | .vcmpLtF16 _ _ _ _ => true
  | .vcmpLeF16 _ _ _ _ => true
  | .vredSumF16 _ _ _ x => x == 1 || x == 2
  | .vredMaxF16 _ _ _ x => x == 1 || x == 2
  | .vredMinF16 _ _ _ x => x == 1 || x == 2
  | .vaddI32 _ _ _ _ => true
  | .vsubI32 _ _ _ _ => true
  | .vmulI32 _ _ _ _ => true
  | .vmadI32 _ _ _ _ => true
  | .vminI32 _ _ _ _ => true
  | .vmaxI32 _ _ _ _ => true
  | .vminnI32 _ _ _ _ => true
  | .vmaxnI32 _ _ _ _ => true
  | .vcmpEqI32 _ _ _ _ => true
  | .vcmpNeI32 _ _ _ _ => true
  | .vcmpLtI32 _ _ _ _ => true
  | .vcmpLeI32 _ _ _ _ => true
  | .vcmpLtnI32 _ _ _ _ => true
  | .vcmpLenI32 _ _ _ _ => true
  | .vabsI32 _ _ _ => true
  | .vnegI32 _ _ _ => true
  | .vredSumI32 _ _ _ x => x == 1 || x == 2
  | .vredMaxI32 _ _ _ x => x == 1 || x == 2
  | .vredMinI32 _ _ _ x => x == 1 || x == 2
  | .vandI32 _ _ _ _ => true
  | .vorI32 _ _ _ _ => true
  | .vxorI32 _ _ _ _ => true
  | .vshlI32 _ _ _ _ => true
  | .vshrI32 _ _ _ _ => true
  | .vsraI32 _ _ _ _ => true
  | .vaddSatI32 _ _ _ _ => true
  | .vsubSatI32 _ _ _ _ => true
  | .vaddnSatI32 _ _ _ _ => true
  | .vsubnSatI32 _ _ _ _ => true
  | .vaddI16 _ _ _ _ => true
  | .vsubI16 _ _ _ _ => true
  | .vmulI16 _ _ _ _ => true
  | .vmadI16 _ _ _ _ => true
  | .vminI16 _ _ _ _ => true
  | .vmaxI16 _ _ _ _ => true
  | .vminnI16 _ _ _ _ => true
  | .vmaxnI16 _ _ _ _ => true
  | .vcmpEqI16 _ _ _ _ => true
  | .vcmpNeI16 _ _ _ _ => true
  | .vcmpLtI16 _ _ _ _ => true
  | .vcmpLeI16 _ _ _ _ => true
  | .vcmpLtnI16 _ _ _ _ => true
  | .vcmpLenI16 _ _ _ _ => true
  | .vabsI16 _ _ _ => true
  | .vnegI16 _ _ _ => true
  | .vredSumI16 _ _ _ x => x == 1 || x == 2
  | .vredMaxI16 _ _ _ x => x == 1 || x == 2
  | .vredMinI16 _ _ _ x => x == 1 || x == 2
  | .vandI16 _ _ _ _ => true
  | .vorI16 _ _ _ _ => true
  | .vxorI16 _ _ _ _ => true
  | .vshlI16 _ _ _ _ => true
  | .vshrI16 _ _ _ _ => true
  | .vsraI16 _ _ _ _ => true
  | .vaddSatI16 _ _ _ _ => true
  | .vsubSatI16 _ _ _ _ => true
  | .vaddnSatI16 _ _ _ _ => true
  | .vsubnSatI16 _ _ _ _ => true
  | .vaddI8 _ _ _ _ => true
  | .vsubI8 _ _ _ _ => true
  | .vmulI8 _ _ _ _ => true
  | .vmadI8 _ _ _ _ => true
  | .vminI8 _ _ _ _ => true
  | .vmaxI8 _ _ _ _ => true
  | .vminnI8 _ _ _ _ => true
  | .vmaxnI8 _ _ _ _ => true
  | .vcmpEqI8 _ _ _ _ => true
  | .vcmpNeI8 _ _ _ _ => true
  | .vcmpLtI8 _ _ _ _ => true
  | .vcmpLeI8 _ _ _ _ => true
  | .vcmpLtnI8 _ _ _ _ => true
  | .vcmpLenI8 _ _ _ _ => true
  | .vabsI8 _ _ _ => true
  | .vnegI8 _ _ _ => true
  | .vredSumI8 _ _ _ x => x == 1 || x == 2
  | .vredMaxI8 _ _ _ x => x == 1 || x == 2
  | .vredMinI8 _ _ _ x => x == 1 || x == 2
  | .vandI8 _ _ _ _ => true
  | .vorI8 _ _ _ _ => true
  | .vxorI8 _ _ _ _ => true
  | .vshlI8 _ _ _ _ => true
  | .vshrI8 _ _ _ _ => true
  | .vsraI8 _ _ _ _ => true
  | .vaddSatI8 _ _ _ _ => true
  | .vsubSatI8 _ _ _ _ => true
  | .vaddnSatI8 _ _ _ _ => true
  | .vsubnSatI8 _ _ _ _ => true
  | .vcvtF32 _ _ _ => true
  | .vcvtBf16 _ _ _ => true
  | .vcvtF16 _ _ _ => true
  | .vcvtI32 _ _ _ => true
  | .vcvtI16 _ _ _ => true
  | .vcvtI8 _ _ _ => true
  | .vcvtE4m3 _ _ _ => true
  | .vcvtE5m2 _ _ _ => true
  | .vcvtPF32 _ _ _ _ => true
  | .vcvtPBf16 _ _ _ _ => true
  | .vcvtPF16 _ _ _ _ => true
  | .vcvtPI32 _ _ _ _ => true
  | .vcvtPI16 _ _ _ _ => true
  | .vcvtPI8 _ _ _ _ => true
  | .vcvtPE4m3 _ _ _ _ => true
  | .vcvtPE5m2 _ _ _ _ => true
  | .vrot _ _ k x => x == 1 || (x == 2 && k < 16)
  | .vbcast _ _ k x => x == 1 || (x == 2 && k < 16)
  | .mand _ _ _ => true
  | .mor _ _ _ => true
  | .mxor _ _ _ => true
  | .mandn _ _ _ => true
  | .mnot _ _ => true
  | .mfromv _ _ => true
  | .mtov _ _ => true
  | .mpopc _ _ => true
  | .vsel _ _ _ _ => true
  | .vexp2 _ _ _ => true
  | .vlog2 _ _ _ => true
  | .vrcp _ _ _ => true
  | .vrsq _ _ _ => true
  | .vtanh _ _ _ => true
  | .vsilu _ _ _ => true
  | .vmov _ _ _ => true
  | .vget _ _ _ => true
  | .vsete _ _ _ => true
  | .vidx _ _ => true
  | .vsplatF32 _ _ _ => true
  | .vsplatBf16 _ _ _ => true
  | .vsplatF16 _ _ _ => true
  | .vsplatI32 _ _ _ => true
  | .vsplatI16 _ _ _ => true
  | .vsplatI8 _ _ _ => true
  | .vsplatE4m3 _ _ _ => true
  | .vsplatE5m2 _ _ _ => true
  | .vsplatMask _ _ _ => true
  | .vld _ _ _ => true
  | .vst _ _ _ => true
  | .vperm _ _ _ => true
  | .vatomAddI32 _ _ _ _ p => p.toNat ≤ 4
  | .vatomAddF32 _ _ _ _ p => p.toNat ≤ 4
  | .vatomMinI32 _ _ _ _ p => p.toNat ≤ 4
  | .vatomMaxI32 _ _ _ _ p => p.toNat ≤ 4
  | .vatomAnd _ _ _ _ p => p.toNat ≤ 4
  | .vatomOr _ _ _ _ p => p.toNat ≤ 4
  | .vatomXor _ _ _ _ p => p.toNat ≤ 4
  | .vatomSwap _ _ _ _ p => p.toNat ≤ 4
  | .vatomAddI32Nr _ _ _ _ p => p.toNat ≤ 4
  | .vatomAddF32Nr _ _ _ _ p => p.toNat ≤ 4
  | .vatomMinI32Nr _ _ _ _ p => p.toNat ≤ 4
  | .vatomMaxI32Nr _ _ _ _ p => p.toNat ≤ 4
  | .vatomAndNr _ _ _ _ p => p.toNat ≤ 4
  | .vatomOrNr _ _ _ _ p => p.toNat ≤ 4
  | .vatomXorNr _ _ _ _ p => p.toNat ≤ 4
  | .vatomLaneReturn _ _ => true
  | .enq r _ => r != 3
  | .enqNb r _ => r != 3
  | .talloc _ _ => true
  | .tfree _ => true
  | .twait _ => true
  | .tset _ _ => true
  | .tget _ _ => true
  | .mfc _ _ => true
  | .mtc _ _ => true
  | .trap _ => true
  | .rett => true
  | .retry => true
  | .safept _ => true
  | .waitc a _ => a != 0
  | .taskExit => true
  | .valloc k => k.toNat ≤ 8
  | .waitx _ => true
  | .snapopen _ _ => true
  | .snappub _ _ => true
  | .tokw s => s == 0x05 || s == 0x08 || s == 0x09
  | .toks s => s == 0x06 || s == 0x07 || s == 0x0A
  | .semw s => 0x10 ≤ s.toNat
  | .sems s => 0x10 ≤ s.toNat
  | .semr _ s => 0x10 ≤ s.toNat
  | .pondSync l => l != 0
  | .fence s m => s.toNat ≤ 4 && m != 0
  | .stallClear => true
  | .safePointOverdue => true
  | .rollbackResume => true
  | .taskEnd => true
  | .registerDrowsy _ => true
  | .debuggerRead _ => true
  | .tload r c => c.opc == 0x00 && r == .ri
  | .tloadt r c => c.opc == 0x01 && r == .ri
  | .tstore r c => c.opc == 0x02 && r == .ro
  | .tstoret r c => c.opc == 0x03 && r == .ro
  | .copy r c => c.opc == 0x04 && (r == .ri || r == .ro)
  | .fillTile r c => c.opc == 0x05 && r == .ri && !c.flag 0
  | .fillMemory r c => c.opc == 0x05 && r == .ri && c.flag 0
  | .gather r c => c.opc == 0x06 && r == .ri
  | .scatter r c => c.opc == 0x07 && r == .ro
  | .bind r c => c.opc == 0x08 && r == .ri
  | .unbind r c => c.opc == 0x09 && r == .ri
  | .bload r c => c.opc == 0x0A && r == .ri
  | .bwait r c => c.opc == 0x0B && r == .ri
  | .bdisc r c => c.opc == 0x0C && r == .ro
  | .bflush r c => c.opc == 0x0D && r == .ro
  | .rfetch r c => c.opc == 0x0E && r == .ri
  | .rsend r c => c.opc == 0x0F && r == .ro
  | .migrate r c => c.opc == 0x10 && (r == .ri || r == .ro)
  | .twback r c => c.opc == 0x11 && r == .ro
  | .cinv r c => c.opc == 0x12 && r == .ro
  | .mark r c => c.opc == 0x13 && (r == .ri || r == .ro)
  | .kvappend r c => c.opc == 0x40 && r == .ro
  | .kvgrow r c => c.opc == 0x41 && r == .ro
  | .kvcow r c => c.opc == 0x42 && r == .ro
  | .kvremap r c => c.opc == 0x43 && r == .ro
  | .pfxwalk r c => c.opc == 0x44 && r == .ri
  | .pfxins r c => c.opc == 0x45 && r == .ro
  | .pfxrelSequence r c => c.opc == 0x46 && r == .ro && !c.flag 0
  | .pfxrelList r c => c.opc == 0x46 && r == .ro && c.flag 0
  | .pfxdirClaim r c => c.opc == 0x47 && r == .ro && c.dirOp == 0
  | .pfxdirShare r c => c.opc == 0x47 && r == .ro && c.dirOp == 1
  | .pfxdirDrop r c => c.opc == 0x47 && r == .ro && c.dirOp == 2
  | .attnr r c => c.opc == 0x48 && r == .mx
  | .attnrReply _ => true
  | .attnrTimeout => true
  | .mmul r c => c.opc == 0x60 && r == .mx
  | .mmul2 r c => c.opc == 0x61 && r == .mx
  | .attn r c => c.opc == 0x62 && r == .mx
  | .attnSoftmaxStart => true
  | .mxv r c => c.opc == 0x63 && r == .mx
  | .mzero r c => c.opc == 0x64 && r == .mx
  | .sinit r c => c.opc == 0x65 && r == .mx
  | .sfin r c => c.opc == 0x66 && r == .mx
  | .smerge r c => c.opc == 0x67 && r == .mx
  | .scopy r c => c.opc == 0x68 && r == .mx
  | .arrayPassEnd _ _ _ => true
  | .matrixFreeze => true
  | .matrixResume => true
  | .arrayRowRemap _ _ => true
  | .bitternCommit _ => true
  | .engineFault _ => true
  | .commandComplete _ => true
  | .heldSignalPush _ => true
  | .blockFillComplete _ => true
  | .regionFillComplete _ => true
  | .barrierPass _ => true
  | .doorbell _ _ => true
  | .kickReport _ => true
  | .queueScan => true
  | .queueIdleTimeout _ => true
  | .packetLaunch _ => true
  | .packetResume _ => true
  | .packetShootdown _ => true
  | .packetNop _ => true
  | .shootdownComplete => true
  | .batchClose _ => true
  | .dispatch => true
  | .prologueStart => true
  | .prologueOverrun _ => true
  | .launchComplete _ => true
  | .haltComplete => true
  | .partitionSwap _ => true
  | .swapExchange _ => true
  | .thermalLevelChange _ => true
  | .lockstepMismatch => true
  | .lockstepRestart => true
  | .migrationStart => true
  | .migrationSwitch => true
  | .migrationDeadlineDrop => true
  | .migrationAbandon => true
  | .ptNodeBusy => true
  | .heatSweep => true
  | .lagoonScrubVisit => true
  | .biSnoop _ _ => true
  | .addCapacity _ _ _ => true
  | .releaseCapacity _ => true
  | .capacityAccept _ => true
  | .capacityDecline _ => true
  | .confirmRevocation _ => true
  | .forcedRemoval _ => true
  | .headLinkDown _ => true
  | .headCompletionTimeout _ => true
  | .headRecover _ => true
  | .moduleUnreachable _ => true
  | .laneFailure _ => true
  | .portRetrainDone _ => true
  | .ideFailure _ => true
  | .write _ => true
  | .read _ => true
  | .data _ => true
  | .atom _ => true
  | .red _ => true
  | .result _ => true
  | .ack _ => true
  | .areq _ => true
  | .arep _ => true
  | .time _ => true
  | .ackSend _ _ => true
  | .busyResend _ _ _ => true
  | .applyRetry _ _ _ => true
  | .heldSend _ _ => true
  | .applyRefuse _ _ => true
  | .planeFailTimeout _ _ => true
  | .planeLinkDown _ => true
  | .planeRestore _ _ => true
  | .planeRetry _ => true
  | .peerUnreachable _ => true
  | .timeExchange => true
  | .syncLoss => true
  | .channelSpareSwitch _ _ => true
  | .uncorrectableError _ => true
  | .controlStateError => true
  | .rowSpareStart _ _ _ => true
  | .rowSpareSwitch _ _ _ => true
  | .telemetryWrite => true
  | .configWrite _ _ => true
  | .warmResetRequest => true
  | .maintResetRequest => true
  | .partitionForm => true
  | .partitionDissolve => true
  | .garetorReset _ => true
  | .hostBarAccess _ _ _ => true
  | .attest _ => true
  | .deploy _ => true
  | .takeOwnership _ _ => true
  | .releaseOwnership _ => true
  | .retire _ => true
  | .raiseSecurityMinimum _ _ _ => true
  | .recoveryImage _ => true
  | .coldReset => true
  | .resetPhaseEnd => true
  | .bootComplete _ => true
  | .wipeComplete => true
  | .powerOff => true
  | .outOfServiceTemperature => true
  | .moduleReenumeration _ => true
  | .spareChannelSwitchEnd _ _ => true

end Sys2Proof
end

