-- ==== Sys2Proof/Decode.lean ====
section
/-!
DEFINITION. Decoding (03 R84 to R99) and, after it, the encoder.
`decodeWord` is total: it answers an instruction or refuses with the cause of table *Decode checks*, orders 1 to 3.
The checks of orders 4 to 7 read the machine's state and stand in the meanings.
`Instr` has more constructors than Lean's runtime can tag, so what builds one is marked noncomputable: no code is made for
it, and Lean's kernel evaluates it all the same.
-/
namespace Sys2Proof

/-- Why a word is refused (03 R92): ILLEGAL_OPCODE for orders 1 and 2, ILLEGAL_FIELD with the number of the lowest
offending bit for order 3. -/
inductive DecodeFault where
  | illegalOpcode
  | illegalField (bit : Nat)
  deriving DecidableEq, Repr

/-- The field of `len` bits whose lowest bit is `lo`. -/
def field (n lo len : Nat) : BitVec len := BitVec.ofNat len (n / 2 ^ lo)

/-- The same field as a number. -/
def fieldNat (n lo len : Nat) : Nat := n / 2 ^ lo % 2 ^ len

/-- The place of the lowest 1 among `fuel` bits of `n`, counted from `at_`. -/
def lowestOne (n : Nat) : Nat → Nat → Nat
  | 0, at_ => at_
  | fuel + 1, at_ => if n % 2 = 1 then at_ else lowestOne (n / 2) fuel (at_ + 1)

/-- A must-be-zero span: the lowest of its bits that is 1, if any is (03 R91, R92). -/
def zeroSpan (n hi lo : Nat) : Option Nat :=
  if fieldNat n lo (hi + 1 - lo) = 0 then none else some (lowestOne (fieldNat n lo (hi + 1 - lo)) (hi + 1 - lo) lo)

/-- A field whose value is undefined reports its lowest bit (03 R91). -/
def undefinedIf (c : Bool) (bit : Nat) : Option Nat := if c then some bit else none

/-- The lowest offending bit of a list of checks. -/
def lowestBad : List (Option Nat) → Option Nat
  | [] => none
  | none :: t => lowestBad t
  | some b :: t =>
    match lowestBad t with
    | none => some b
    | some c => some (if b ≤ c then b else c)

/-- An instruction whose field checks are `bad`: ILLEGAL_FIELD with the lowest offending bit, or the instruction. -/
def checked (bad : List (Option Nat)) (i : Instr) : Except DecodeFault Instr :=
  match lowestBad bad with
  | none => .ok i
  | some b => .error (.illegalField b)

/-- Major 0x00 (03 R93 to R97). -/
def decodeAlu (n : Nat) : Except DecodeFault Instr :=
  match fieldNat n 0 6 with
  | 0x00 => checked [zeroSpan n 6 6] (.add (field n 21 5) (field n 16 5) (field n 11 5) (field n 9 2) (field n 8 1) (field n 7 1))
  | 0x01 => checked [zeroSpan n 6 6] (.sub (field n 21 5) (field n 16 5) (field n 11 5) (field n 9 2) (field n 8 1) (field n 7 1))
  | 0x02 => checked [zeroSpan n 6 6] (.mul (field n 21 5) (field n 16 5) (field n 11 5) (field n 9 2) (field n 8 1) (field n 7 1))
  | 0x03 => checked [zeroSpan n 7 7, zeroSpan n 6 6] (.mulh (field n 21 5) (field n 16 5) (field n 11 5) (field n 9 2) (field n 8 1))
  | 0x04 => checked [zeroSpan n 6 6] (.div (field n 21 5) (field n 16 5) (field n 11 5) (field n 9 2) (field n 8 1) (field n 7 1))
  | 0x05 => checked [zeroSpan n 7 7, zeroSpan n 6 6] (.rem (field n 21 5) (field n 16 5) (field n 11 5) (field n 9 2) (field n 8 1))
  | 0x06 => checked [zeroSpan n 7 7, zeroSpan n 6 6] (.min (field n 21 5) (field n 16 5) (field n 11 5) (field n 9 2) (field n 8 1))
  | 0x07 => checked [zeroSpan n 7 7, zeroSpan n 6 6] (.max (field n 21 5) (field n 16 5) (field n 11 5) (field n 9 2) (field n 8 1))
  | 0x08 => checked [zeroSpan n 7 7, zeroSpan n 6 6] (.and (field n 21 5) (field n 16 5) (field n 11 5) (field n 9 2) (field n 8 1))
  | 0x09 => checked [zeroSpan n 7 7, zeroSpan n 6 6] (.or (field n 21 5) (field n 16 5) (field n 11 5) (field n 9 2) (field n 8 1))
  | 0x0A => checked [zeroSpan n 7 7, zeroSpan n 6 6] (.xor (field n 21 5) (field n 16 5) (field n 11 5) (field n 9 2) (field n 8 1))
  | 0x0B => checked [zeroSpan n 7 7, zeroSpan n 6 6] (.andn (field n 21 5) (field n 16 5) (field n 11 5) (field n 9 2) (field n 8 1))
  | 0x0C => checked [zeroSpan n 7 7, zeroSpan n 6 6] (.shl (field n 21 5) (field n 16 5) (field n 11 5) (field n 9 2) (field n 8 1))
  | 0x0D => checked [zeroSpan n 7 7, zeroSpan n 6 6] (.shr (field n 21 5) (field n 16 5) (field n 11 5) (field n 9 2) (field n 8 1))
  | 0x0E => checked [zeroSpan n 7 7, zeroSpan n 6 6] (.ror (field n 21 5) (field n 16 5) (field n 11 5) (field n 9 2) (field n 8 1))
  | 0x0F => checked [zeroSpan n 7 7, zeroSpan n 6 6, zeroSpan n 15 11] (.clz (field n 21 5) (field n 16 5) (field n 9 2) (field n 8 1))
  | 0x10 => checked [zeroSpan n 7 7, zeroSpan n 6 6, zeroSpan n 15 11] (.popc (field n 21 5) (field n 16 5) (field n 9 2) (field n 8 1))
  | 0x11 => checked [zeroSpan n 6 6, zeroSpan n 15 11] (.abs (field n 21 5) (field n 16 5) (field n 9 2) (field n 8 1) (field n 7 1))
  | 0x12 => checked [zeroSpan n 6 6, zeroSpan n 15 11] (.neg (field n 21 5) (field n 16 5) (field n 9 2) (field n 8 1) (field n 7 1))
  | 0x13 => checked [zeroSpan n 7 7, zeroSpan n 6 6, zeroSpan n 15 11] (.ext (field n 21 5) (field n 16 5) (field n 9 2) (field n 8 1))
  | _ => .error .illegalOpcode

/-- Major 0x01 (03 R93 to R97). -/
def decodeAlu3 (n : Nat) : Except DecodeFault Instr :=
  match fieldNat n 0 6 with
  | 0x00 => checked [] (.madd (field n 21 5) (field n 16 5) (field n 11 5) (field n 6 5))
  | 0x01 => checked [] (.msub (field n 21 5) (field n 16 5) (field n 11 5) (field n 6 5))
  | 0x02 => checked [] (.sel (field n 21 5) (field n 16 5) (field n 11 5) (field n 6 5))
  | _ => .error .illegalOpcode

/-- Major 0x02 (03 R93 to R97). -/
def decodeCmp (n : Nat) : Except DecodeFault Instr :=
  match fieldNat n 0 6 with
  | 0x00 => checked [zeroSpan n 7 7, zeroSpan n 6 6] (.cmpEq (field n 21 5) (field n 16 5) (field n 11 5) (field n 9 2) (field n 8 1))
  | 0x01 => checked [zeroSpan n 7 7, zeroSpan n 6 6] (.cmpNe (field n 21 5) (field n 16 5) (field n 11 5) (field n 9 2) (field n 8 1))
  | 0x02 => checked [zeroSpan n 7 7, zeroSpan n 6 6] (.cmpLt (field n 21 5) (field n 16 5) (field n 11 5) (field n 9 2) (field n 8 1))
  | 0x03 => checked [zeroSpan n 7 7, zeroSpan n 6 6] (.cmpLe (field n 21 5) (field n 16 5) (field n 11 5) (field n 9 2) (field n 8 1))
  | 0x04 => checked [zeroSpan n 7 7, zeroSpan n 6 6] (.cmpGt (field n 21 5) (field n 16 5) (field n 11 5) (field n 9 2) (field n 8 1))
  | 0x05 => checked [zeroSpan n 7 7, zeroSpan n 6 6] (.cmpGe (field n 21 5) (field n 16 5) (field n 11 5) (field n 9 2) (field n 8 1))
  | _ => .error .illegalOpcode

/-- Major 0x08 (03 R93 to R97). -/
def decodeShi (n : Nat) : Except DecodeFault Instr :=
  match fieldNat n 6 2 with
  | 0x00 => checked [zeroSpan n 15 8] (.shli (field n 21 5) (field n 16 5) (field n 0 6))
  | 0x01 => checked [zeroSpan n 15 8] (.shri (field n 21 5) (field n 16 5) (field n 0 6))
  | 0x02 => checked [zeroSpan n 15 8] (.srai (field n 21 5) (field n 16 5) (field n 0 6))
  | _ => checked [zeroSpan n 15 8] (.rori (field n 21 5) (field n 16 5) (field n 0 6))

/-- Major 0x0B (03 R93 to R97). -/
def decodeBr (n : Nat) : Except DecodeFault Instr :=
  match fieldNat n 13 3 with
  | 0x00 => checked [] (.beq (field n 21 5) (field n 16 5) (field n 0 13))
  | 0x01 => checked [] (.bne (field n 21 5) (field n 16 5) (field n 0 13))
  | 0x02 => checked [] (.blt (field n 21 5) (field n 16 5) (field n 0 13))
  | 0x03 => checked [] (.bge (field n 21 5) (field n 16 5) (field n 0 13))
  | 0x04 => checked [] (.bltn (field n 21 5) (field n 16 5) (field n 0 13))
  | 0x05 => checked [] (.bgen (field n 21 5) (field n 16 5) (field n 0 13))
  | 0x06 => checked [] (.btst (field n 21 5) (field n 16 5) (field n 0 13))
  | _ => checked [] (.btstz (field n 21 5) (field n 16 5) (field n 0 13))

/-- Major 0x0E (03 R93 to R97). -/
def decodeJr (n : Nat) : Except DecodeFault Instr :=
  match fieldNat n 0 6 with
  | 0x00 => checked [zeroSpan n 25 21, zeroSpan n 15 6] (.jr (field n 16 5))
  | 0x01 => checked [zeroSpan n 15 6] (.jlr (field n 21 5) (field n 16 5))
  | _ => .error .illegalOpcode

/-- Major 0x0F (03 R93 to R97). -/
def decodeLp (n : Nat) : Except DecodeFault Instr :=
  match fieldNat n 24 2 with
  | 0x00 => checked [zeroSpan n 23 21, zeroSpan n 15 12, undefinedIf (fieldNat n 0 12 == 0) 0] (.loop (field n 16 5) (field n 0 12))
  | 0x01 => checked [undefinedIf (fieldNat n 0 12 == 0) 0, undefinedIf (decide (4 < fieldNat n 21 3)) 21, undefinedIf (decide (fieldNat n 21 3 ≤ 4) && decide (2 ^ fieldNat n 21 3 ≤ fieldNat n 12 4)) 12] (.loopS (field n 21 3) (field n 16 5) (field n 12 4) (field n 0 12))
  | _ => .error .illegalOpcode

/-- Major 0x18, MEM-A: ATOM (ret 1) and RED (ret 0) by op (03 R91, R95). -/
def decodeMemA (n : Nat) : Except DecodeFault Instr :=
  let bad := [undefinedIf (decide (10 < fieldNat n 6 4)) 6,
    undefinedIf (decide (fieldNat n 10 2 < 2)) 10,
    undefinedIf (fieldNat n 6 4 == 10 && fieldNat n 10 2 == 3) 6,
    undefinedIf (decide (4 < fieldNat n 3 3)) 3,
    undefinedIf (fieldNat n 0 1 == 0 && fieldNat n 1 1 == 1) 1,
    undefinedIf (fieldNat n 0 1 == 0 && decide (fieldNat n 6 4 < 2)) 6]
  match fieldNat n 0 1 with
  | 1 =>
    match fieldNat n 6 4 with
    | 0x0 => checked bad (.atomSwap (field n 21 5) (field n 16 5) (field n 12 4) (field n 10 1) (field n 3 3) (field n 1 2))
    | 0x1 => checked bad (.atomCas (field n 21 5) (field n 16 5) (field n 12 4) (field n 10 1) (field n 3 3) (field n 1 2))
    | 0x2 => checked bad (.atomAdd (field n 21 5) (field n 16 5) (field n 12 4) (field n 10 1) (field n 3 3) (field n 1 2))
    | 0x3 => checked bad (.atomAnd (field n 21 5) (field n 16 5) (field n 12 4) (field n 10 1) (field n 3 3) (field n 1 2))
    | 0x4 => checked bad (.atomOr (field n 21 5) (field n 16 5) (field n 12 4) (field n 10 1) (field n 3 3) (field n 1 2))
    | 0x5 => checked bad (.atomXor (field n 21 5) (field n 16 5) (field n 12 4) (field n 10 1) (field n 3 3) (field n 1 2))
    | 0x6 => checked bad (.atomMin (field n 21 5) (field n 16 5) (field n 12 4) (field n 10 1) (field n 3 3) (field n 1 2))
    | 0x7 => checked bad (.atomMax (field n 21 5) (field n 16 5) (field n 12 4) (field n 10 1) (field n 3 3) (field n 1 2))
    | 0x8 => checked bad (.atomMinn (field n 21 5) (field n 16 5) (field n 12 4) (field n 10 1) (field n 3 3) (field n 1 2))
    | 0x9 => checked bad (.atomMaxn (field n 21 5) (field n 16 5) (field n 12 4) (field n 10 1) (field n 3 3) (field n 1 2))
    | 0xA => checked bad (.atomFadd (field n 21 5) (field n 16 5) (field n 12 4) (field n 3 3) (field n 1 2))
    | _ => .error (.illegalField ((lowestBad bad).getD 6))
  | _ =>
    match fieldNat n 6 4 with
    | 0x2 => checked bad (.redAdd (field n 21 5) (field n 16 5) (field n 12 4) (field n 10 1) (field n 3 3) (field n 2 1))
    | 0x3 => checked bad (.redAnd (field n 21 5) (field n 16 5) (field n 12 4) (field n 10 1) (field n 3 3) (field n 2 1))
    | 0x4 => checked bad (.redOr (field n 21 5) (field n 16 5) (field n 12 4) (field n 10 1) (field n 3 3) (field n 2 1))
    | 0x5 => checked bad (.redXor (field n 21 5) (field n 16 5) (field n 12 4) (field n 10 1) (field n 3 3) (field n 2 1))
    | 0x6 => checked bad (.redMin (field n 21 5) (field n 16 5) (field n 12 4) (field n 10 1) (field n 3 3) (field n 2 1))
    | 0x7 => checked bad (.redMax (field n 21 5) (field n 16 5) (field n 12 4) (field n 10 1) (field n 3 3) (field n 2 1))
    | 0x8 => checked bad (.redMinn (field n 21 5) (field n 16 5) (field n 12 4) (field n 10 1) (field n 3 3) (field n 2 1))
    | 0x9 => checked bad (.redMaxn (field n 21 5) (field n 16 5) (field n 12 4) (field n 10 1) (field n 3 3) (field n 2 1))
    | 0xA => checked bad (.redFadd (field n 21 5) (field n 16 5) (field n 12 4) (field n 3 3) (field n 2 1))
    | _ => .error (.illegalField ((lowestBad bad).getD 6))

/-- Major 0x20 (03 R93 to R97). -/
def decodeF32 (n : Nat) : Except DecodeFault Instr :=
  match fieldNat n 0 6 with
  | 0x00 => checked [undefinedIf (fieldNat n 6 2 != 0) 6] (.vaddF32 (field n 21 5) (field n 16 5) (field n 11 5) (field n 8 3))
  | 0x01 => checked [undefinedIf (fieldNat n 6 2 != 0) 6] (.vsubF32 (field n 21 5) (field n 16 5) (field n 11 5) (field n 8 3))
  | 0x02 => checked [undefinedIf (fieldNat n 6 2 != 0) 6] (.vmulF32 (field n 21 5) (field n 16 5) (field n 11 5) (field n 8 3))
  | 0x03 => checked [undefinedIf (fieldNat n 6 2 != 0) 6] (.vfmaF32 (field n 21 5) (field n 16 5) (field n 11 5) (field n 8 3))
  | 0x04 => checked [undefinedIf (fieldNat n 6 2 != 0) 6] (.vminF32 (field n 21 5) (field n 16 5) (field n 11 5) (field n 8 3))
  | 0x05 => checked [undefinedIf (fieldNat n 6 2 != 0) 6] (.vmaxF32 (field n 21 5) (field n 16 5) (field n 11 5) (field n 8 3))
  | 0x06 => checked [undefinedIf (fieldNat n 6 2 != 0) 6, zeroSpan n 15 11] (.vabsF32 (field n 21 5) (field n 16 5) (field n 8 3))
  | 0x07 => checked [undefinedIf (fieldNat n 6 2 != 0) 6, zeroSpan n 15 11] (.vnegF32 (field n 21 5) (field n 16 5) (field n 8 3))
  | 0x08 => checked [undefinedIf (fieldNat n 6 2 != 0) 6] (.vcmpEqF32 (field n 21 5) (field n 16 5) (field n 11 5) (field n 8 3))
  | 0x09 => checked [undefinedIf (fieldNat n 6 2 != 0) 6] (.vcmpNeF32 (field n 21 5) (field n 16 5) (field n 11 5) (field n 8 3))
  | 0x0A => checked [undefinedIf (fieldNat n 6 2 != 0) 6] (.vcmpLtF32 (field n 21 5) (field n 16 5) (field n 11 5) (field n 8 3))
  | 0x0B => checked [undefinedIf (fieldNat n 6 2 != 0) 6] (.vcmpLeF32 (field n 21 5) (field n 16 5) (field n 11 5) (field n 8 3))
  | 0x10 => checked [zeroSpan n 15 11, undefinedIf (fieldNat n 6 2 == 0 || fieldNat n 6 2 == 3) 6] (.vredSumF32 (field n 21 5) (field n 16 5) (field n 8 3) (field n 6 2))
  | 0x11 => checked [zeroSpan n 15 11, undefinedIf (fieldNat n 6 2 == 0 || fieldNat n 6 2 == 3) 6] (.vredMaxF32 (field n 21 5) (field n 16 5) (field n 8 3) (field n 6 2))
  | 0x12 => checked [zeroSpan n 15 11, undefinedIf (fieldNat n 6 2 == 0 || fieldNat n 6 2 == 3) 6] (.vredMinF32 (field n 21 5) (field n 16 5) (field n 8 3) (field n 6 2))
  | _ => .error .illegalOpcode

/-- Major 0x21 (03 R93 to R97). -/
def decodeBf16 (n : Nat) : Except DecodeFault Instr :=
  match fieldNat n 0 6 with
  | 0x00 => checked [undefinedIf (fieldNat n 6 2 != 0) 6] (.vaddBf16 (field n 21 5) (field n 16 5) (field n 11 5) (field n 8 3))
  | 0x01 => checked [undefinedIf (fieldNat n 6 2 != 0) 6] (.vsubBf16 (field n 21 5) (field n 16 5) (field n 11 5) (field n 8 3))
  | 0x02 => checked [undefinedIf (fieldNat n 6 2 != 0) 6] (.vmulBf16 (field n 21 5) (field n 16 5) (field n 11 5) (field n 8 3))
  | 0x03 => checked [undefinedIf (fieldNat n 6 2 != 0) 6] (.vfmaBf16 (field n 21 5) (field n 16 5) (field n 11 5) (field n 8 3))
  | 0x04 => checked [undefinedIf (fieldNat n 6 2 != 0) 6] (.vminBf16 (field n 21 5) (field n 16 5) (field n 11 5) (field n 8 3))
  | 0x05 => checked [undefinedIf (fieldNat n 6 2 != 0) 6] (.vmaxBf16 (field n 21 5) (field n 16 5) (field n 11 5) (field n 8 3))
  | 0x06 => checked [undefinedIf (fieldNat n 6 2 != 0) 6, zeroSpan n 15 11] (.vabsBf16 (field n 21 5) (field n 16 5) (field n 8 3))
  | 0x07 => checked [undefinedIf (fieldNat n 6 2 != 0) 6, zeroSpan n 15 11] (.vnegBf16 (field n 21 5) (field n 16 5) (field n 8 3))
  | 0x08 => checked [undefinedIf (fieldNat n 6 2 != 0) 6] (.vcmpEqBf16 (field n 21 5) (field n 16 5) (field n 11 5) (field n 8 3))
  | 0x09 => checked [undefinedIf (fieldNat n 6 2 != 0) 6] (.vcmpNeBf16 (field n 21 5) (field n 16 5) (field n 11 5) (field n 8 3))
  | 0x0A => checked [undefinedIf (fieldNat n 6 2 != 0) 6] (.vcmpLtBf16 (field n 21 5) (field n 16 5) (field n 11 5) (field n 8 3))
  | 0x0B => checked [undefinedIf (fieldNat n 6 2 != 0) 6] (.vcmpLeBf16 (field n 21 5) (field n 16 5) (field n 11 5) (field n 8 3))
  | 0x10 => checked [zeroSpan n 15 11, undefinedIf (fieldNat n 6 2 == 0 || fieldNat n 6 2 == 3) 6] (.vredSumBf16 (field n 21 5) (field n 16 5) (field n 8 3) (field n 6 2))
  | 0x11 => checked [zeroSpan n 15 11, undefinedIf (fieldNat n 6 2 == 0 || fieldNat n 6 2 == 3) 6] (.vredMaxBf16 (field n 21 5) (field n 16 5) (field n 8 3) (field n 6 2))
  | 0x12 => checked [zeroSpan n 15 11, undefinedIf (fieldNat n 6 2 == 0 || fieldNat n 6 2 == 3) 6] (.vredMinBf16 (field n 21 5) (field n 16 5) (field n 8 3) (field n 6 2))
  | _ => .error .illegalOpcode

/-- Major 0x22 (03 R93 to R97). -/
def decodeF16 (n : Nat) : Except DecodeFault Instr :=
  match fieldNat n 0 6 with
  | 0x00 => checked [undefinedIf (fieldNat n 6 2 != 0) 6] (.vaddF16 (field n 21 5) (field n 16 5) (field n 11 5) (field n 8 3))
  | 0x01 => checked [undefinedIf (fieldNat n 6 2 != 0) 6] (.vsubF16 (field n 21 5) (field n 16 5) (field n 11 5) (field n 8 3))
  | 0x02 => checked [undefinedIf (fieldNat n 6 2 != 0) 6] (.vmulF16 (field n 21 5) (field n 16 5) (field n 11 5) (field n 8 3))
  | 0x03 => checked [undefinedIf (fieldNat n 6 2 != 0) 6] (.vfmaF16 (field n 21 5) (field n 16 5) (field n 11 5) (field n 8 3))
  | 0x04 => checked [undefinedIf (fieldNat n 6 2 != 0) 6] (.vminF16 (field n 21 5) (field n 16 5) (field n 11 5) (field n 8 3))
  | 0x05 => checked [undefinedIf (fieldNat n 6 2 != 0) 6] (.vmaxF16 (field n 21 5) (field n 16 5) (field n 11 5) (field n 8 3))
  | 0x06 => checked [undefinedIf (fieldNat n 6 2 != 0) 6, zeroSpan n 15 11] (.vabsF16 (field n 21 5) (field n 16 5) (field n 8 3))
  | 0x07 => checked [undefinedIf (fieldNat n 6 2 != 0) 6, zeroSpan n 15 11] (.vnegF16 (field n 21 5) (field n 16 5) (field n 8 3))
  | 0x08 => checked [undefinedIf (fieldNat n 6 2 != 0) 6] (.vcmpEqF16 (field n 21 5) (field n 16 5) (field n 11 5) (field n 8 3))
  | 0x09 => checked [undefinedIf (fieldNat n 6 2 != 0) 6] (.vcmpNeF16 (field n 21 5) (field n 16 5) (field n 11 5) (field n 8 3))
  | 0x0A => checked [undefinedIf (fieldNat n 6 2 != 0) 6] (.vcmpLtF16 (field n 21 5) (field n 16 5) (field n 11 5) (field n 8 3))
  | 0x0B => checked [undefinedIf (fieldNat n 6 2 != 0) 6] (.vcmpLeF16 (field n 21 5) (field n 16 5) (field n 11 5) (field n 8 3))
  | 0x10 => checked [zeroSpan n 15 11, undefinedIf (fieldNat n 6 2 == 0 || fieldNat n 6 2 == 3) 6] (.vredSumF16 (field n 21 5) (field n 16 5) (field n 8 3) (field n 6 2))
  | 0x11 => checked [zeroSpan n 15 11, undefinedIf (fieldNat n 6 2 == 0 || fieldNat n 6 2 == 3) 6] (.vredMaxF16 (field n 21 5) (field n 16 5) (field n 8 3) (field n 6 2))
  | 0x12 => checked [zeroSpan n 15 11, undefinedIf (fieldNat n 6 2 == 0 || fieldNat n 6 2 == 3) 6] (.vredMinF16 (field n 21 5) (field n 16 5) (field n 8 3) (field n 6 2))
  | _ => .error .illegalOpcode

/-- Major 0x23 (03 R93 to R97). -/
def decodeI32 (n : Nat) : Except DecodeFault Instr :=
  match fieldNat n 0 6 with
  | 0x00 => checked [undefinedIf (fieldNat n 6 2 != 0) 6] (.vaddI32 (field n 21 5) (field n 16 5) (field n 11 5) (field n 8 3))
  | 0x01 => checked [undefinedIf (fieldNat n 6 2 != 0) 6] (.vsubI32 (field n 21 5) (field n 16 5) (field n 11 5) (field n 8 3))
  | 0x02 => checked [undefinedIf (fieldNat n 6 2 != 0) 6] (.vmulI32 (field n 21 5) (field n 16 5) (field n 11 5) (field n 8 3))
  | 0x03 => checked [undefinedIf (fieldNat n 6 2 != 0) 6] (.vmadI32 (field n 21 5) (field n 16 5) (field n 11 5) (field n 8 3))
  | 0x04 => checked [undefinedIf (fieldNat n 6 2 != 0) 6] (.vminI32 (field n 21 5) (field n 16 5) (field n 11 5) (field n 8 3))
  | 0x05 => checked [undefinedIf (fieldNat n 6 2 != 0) 6] (.vmaxI32 (field n 21 5) (field n 16 5) (field n 11 5) (field n 8 3))
  | 0x06 => checked [undefinedIf (fieldNat n 6 2 != 0) 6] (.vminnI32 (field n 21 5) (field n 16 5) (field n 11 5) (field n 8 3))
  | 0x07 => checked [undefinedIf (fieldNat n 6 2 != 0) 6] (.vmaxnI32 (field n 21 5) (field n 16 5) (field n 11 5) (field n 8 3))
  | 0x08 => checked [undefinedIf (fieldNat n 6 2 != 0) 6] (.vcmpEqI32 (field n 21 5) (field n 16 5) (field n 11 5) (field n 8 3))
  | 0x09 => checked [undefinedIf (fieldNat n 6 2 != 0) 6] (.vcmpNeI32 (field n 21 5) (field n 16 5) (field n 11 5) (field n 8 3))
  | 0x0A => checked [undefinedIf (fieldNat n 6 2 != 0) 6] (.vcmpLtI32 (field n 21 5) (field n 16 5) (field n 11 5) (field n 8 3))
  | 0x0B => checked [undefinedIf (fieldNat n 6 2 != 0) 6] (.vcmpLeI32 (field n 21 5) (field n 16 5) (field n 11 5) (field n 8 3))
  | 0x0C => checked [undefinedIf (fieldNat n 6 2 != 0) 6] (.vcmpLtnI32 (field n 21 5) (field n 16 5) (field n 11 5) (field n 8 3))
  | 0x0D => checked [undefinedIf (fieldNat n 6 2 != 0) 6] (.vcmpLenI32 (field n 21 5) (field n 16 5) (field n 11 5) (field n 8 3))
  | 0x0E => checked [undefinedIf (fieldNat n 6 2 != 0) 6, zeroSpan n 15 11] (.vabsI32 (field n 21 5) (field n 16 5) (field n 8 3))
  | 0x0F => checked [undefinedIf (fieldNat n 6 2 != 0) 6, zeroSpan n 15 11] (.vnegI32 (field n 21 5) (field n 16 5) (field n 8 3))
  | 0x10 => checked [zeroSpan n 15 11, undefinedIf (fieldNat n 6 2 == 0 || fieldNat n 6 2 == 3) 6] (.vredSumI32 (field n 21 5) (field n 16 5) (field n 8 3) (field n 6 2))
  | 0x11 => checked [zeroSpan n 15 11, undefinedIf (fieldNat n 6 2 == 0 || fieldNat n 6 2 == 3) 6] (.vredMaxI32 (field n 21 5) (field n 16 5) (field n 8 3) (field n 6 2))
  | 0x12 => checked [zeroSpan n 15 11, undefinedIf (fieldNat n 6 2 == 0 || fieldNat n 6 2 == 3) 6] (.vredMinI32 (field n 21 5) (field n 16 5) (field n 8 3) (field n 6 2))
  | 0x14 => checked [undefinedIf (fieldNat n 6 2 != 0) 6] (.vandI32 (field n 21 5) (field n 16 5) (field n 11 5) (field n 8 3))
  | 0x15 => checked [undefinedIf (fieldNat n 6 2 != 0) 6] (.vorI32 (field n 21 5) (field n 16 5) (field n 11 5) (field n 8 3))
  | 0x16 => checked [undefinedIf (fieldNat n 6 2 != 0) 6] (.vxorI32 (field n 21 5) (field n 16 5) (field n 11 5) (field n 8 3))
  | 0x17 => checked [undefinedIf (fieldNat n 6 2 != 0) 6] (.vshlI32 (field n 21 5) (field n 16 5) (field n 11 5) (field n 8 3))
  | 0x18 => checked [undefinedIf (fieldNat n 6 2 != 0) 6] (.vshrI32 (field n 21 5) (field n 16 5) (field n 11 5) (field n 8 3))
  | 0x19 => checked [undefinedIf (fieldNat n 6 2 != 0) 6] (.vsraI32 (field n 21 5) (field n 16 5) (field n 11 5) (field n 8 3))
  | 0x20 => checked [undefinedIf (fieldNat n 6 2 != 0) 6] (.vaddSatI32 (field n 21 5) (field n 16 5) (field n 11 5) (field n 8 3))
  | 0x21 => checked [undefinedIf (fieldNat n 6 2 != 0) 6] (.vsubSatI32 (field n 21 5) (field n 16 5) (field n 11 5) (field n 8 3))
  | 0x22 => checked [undefinedIf (fieldNat n 6 2 != 0) 6] (.vaddnSatI32 (field n 21 5) (field n 16 5) (field n 11 5) (field n 8 3))
  | 0x23 => checked [undefinedIf (fieldNat n 6 2 != 0) 6] (.vsubnSatI32 (field n 21 5) (field n 16 5) (field n 11 5) (field n 8 3))
  | _ => .error .illegalOpcode

/-- Major 0x24 (03 R93 to R97). -/
def decodeI16 (n : Nat) : Except DecodeFault Instr :=
  match fieldNat n 0 6 with
  | 0x00 => checked [undefinedIf (fieldNat n 6 2 != 0) 6] (.vaddI16 (field n 21 5) (field n 16 5) (field n 11 5) (field n 8 3))
  | 0x01 => checked [undefinedIf (fieldNat n 6 2 != 0) 6] (.vsubI16 (field n 21 5) (field n 16 5) (field n 11 5) (field n 8 3))
  | 0x02 => checked [undefinedIf (fieldNat n 6 2 != 0) 6] (.vmulI16 (field n 21 5) (field n 16 5) (field n 11 5) (field n 8 3))
  | 0x03 => checked [undefinedIf (fieldNat n 6 2 != 0) 6] (.vmadI16 (field n 21 5) (field n 16 5) (field n 11 5) (field n 8 3))
  | 0x04 => checked [undefinedIf (fieldNat n 6 2 != 0) 6] (.vminI16 (field n 21 5) (field n 16 5) (field n 11 5) (field n 8 3))
  | 0x05 => checked [undefinedIf (fieldNat n 6 2 != 0) 6] (.vmaxI16 (field n 21 5) (field n 16 5) (field n 11 5) (field n 8 3))
  | 0x06 => checked [undefinedIf (fieldNat n 6 2 != 0) 6] (.vminnI16 (field n 21 5) (field n 16 5) (field n 11 5) (field n 8 3))
  | 0x07 => checked [undefinedIf (fieldNat n 6 2 != 0) 6] (.vmaxnI16 (field n 21 5) (field n 16 5) (field n 11 5) (field n 8 3))
  | 0x08 => checked [undefinedIf (fieldNat n 6 2 != 0) 6] (.vcmpEqI16 (field n 21 5) (field n 16 5) (field n 11 5) (field n 8 3))
  | 0x09 => checked [undefinedIf (fieldNat n 6 2 != 0) 6] (.vcmpNeI16 (field n 21 5) (field n 16 5) (field n 11 5) (field n 8 3))
  | 0x0A => checked [undefinedIf (fieldNat n 6 2 != 0) 6] (.vcmpLtI16 (field n 21 5) (field n 16 5) (field n 11 5) (field n 8 3))
  | 0x0B => checked [undefinedIf (fieldNat n 6 2 != 0) 6] (.vcmpLeI16 (field n 21 5) (field n 16 5) (field n 11 5) (field n 8 3))
  | 0x0C => checked [undefinedIf (fieldNat n 6 2 != 0) 6] (.vcmpLtnI16 (field n 21 5) (field n 16 5) (field n 11 5) (field n 8 3))
  | 0x0D => checked [undefinedIf (fieldNat n 6 2 != 0) 6] (.vcmpLenI16 (field n 21 5) (field n 16 5) (field n 11 5) (field n 8 3))
  | 0x0E => checked [undefinedIf (fieldNat n 6 2 != 0) 6, zeroSpan n 15 11] (.vabsI16 (field n 21 5) (field n 16 5) (field n 8 3))
  | 0x0F => checked [undefinedIf (fieldNat n 6 2 != 0) 6, zeroSpan n 15 11] (.vnegI16 (field n 21 5) (field n 16 5) (field n 8 3))
  | 0x10 => checked [zeroSpan n 15 11, undefinedIf (fieldNat n 6 2 == 0 || fieldNat n 6 2 == 3) 6] (.vredSumI16 (field n 21 5) (field n 16 5) (field n 8 3) (field n 6 2))
  | 0x11 => checked [zeroSpan n 15 11, undefinedIf (fieldNat n 6 2 == 0 || fieldNat n 6 2 == 3) 6] (.vredMaxI16 (field n 21 5) (field n 16 5) (field n 8 3) (field n 6 2))
  | 0x12 => checked [zeroSpan n 15 11, undefinedIf (fieldNat n 6 2 == 0 || fieldNat n 6 2 == 3) 6] (.vredMinI16 (field n 21 5) (field n 16 5) (field n 8 3) (field n 6 2))
  | 0x14 => checked [undefinedIf (fieldNat n 6 2 != 0) 6] (.vandI16 (field n 21 5) (field n 16 5) (field n 11 5) (field n 8 3))
  | 0x15 => checked [undefinedIf (fieldNat n 6 2 != 0) 6] (.vorI16 (field n 21 5) (field n 16 5) (field n 11 5) (field n 8 3))
  | 0x16 => checked [undefinedIf (fieldNat n 6 2 != 0) 6] (.vxorI16 (field n 21 5) (field n 16 5) (field n 11 5) (field n 8 3))
  | 0x17 => checked [undefinedIf (fieldNat n 6 2 != 0) 6] (.vshlI16 (field n 21 5) (field n 16 5) (field n 11 5) (field n 8 3))
  | 0x18 => checked [undefinedIf (fieldNat n 6 2 != 0) 6] (.vshrI16 (field n 21 5) (field n 16 5) (field n 11 5) (field n 8 3))
  | 0x19 => checked [undefinedIf (fieldNat n 6 2 != 0) 6] (.vsraI16 (field n 21 5) (field n 16 5) (field n 11 5) (field n 8 3))
  | 0x20 => checked [undefinedIf (fieldNat n 6 2 != 0) 6] (.vaddSatI16 (field n 21 5) (field n 16 5) (field n 11 5) (field n 8 3))
  | 0x21 => checked [undefinedIf (fieldNat n 6 2 != 0) 6] (.vsubSatI16 (field n 21 5) (field n 16 5) (field n 11 5) (field n 8 3))
  | 0x22 => checked [undefinedIf (fieldNat n 6 2 != 0) 6] (.vaddnSatI16 (field n 21 5) (field n 16 5) (field n 11 5) (field n 8 3))
  | 0x23 => checked [undefinedIf (fieldNat n 6 2 != 0) 6] (.vsubnSatI16 (field n 21 5) (field n 16 5) (field n 11 5) (field n 8 3))
  | _ => .error .illegalOpcode

/-- Major 0x25 (03 R93 to R97). -/
def decodeI8 (n : Nat) : Except DecodeFault Instr :=
  match fieldNat n 0 6 with
  | 0x00 => checked [undefinedIf (fieldNat n 6 2 != 0) 6] (.vaddI8 (field n 21 5) (field n 16 5) (field n 11 5) (field n 8 3))
  | 0x01 => checked [undefinedIf (fieldNat n 6 2 != 0) 6] (.vsubI8 (field n 21 5) (field n 16 5) (field n 11 5) (field n 8 3))
  | 0x02 => checked [undefinedIf (fieldNat n 6 2 != 0) 6] (.vmulI8 (field n 21 5) (field n 16 5) (field n 11 5) (field n 8 3))
  | 0x03 => checked [undefinedIf (fieldNat n 6 2 != 0) 6] (.vmadI8 (field n 21 5) (field n 16 5) (field n 11 5) (field n 8 3))
  | 0x04 => checked [undefinedIf (fieldNat n 6 2 != 0) 6] (.vminI8 (field n 21 5) (field n 16 5) (field n 11 5) (field n 8 3))
  | 0x05 => checked [undefinedIf (fieldNat n 6 2 != 0) 6] (.vmaxI8 (field n 21 5) (field n 16 5) (field n 11 5) (field n 8 3))
  | 0x06 => checked [undefinedIf (fieldNat n 6 2 != 0) 6] (.vminnI8 (field n 21 5) (field n 16 5) (field n 11 5) (field n 8 3))
  | 0x07 => checked [undefinedIf (fieldNat n 6 2 != 0) 6] (.vmaxnI8 (field n 21 5) (field n 16 5) (field n 11 5) (field n 8 3))
  | 0x08 => checked [undefinedIf (fieldNat n 6 2 != 0) 6] (.vcmpEqI8 (field n 21 5) (field n 16 5) (field n 11 5) (field n 8 3))
  | 0x09 => checked [undefinedIf (fieldNat n 6 2 != 0) 6] (.vcmpNeI8 (field n 21 5) (field n 16 5) (field n 11 5) (field n 8 3))
  | 0x0A => checked [undefinedIf (fieldNat n 6 2 != 0) 6] (.vcmpLtI8 (field n 21 5) (field n 16 5) (field n 11 5) (field n 8 3))
  | 0x0B => checked [undefinedIf (fieldNat n 6 2 != 0) 6] (.vcmpLeI8 (field n 21 5) (field n 16 5) (field n 11 5) (field n 8 3))
  | 0x0C => checked [undefinedIf (fieldNat n 6 2 != 0) 6] (.vcmpLtnI8 (field n 21 5) (field n 16 5) (field n 11 5) (field n 8 3))
  | 0x0D => checked [undefinedIf (fieldNat n 6 2 != 0) 6] (.vcmpLenI8 (field n 21 5) (field n 16 5) (field n 11 5) (field n 8 3))
  | 0x0E => checked [undefinedIf (fieldNat n 6 2 != 0) 6, zeroSpan n 15 11] (.vabsI8 (field n 21 5) (field n 16 5) (field n 8 3))
  | 0x0F => checked [undefinedIf (fieldNat n 6 2 != 0) 6, zeroSpan n 15 11] (.vnegI8 (field n 21 5) (field n 16 5) (field n 8 3))
  | 0x10 => checked [zeroSpan n 15 11, undefinedIf (fieldNat n 6 2 == 0 || fieldNat n 6 2 == 3) 6] (.vredSumI8 (field n 21 5) (field n 16 5) (field n 8 3) (field n 6 2))
  | 0x11 => checked [zeroSpan n 15 11, undefinedIf (fieldNat n 6 2 == 0 || fieldNat n 6 2 == 3) 6] (.vredMaxI8 (field n 21 5) (field n 16 5) (field n 8 3) (field n 6 2))
  | 0x12 => checked [zeroSpan n 15 11, undefinedIf (fieldNat n 6 2 == 0 || fieldNat n 6 2 == 3) 6] (.vredMinI8 (field n 21 5) (field n 16 5) (field n 8 3) (field n 6 2))
  | 0x14 => checked [undefinedIf (fieldNat n 6 2 != 0) 6] (.vandI8 (field n 21 5) (field n 16 5) (field n 11 5) (field n 8 3))
  | 0x15 => checked [undefinedIf (fieldNat n 6 2 != 0) 6] (.vorI8 (field n 21 5) (field n 16 5) (field n 11 5) (field n 8 3))
  | 0x16 => checked [undefinedIf (fieldNat n 6 2 != 0) 6] (.vxorI8 (field n 21 5) (field n 16 5) (field n 11 5) (field n 8 3))
  | 0x17 => checked [undefinedIf (fieldNat n 6 2 != 0) 6] (.vshlI8 (field n 21 5) (field n 16 5) (field n 11 5) (field n 8 3))
  | 0x18 => checked [undefinedIf (fieldNat n 6 2 != 0) 6] (.vshrI8 (field n 21 5) (field n 16 5) (field n 11 5) (field n 8 3))
  | 0x19 => checked [undefinedIf (fieldNat n 6 2 != 0) 6] (.vsraI8 (field n 21 5) (field n 16 5) (field n 11 5) (field n 8 3))
  | 0x20 => checked [undefinedIf (fieldNat n 6 2 != 0) 6] (.vaddSatI8 (field n 21 5) (field n 16 5) (field n 11 5) (field n 8 3))
  | 0x21 => checked [undefinedIf (fieldNat n 6 2 != 0) 6] (.vsubSatI8 (field n 21 5) (field n 16 5) (field n 11 5) (field n 8 3))
  | 0x22 => checked [undefinedIf (fieldNat n 6 2 != 0) 6] (.vaddnSatI8 (field n 21 5) (field n 16 5) (field n 11 5) (field n 8 3))
  | 0x23 => checked [undefinedIf (fieldNat n 6 2 != 0) 6] (.vsubnSatI8 (field n 21 5) (field n 16 5) (field n 11 5) (field n 8 3))
  | _ => .error .illegalOpcode

/-- Major 0x26 (03 R93 to R97). -/
def decodeCvt (n : Nat) : Except DecodeFault Instr :=
  match fieldNat n 0 6 with
  | 0x01 => checked [undefinedIf (fieldNat n 6 2 != 0) 6, zeroSpan n 15 11] (.vcvtF32 (field n 21 5) (field n 16 5) (field n 8 3))
  | 0x02 => checked [undefinedIf (fieldNat n 6 2 != 0) 6, zeroSpan n 15 11] (.vcvtBf16 (field n 21 5) (field n 16 5) (field n 8 3))
  | 0x03 => checked [undefinedIf (fieldNat n 6 2 != 0) 6, zeroSpan n 15 11] (.vcvtF16 (field n 21 5) (field n 16 5) (field n 8 3))
  | 0x04 => checked [undefinedIf (fieldNat n 6 2 != 0) 6, zeroSpan n 15 11] (.vcvtI32 (field n 21 5) (field n 16 5) (field n 8 3))
  | 0x05 => checked [undefinedIf (fieldNat n 6 2 != 0) 6, zeroSpan n 15 11] (.vcvtI16 (field n 21 5) (field n 16 5) (field n 8 3))
  | 0x06 => checked [undefinedIf (fieldNat n 6 2 != 0) 6, zeroSpan n 15 11] (.vcvtI8 (field n 21 5) (field n 16 5) (field n 8 3))
  | 0x07 => checked [undefinedIf (fieldNat n 6 2 != 0) 6, zeroSpan n 15 11] (.vcvtE4m3 (field n 21 5) (field n 16 5) (field n 8 3))
  | 0x08 => checked [undefinedIf (fieldNat n 6 2 != 0) 6, zeroSpan n 15 11] (.vcvtE5m2 (field n 21 5) (field n 16 5) (field n 8 3))
  | 0x11 => checked [undefinedIf (fieldNat n 6 2 != 0) 6] (.vcvtPF32 (field n 21 5) (field n 16 5) (field n 11 5) (field n 8 3))
  | 0x12 => checked [undefinedIf (fieldNat n 6 2 != 0) 6] (.vcvtPBf16 (field n 21 5) (field n 16 5) (field n 11 5) (field n 8 3))
  | 0x13 => checked [undefinedIf (fieldNat n 6 2 != 0) 6] (.vcvtPF16 (field n 21 5) (field n 16 5) (field n 11 5) (field n 8 3))
  | 0x14 => checked [undefinedIf (fieldNat n 6 2 != 0) 6] (.vcvtPI32 (field n 21 5) (field n 16 5) (field n 11 5) (field n 8 3))
  | 0x15 => checked [undefinedIf (fieldNat n 6 2 != 0) 6] (.vcvtPI16 (field n 21 5) (field n 16 5) (field n 11 5) (field n 8 3))
  | 0x16 => checked [undefinedIf (fieldNat n 6 2 != 0) 6] (.vcvtPI8 (field n 21 5) (field n 16 5) (field n 11 5) (field n 8 3))
  | 0x17 => checked [undefinedIf (fieldNat n 6 2 != 0) 6] (.vcvtPE4m3 (field n 21 5) (field n 16 5) (field n 11 5) (field n 8 3))
  | 0x18 => checked [undefinedIf (fieldNat n 6 2 != 0) 6] (.vcvtPE5m2 (field n 21 5) (field n 16 5) (field n 11 5) (field n 8 3))
  | _ => .error .illegalOpcode

/-- Major 0x27 (03 R93 to R97). -/
def decodeAxis (n : Nat) : Except DecodeFault Instr :=
  match fieldNat n 0 6 with
  | 0x00 => checked [zeroSpan n 9 8, undefinedIf (fieldNat n 6 2 == 0 || fieldNat n 6 2 == 3) 6, if fieldNat n 6 2 = 2 then zeroSpan n 15 14 else none] (.vrot (field n 21 5) (field n 16 5) (field n 10 6) (field n 6 2))
  | 0x01 => checked [zeroSpan n 9 8, undefinedIf (fieldNat n 6 2 == 0 || fieldNat n 6 2 == 3) 6, if fieldNat n 6 2 = 2 then zeroSpan n 15 14 else none] (.vbcast (field n 21 5) (field n 16 5) (field n 10 6) (field n 6 2))
  | _ => .error .illegalOpcode

/-- Major 0x28 (03 R93 to R97). The minors that name no axis have all the bits they do not use checked, the axis field's among
them (log entry 54). -/
def decodeMask (n : Nat) : Except DecodeFault Instr :=
  match fieldNat n 0 6 with
  | 0x00 => checked [zeroSpan n 25 24, zeroSpan n 20 19, zeroSpan n 15 14, zeroSpan n 10 6] (.mand (field n 21 3) (field n 16 3) (field n 11 3))
  | 0x01 => checked [zeroSpan n 25 24, zeroSpan n 20 19, zeroSpan n 15 14, zeroSpan n 10 6] (.mor (field n 21 3) (field n 16 3) (field n 11 3))
  | 0x02 => checked [zeroSpan n 25 24, zeroSpan n 20 19, zeroSpan n 15 14, zeroSpan n 10 6] (.mxor (field n 21 3) (field n 16 3) (field n 11 3))
  | 0x03 => checked [zeroSpan n 25 24, zeroSpan n 20 19, zeroSpan n 15 14, zeroSpan n 10 6] (.mandn (field n 21 3) (field n 16 3) (field n 11 3))
  | 0x04 => checked [zeroSpan n 25 24, zeroSpan n 20 19, zeroSpan n 15 6] (.mnot (field n 21 3) (field n 16 3))
  | 0x08 => checked [zeroSpan n 25 24, zeroSpan n 15 6] (.mfromv (field n 21 3) (field n 16 5))
  | 0x09 => checked [zeroSpan n 20 19, zeroSpan n 15 6] (.mtov (field n 21 5) (field n 16 3))
  | 0x0A => checked [zeroSpan n 20 19, zeroSpan n 15 6] (.mpopc (field n 21 5) (field n 16 3))
  | 0x10 => checked [undefinedIf (fieldNat n 6 2 != 0) 6] (.vsel (field n 21 5) (field n 16 5) (field n 11 5) (field n 8 3))
  | _ => .error .illegalOpcode

/-- Major 0x29 (03 R93 to R97). -/
noncomputable def decodeVsf (n : Nat) : Except DecodeFault Instr :=
  match fieldNat n 0 6 with
  | 0x00 => checked [undefinedIf (fieldNat n 6 2 != 0) 6, zeroSpan n 15 11] (.vexp2 (field n 21 5) (field n 16 5) (field n 8 3))
  | 0x01 => checked [undefinedIf (fieldNat n 6 2 != 0) 6, zeroSpan n 15 11] (.vlog2 (field n 21 5) (field n 16 5) (field n 8 3))
  | 0x02 => checked [undefinedIf (fieldNat n 6 2 != 0) 6, zeroSpan n 15 11] (.vrcp (field n 21 5) (field n 16 5) (field n 8 3))
  | 0x03 => checked [undefinedIf (fieldNat n 6 2 != 0) 6, zeroSpan n 15 11] (.vrsq (field n 21 5) (field n 16 5) (field n 8 3))
  | 0x04 => checked [undefinedIf (fieldNat n 6 2 != 0) 6, zeroSpan n 15 11] (.vtanh (field n 21 5) (field n 16 5) (field n 8 3))
  | 0x05 => checked [undefinedIf (fieldNat n 6 2 != 0) 6, zeroSpan n 15 11] (.vsilu (field n 21 5) (field n 16 5) (field n 8 3))
  | _ => .error .illegalOpcode

/-- Major 0x2A (03 R93 to R97). -/
noncomputable def decodeVmov (n : Nat) : Except DecodeFault Instr :=
  match fieldNat n 0 6 with
  | 0x00 => checked [undefinedIf (fieldNat n 6 2 != 0) 6, zeroSpan n 15 11] (.vmov (field n 21 5) (field n 16 5) (field n 8 3))
  | 0x02 => checked [undefinedIf (fieldNat n 6 2 != 0) 6, zeroSpan n 10 8] (.vget (field n 21 5) (field n 16 5) (field n 11 5))
  | 0x03 => checked [undefinedIf (fieldNat n 6 2 != 0) 6, zeroSpan n 10 8] (.vsete (field n 21 5) (field n 16 5) (field n 11 5))
  | 0x04 => checked [undefinedIf (fieldNat n 6 2 != 0) 6, zeroSpan n 20 11] (.vidx (field n 21 5) (field n 8 3))
  | 0x11 => checked [undefinedIf (fieldNat n 6 2 != 0) 6, zeroSpan n 15 11] (.vsplatF32 (field n 21 5) (field n 16 5) (field n 8 3))
  | 0x12 => checked [undefinedIf (fieldNat n 6 2 != 0) 6, zeroSpan n 15 11] (.vsplatBf16 (field n 21 5) (field n 16 5) (field n 8 3))
  | 0x13 => checked [undefinedIf (fieldNat n 6 2 != 0) 6, zeroSpan n 15 11] (.vsplatF16 (field n 21 5) (field n 16 5) (field n 8 3))
  | 0x14 => checked [undefinedIf (fieldNat n 6 2 != 0) 6, zeroSpan n 15 11] (.vsplatI32 (field n 21 5) (field n 16 5) (field n 8 3))
  | 0x15 => checked [undefinedIf (fieldNat n 6 2 != 0) 6, zeroSpan n 15 11] (.vsplatI16 (field n 21 5) (field n 16 5) (field n 8 3))
  | 0x16 => checked [undefinedIf (fieldNat n 6 2 != 0) 6, zeroSpan n 15 11] (.vsplatI8 (field n 21 5) (field n 16 5) (field n 8 3))
  | 0x17 => checked [undefinedIf (fieldNat n 6 2 != 0) 6, zeroSpan n 15 11] (.vsplatE4m3 (field n 21 5) (field n 16 5) (field n 8 3))
  | 0x18 => checked [undefinedIf (fieldNat n 6 2 != 0) 6, zeroSpan n 15 11] (.vsplatE5m2 (field n 21 5) (field n 16 5) (field n 8 3))
  | 0x19 => checked [undefinedIf (fieldNat n 6 2 != 0) 6, zeroSpan n 15 11] (.vsplatMask (field n 21 5) (field n 16 5) (field n 8 3))
  | _ => .error .illegalOpcode

/-- Major 0x2B (03 R93 to R97). -/
noncomputable def decodeVtile (n : Nat) : Except DecodeFault Instr :=
  match fieldNat n 0 6 with
  | 0x00 => checked [] (.vld (field n 21 5) (field n 13 8) (field n 6 7))
  | 0x01 => checked [] (.vst (field n 21 5) (field n 13 8) (field n 6 7))
  | 0x02 => checked [] (.vperm (field n 21 5) (field n 13 8) (field n 6 7))
  | _ => .error .illegalOpcode

/-- Major 0x2C (03 R93 to R97). -/
noncomputable def decodeVatom (n : Nat) : Except DecodeFault Instr :=
  match fieldNat n 3 1, fieldNat n 4 3 with
  | 1, 0 => checked [undefinedIf (decide (4 < fieldNat n 0 3)) 0] (.vatomAddI32 (field n 21 5) (field n 16 5) (field n 11 5) (field n 7 4) (field n 0 3))
  | 1, 1 => checked [undefinedIf (decide (4 < fieldNat n 0 3)) 0] (.vatomAddF32 (field n 21 5) (field n 16 5) (field n 11 5) (field n 7 4) (field n 0 3))
  | 1, 2 => checked [undefinedIf (decide (4 < fieldNat n 0 3)) 0] (.vatomMinI32 (field n 21 5) (field n 16 5) (field n 11 5) (field n 7 4) (field n 0 3))
  | 1, 3 => checked [undefinedIf (decide (4 < fieldNat n 0 3)) 0] (.vatomMaxI32 (field n 21 5) (field n 16 5) (field n 11 5) (field n 7 4) (field n 0 3))
  | 1, 4 => checked [undefinedIf (decide (4 < fieldNat n 0 3)) 0] (.vatomAnd (field n 21 5) (field n 16 5) (field n 11 5) (field n 7 4) (field n 0 3))
  | 1, 5 => checked [undefinedIf (decide (4 < fieldNat n 0 3)) 0] (.vatomOr (field n 21 5) (field n 16 5) (field n 11 5) (field n 7 4) (field n 0 3))
  | 1, 6 => checked [undefinedIf (decide (4 < fieldNat n 0 3)) 0] (.vatomXor (field n 21 5) (field n 16 5) (field n 11 5) (field n 7 4) (field n 0 3))
  | 1, 7 => checked [undefinedIf (decide (4 < fieldNat n 0 3)) 0] (.vatomSwap (field n 21 5) (field n 16 5) (field n 11 5) (field n 7 4) (field n 0 3))
  | 0, 0 => checked [undefinedIf (decide (4 < fieldNat n 0 3)) 0] (.vatomAddI32Nr (field n 21 5) (field n 16 5) (field n 11 5) (field n 7 4) (field n 0 3))
  | 0, 1 => checked [undefinedIf (decide (4 < fieldNat n 0 3)) 0] (.vatomAddF32Nr (field n 21 5) (field n 16 5) (field n 11 5) (field n 7 4) (field n 0 3))
  | 0, 2 => checked [undefinedIf (decide (4 < fieldNat n 0 3)) 0] (.vatomMinI32Nr (field n 21 5) (field n 16 5) (field n 11 5) (field n 7 4) (field n 0 3))
  | 0, 3 => checked [undefinedIf (decide (4 < fieldNat n 0 3)) 0] (.vatomMaxI32Nr (field n 21 5) (field n 16 5) (field n 11 5) (field n 7 4) (field n 0 3))
  | 0, 4 => checked [undefinedIf (decide (4 < fieldNat n 0 3)) 0] (.vatomAndNr (field n 21 5) (field n 16 5) (field n 11 5) (field n 7 4) (field n 0 3))
  | 0, 5 => checked [undefinedIf (decide (4 < fieldNat n 0 3)) 0] (.vatomOrNr (field n 21 5) (field n 16 5) (field n 11 5) (field n 7 4) (field n 0 3))
  | 0, 6 => checked [undefinedIf (decide (4 < fieldNat n 0 3)) 0] (.vatomXorNr (field n 21 5) (field n 16 5) (field n 11 5) (field n 7 4) (field n 0 3))
  | _, _ => .error (.illegalField ((lowestBad [undefinedIf (decide (4 < fieldNat n 0 3)) 0, some 4]).getD 4))

/-- Major 0x38 (03 R93 to R97). -/
noncomputable def decodeEnq (n : Nat) : Except DecodeFault Instr :=
  match fieldNat n 20 1 with
  | 0x00 => checked [zeroSpan n 19 0, undefinedIf (fieldNat n 24 2 == 3) 24] (.enq (field n 24 2) (field n 21 3))
  | _ => checked [zeroSpan n 19 0, undefinedIf (fieldNat n 24 2 == 3) 24] (.enqNb (field n 24 2) (field n 21 3))

/-- Major 0x39 (03 R93 to R97). -/
noncomputable def decodeTl (n : Nat) : Except DecodeFault Instr :=
  match fieldNat n 0 6 with
  | 0x00 => checked [zeroSpan n 25 21, zeroSpan n 9 6] (.talloc (field n 13 8) (field n 10 3))
  | 0x01 => checked [zeroSpan n 25 21, zeroSpan n 12 6] (.tfree (field n 13 8))
  | 0x02 => checked [zeroSpan n 25 21, zeroSpan n 12 6] (.twait (field n 13 8))
  | 0x03 => checked [zeroSpan n 25 21, zeroSpan n 9 6] (.tset (field n 13 8) (field n 10 3))
  | 0x04 => checked [zeroSpan n 12 6] (.tget (field n 21 5) (field n 13 8))
  | _ => .error .illegalOpcode

/-- Major 0x3C (03 R93 to R97). -/
noncomputable def decodeSys (n : Nat) : Except DecodeFault Instr :=
  match fieldNat n 0 4 with
  | 0x00 => checked [zeroSpan n 20 16] (.mfc (field n 21 5) (field n 4 12))
  | 0x01 => checked [zeroSpan n 25 21] (.mtc (field n 16 5) (field n 4 12))
  | 0x02 => checked [zeroSpan n 25 16] (.trap (field n 4 12))
  | 0x03 => checked [zeroSpan n 25 4] (.rett)
  | 0x04 => checked [zeroSpan n 25 4] (.retry)
  | 0x05 => checked [zeroSpan n 25 16] (.safept (field n 4 12))
  | 0x06 => if fieldNat n 4 22 = 0 then .ok .taskExit else checked [zeroSpan n 25 21, undefinedIf (fieldNat n 16 5 == 0 && fieldNat n 4 12 != 0) 4] (.waitc (field n 16 5) (field n 4 12))
  | 0x07 => checked [zeroSpan n 25 16, undefinedIf (decide (8 < fieldNat n 4 12)) 4] (.valloc (field n 4 12))
  | 0x08 => checked [zeroSpan n 25 16] (.waitx (field n 4 12))
  | 0x09 => checked [zeroSpan n 15 4] (.snapopen (field n 21 5) (field n 16 5))
  | 0x0A => checked [zeroSpan n 15 4] (.snappub (field n 21 5) (field n 16 5))
  | _ => .error .illegalOpcode

/-- Major 0x3D (03 R93 to R97). -/
noncomputable def decodeSync (n : Nat) : Except DecodeFault Instr :=
  match fieldNat n 0 4 with
  | 0x00 => checked [zeroSpan n 25 10, undefinedIf (!(fieldNat n 4 6 == 0x05 || fieldNat n 4 6 == 0x08 || fieldNat n 4 6 == 0x09)) 4] (.tokw (field n 4 6))
  | 0x01 => checked [zeroSpan n 25 10, undefinedIf (!(fieldNat n 4 6 == 0x06 || fieldNat n 4 6 == 0x07 || fieldNat n 4 6 == 0x0A)) 4] (.toks (field n 4 6))
  | 0x02 => checked [zeroSpan n 25 10, undefinedIf (decide (fieldNat n 4 6 < 0x10)) 4] (.semw (field n 4 6))
  | 0x03 => checked [zeroSpan n 25 10, undefinedIf (decide (fieldNat n 4 6 < 0x10)) 4] (.sems (field n 4 6))
  | 0x04 => checked [zeroSpan n 20 10, undefinedIf (decide (fieldNat n 4 6 < 0x10)) 4] (.semr (field n 21 5) (field n 4 6))
  | 0x05 => checked [zeroSpan n 25 6, undefinedIf (fieldNat n 4 2 == 0) 4] (.pondSync (field n 4 2))
  | _ => .error .illegalOpcode

/-- Major 0x3E (03 R93 to R97). -/
noncomputable def decodeFn (n : Nat) : Except DecodeFault Instr :=
  checked [zeroSpan n 22 16, undefinedIf (decide (4 < fieldNat n 23 3)) 23, undefinedIf (fieldNat n 0 16 == 0) 0] (.fence (field n 23 3) (field n 0 16))

/-- The decoder: the instruction of a word, or why it is none (03 R91 to R97). -/
noncomputable def decodeWord (w : InstrWord) : Except DecodeFault Instr :=
  let n := w.toNat
  match n / 2 ^ 26 with
  | 0x00 => decodeAlu n
  | 0x01 => decodeAlu3 n
  | 0x02 => decodeCmp n
  | 0x03 => checked [] (.addi (field n 21 5) (field n 16 5) (field n 0 16))
  | 0x04 => checked [] (.addis (field n 21 5) (field n 16 5) (field n 0 16))
  | 0x05 => checked [] (.andi (field n 21 5) (field n 16 5) (field n 0 16))
  | 0x06 => checked [] (.ori (field n 21 5) (field n 16 5) (field n 0 16))
  | 0x07 => checked [] (.xori (field n 21 5) (field n 16 5) (field n 0 16))
  | 0x08 => decodeShi n
  | 0x09 => checked [] (.slti (field n 21 5) (field n 16 5) (field n 0 16))
  | 0x0A => checked [] (.sltin (field n 21 5) (field n 16 5) (field n 0 16))
  | 0x0B => decodeBr n
  | 0x0C => checked [] (.j (field n 0 26))
  | 0x0D => checked [] (.jl (field n 0 26))
  | 0x0E => decodeJr n
  | 0x0F => decodeLp n
  | 0x10 => checked [] (.ldN (field n 21 5) (field n 16 5) (field n 12 4) (field n 10 2) (field n 0 10))
  | 0x11 => checked [] (.ldI (field n 21 5) (field n 16 5) (field n 12 4) (field n 10 2) (field n 0 10))
  | 0x12 => checked [] (.st (field n 21 5) (field n 16 5) (field n 12 4) (field n 10 2) (field n 0 10))
  | 0x13 => checked [zeroSpan n 4 0] (.ldxN (field n 21 5) (field n 16 5) (field n 12 4) (field n 10 2) (field n 5 5))
  | 0x14 => checked [zeroSpan n 4 0] (.ldxI (field n 21 5) (field n 16 5) (field n 12 4) (field n 10 2) (field n 5 5))
  | 0x15 => checked [zeroSpan n 4 0] (.stx (field n 21 5) (field n 16 5) (field n 12 4) (field n 10 2) (field n 5 5))
  | 0x16 => checked [] (.ldAcq (field n 21 5) (field n 16 5) (field n 12 4) (field n 10 2) (field n 0 10))
  | 0x17 => checked [] (.stRel (field n 21 5) (field n 16 5) (field n 12 4) (field n 10 2) (field n 0 10))
  | 0x18 => decodeMemA n
  | 0x20 => decodeF32 n
  | 0x21 => decodeBf16 n
  | 0x22 => decodeF16 n
  | 0x23 => decodeI32 n
  | 0x24 => decodeI16 n
  | 0x25 => decodeI8 n
  | 0x26 => decodeCvt n
  | 0x27 => decodeAxis n
  | 0x28 => decodeMask n
  | 0x29 => decodeVsf n
  | 0x2A => decodeVmov n
  | 0x2B => decodeVtile n
  | 0x2C => decodeVatom n
  | 0x38 => decodeEnq n
  | 0x39 => decodeTl n
  | 0x3C => decodeSys n
  | 0x3D => decodeSync n
  | 0x3E => decodeFn n
  | _ => .error .illegalOpcode

/-- Why a ring does not take a command (03 R100). -/
inductive CmdFault where
  | opcode
  | dirOp
  deriving DecidableEq, Repr

/-- The command at the head of a ring as an instruction (03 R98, R99): CMD_OPCODE for an opcode that is unassigned or
that the ring does not accept. FILL, PFXREL and PFXDIR give two or three rows by a flag or OP. -/
noncomputable def decodeCommand (r : Ring) (c : Cmd) : Except CmdFault Instr :=
  match c.opc, r with
  | 0x00, .ri => .ok (.tload .ri c)
  | 0x01, .ri => .ok (.tloadt .ri c)
  | 0x02, .ro => .ok (.tstore .ro c)
  | 0x03, .ro => .ok (.tstoret .ro c)
  | 0x04, .ri => .ok (.copy .ri c)
  | 0x04, .ro => .ok (.copy .ro c)
  | 0x05, .ri => .ok (if c.flag 0 then .fillMemory .ri c else .fillTile .ri c)
  | 0x06, .ri => .ok (.gather .ri c)
  | 0x07, .ro => .ok (.scatter .ro c)
  | 0x08, .ri => .ok (.bind .ri c)
  | 0x09, .ri => .ok (.unbind .ri c)
  | 0x0A, .ri => .ok (.bload .ri c)
  | 0x0B, .ri => .ok (.bwait .ri c)
  | 0x0C, .ro => .ok (.bdisc .ro c)
  | 0x0D, .ro => .ok (.bflush .ro c)
  | 0x0E, .ri => .ok (.rfetch .ri c)
  | 0x0F, .ro => .ok (.rsend .ro c)
  | 0x10, .ri => .ok (.migrate .ri c)
  | 0x10, .ro => .ok (.migrate .ro c)
  | 0x11, .ro => .ok (.twback .ro c)
  | 0x12, .ro => .ok (.cinv .ro c)
  | 0x13, .ri => .ok (.mark .ri c)
  | 0x13, .ro => .ok (.mark .ro c)
  | 0x40, .ro => .ok (.kvappend .ro c)
  | 0x41, .ro => .ok (.kvgrow .ro c)
  | 0x42, .ro => .ok (.kvcow .ro c)
  | 0x43, .ro => .ok (.kvremap .ro c)
  | 0x44, .ri => .ok (.pfxwalk .ri c)
  | 0x45, .ro => .ok (.pfxins .ro c)
  | 0x46, .ro => .ok (if c.flag 0 then .pfxrelList .ro c else .pfxrelSequence .ro c)
  | 0x47, .ro => if c.dirOp = 0 then .ok (.pfxdirClaim .ro c) else if c.dirOp = 1 then .ok (.pfxdirShare .ro c)
      else if c.dirOp = 2 then .ok (.pfxdirDrop .ro c) else .error .dirOp
  | 0x48, .mx => .ok (.attnr .mx c)
  | 0x60, .mx => .ok (.mmul .mx c)
  | 0x61, .mx => .ok (.mmul2 .mx c)
  | 0x62, .mx => .ok (.attn .mx c)
  | 0x63, .mx => .ok (.mxv .mx c)
  | 0x64, .mx => .ok (.mzero .mx c)
  | 0x65, .mx => .ok (.sinit .mx c)
  | 0x66, .mx => .ok (.sfin .mx c)
  | 0x67, .mx => .ok (.smerge .mx c)
  | 0x68, .mx => .ok (.scopy .mx c)
  | _, _ => .error .opcode

/-- The number whose bits are `base` and, from each listed place upward, each listed value. -/
def pack : Nat → List (Nat × Nat) → Nat
  | base, [] => base
  | base, (lo, v) :: t => v * 2 ^ lo + pack base t

/-- The word with the fixed bits `base` and the listed operands at their places. -/
def wordOf (base : Nat) (ops : List (Nat × Nat)) : InstrWord := BitVec.ofNat 32 (pack base ops)

/-- The word of an instruction (03 R87 to R97): its row's fixed bits and, at each field's place, the operand.
Rows that are engine commands or events have no 32-bit word. -/
def encode : Instr → Option InstrWord
  | .add d a b w u t => some (wordOf 0x00000000 [(21, d.toNat), (16, a.toNat), (11, b.toNat), (9, w.toNat), (8, u.toNat), (7, t.toNat)])
  | .sub d a b w u t => some (wordOf 0x00000001 [(21, d.toNat), (16, a.toNat), (11, b.toNat), (9, w.toNat), (8, u.toNat), (7, t.toNat)])
  | .mul d a b w u t => some (wordOf 0x00000002 [(21, d.toNat), (16, a.toNat), (11, b.toNat), (9, w.toNat), (8, u.toNat), (7, t.toNat)])
  | .mulh d a b w u => some (wordOf 0x00000003 [(21, d.toNat), (16, a.toNat), (11, b.toNat), (9, w.toNat), (8, u.toNat)])
  | .div d a b w u t => some (wordOf 0x00000004 [(21, d.toNat), (16, a.toNat), (11, b.toNat), (9, w.toNat), (8, u.toNat), (7, t.toNat)])
  | .rem d a b w u => some (wordOf 0x00000005 [(21, d.toNat), (16, a.toNat), (11, b.toNat), (9, w.toNat), (8, u.toNat)])
  | .min d a b w u => some (wordOf 0x00000006 [(21, d.toNat), (16, a.toNat), (11, b.toNat), (9, w.toNat), (8, u.toNat)])
  | .max d a b w u => some (wordOf 0x00000007 [(21, d.toNat), (16, a.toNat), (11, b.toNat), (9, w.toNat), (8, u.toNat)])
  | .and d a b w u => some (wordOf 0x00000008 [(21, d.toNat), (16, a.toNat), (11, b.toNat), (9, w.toNat), (8, u.toNat)])
  | .or d a b w u => some (wordOf 0x00000009 [(21, d.toNat), (16, a.toNat), (11, b.toNat), (9, w.toNat), (8, u.toNat)])
  | .xor d a b w u => some (wordOf 0x0000000A [(21, d.toNat), (16, a.toNat), (11, b.toNat), (9, w.toNat), (8, u.toNat)])
  | .andn d a b w u => some (wordOf 0x0000000B [(21, d.toNat), (16, a.toNat), (11, b.toNat), (9, w.toNat), (8, u.toNat)])
  | .shl d a b w u => some (wordOf 0x0000000C [(21, d.toNat), (16, a.toNat), (11, b.toNat), (9, w.toNat), (8, u.toNat)])
  | .shr d a b w u => some (wordOf 0x0000000D [(21, d.toNat), (16, a.toNat), (11, b.toNat), (9, w.toNat), (8, u.toNat)])
  | .ror d a b w u => some (wordOf 0x0000000E [(21, d.toNat), (16, a.toNat), (11, b.toNat), (9, w.toNat), (8, u.toNat)])
  | .clz d a w u => some (wordOf 0x0000000F [(21, d.toNat), (16, a.toNat), (9, w.toNat), (8, u.toNat)])
  | .popc d a w u => some (wordOf 0x00000010 [(21, d.toNat), (16, a.toNat), (9, w.toNat), (8, u.toNat)])
  | .abs d a w u t => some (wordOf 0x00000011 [(21, d.toNat), (16, a.toNat), (9, w.toNat), (8, u.toNat), (7, t.toNat)])
  | .neg d a w u t => some (wordOf 0x00000012 [(21, d.toNat), (16, a.toNat), (9, w.toNat), (8, u.toNat), (7, t.toNat)])
  | .ext d a w u => some (wordOf 0x00000013 [(21, d.toNat), (16, a.toNat), (9, w.toNat), (8, u.toNat)])
  | .madd d a b c => some (wordOf 0x04000000 [(21, d.toNat), (16, a.toNat), (11, b.toNat), (6, c.toNat)])
  | .msub d a b c => some (wordOf 0x04000001 [(21, d.toNat), (16, a.toNat), (11, b.toNat), (6, c.toNat)])
  | .sel d a b c => some (wordOf 0x04000002 [(21, d.toNat), (16, a.toNat), (11, b.toNat), (6, c.toNat)])
  | .cmpEq d a b w u => some (wordOf 0x08000000 [(21, d.toNat), (16, a.toNat), (11, b.toNat), (9, w.toNat), (8, u.toNat)])
  | .cmpNe d a b w u => some (wordOf 0x08000001 [(21, d.toNat), (16, a.toNat), (11, b.toNat), (9, w.toNat), (8, u.toNat)])
  | .cmpLt d a b w u => some (wordOf 0x08000002 [(21, d.toNat), (16, a.toNat), (11, b.toNat), (9, w.toNat), (8, u.toNat)])
  | .cmpLe d a b w u => some (wordOf 0x08000003 [(21, d.toNat), (16, a.toNat), (11, b.toNat), (9, w.toNat), (8, u.toNat)])
  | .cmpGt d a b w u => some (wordOf 0x08000004 [(21, d.toNat), (16, a.toNat), (11, b.toNat), (9, w.toNat), (8, u.toNat)])
  | .cmpGe d a b w u => some (wordOf 0x08000005 [(21, d.toNat), (16, a.toNat), (11, b.toNat), (9, w.toNat), (8, u.toNat)])
  | .addi d a i => some (wordOf 0x0C000000 [(21, d.toNat), (16, a.toNat), (0, i.toNat)])
  | .addis d a i => some (wordOf 0x10000000 [(21, d.toNat), (16, a.toNat), (0, i.toNat)])
  | .andi d a i => some (wordOf 0x14000000 [(21, d.toNat), (16, a.toNat), (0, i.toNat)])
  | .ori d a i => some (wordOf 0x18000000 [(21, d.toNat), (16, a.toNat), (0, i.toNat)])
  | .xori d a i => some (wordOf 0x1C000000 [(21, d.toNat), (16, a.toNat), (0, i.toNat)])
  | .shli d a n => some (wordOf 0x20000000 [(21, d.toNat), (16, a.toNat), (0, n.toNat)])
  | .shri d a n => some (wordOf 0x20000040 [(21, d.toNat), (16, a.toNat), (0, n.toNat)])
  | .srai d a n => some (wordOf 0x20000080 [(21, d.toNat), (16, a.toNat), (0, n.toNat)])
  | .rori d a n => some (wordOf 0x200000C0 [(21, d.toNat), (16, a.toNat), (0, n.toNat)])
  | .slti d a i => some (wordOf 0x24000000 [(21, d.toNat), (16, a.toNat), (0, i.toNat)])
  | .sltin d a i => some (wordOf 0x28000000 [(21, d.toNat), (16, a.toNat), (0, i.toNat)])
  | .beq a b o => some (wordOf 0x2C000000 [(21, a.toNat), (16, b.toNat), (0, o.toNat)])
  | .bne a b o => some (wordOf 0x2C002000 [(21, a.toNat), (16, b.toNat), (0, o.toNat)])
  | .blt a b o => some (wordOf 0x2C004000 [(21, a.toNat), (16, b.toNat), (0, o.toNat)])
  | .bge a b o => some (wordOf 0x2C006000 [(21, a.toNat), (16, b.toNat), (0, o.toNat)])
  | .bltn a b o => some (wordOf 0x2C008000 [(21, a.toNat), (16, b.toNat), (0, o.toNat)])
  | .bgen a b o => some (wordOf 0x2C00A000 [(21, a.toNat), (16, b.toNat), (0, o.toNat)])
  | .btst a b o => some (wordOf 0x2C00C000 [(21, a.toNat), (16, b.toNat), (0, o.toNat)])
  | .btstz a b o => some (wordOf 0x2C00E000 [(21, a.toNat), (16, b.toNat), (0, o.toNat)])
  | .j o => some (wordOf 0x30000000 [(0, o.toNat)])
  | .jl o => some (wordOf 0x34000000 [(0, o.toNat)])
  | .jr a => some (wordOf 0x38000000 [(16, a.toNat)])
  | .jlr d a => some (wordOf 0x38000001 [(21, d.toNat), (16, a.toNat)])
  | .loop a l => some (wordOf 0x3C000000 [(16, a.toNat), (0, l.toNat)])
  | .loopS r a n l => some (wordOf 0x3D000000 [(21, r.toNat), (16, a.toNat), (12, n.toNat), (0, l.toNat)])
  | .ldN d a c z o => some (wordOf 0x40000000 [(21, d.toNat), (16, a.toNat), (12, c.toNat), (10, z.toNat), (0, o.toNat)])
  | .ldI d a c z o => some (wordOf 0x44000000 [(21, d.toNat), (16, a.toNat), (12, c.toNat), (10, z.toNat), (0, o.toNat)])
  | .st d a c z o => some (wordOf 0x48000000 [(21, d.toNat), (16, a.toNat), (12, c.toNat), (10, z.toNat), (0, o.toNat)])
  | .ldxN d a c z b => some (wordOf 0x4C000000 [(21, d.toNat), (16, a.toNat), (12, c.toNat), (10, z.toNat), (5, b.toNat)])
  | .ldxI d a c z b => some (wordOf 0x50000000 [(21, d.toNat), (16, a.toNat), (12, c.toNat), (10, z.toNat), (5, b.toNat)])
  | .stx d a c z b => some (wordOf 0x54000000 [(21, d.toNat), (16, a.toNat), (12, c.toNat), (10, z.toNat), (5, b.toNat)])
  | .ldAcq d a c z o => some (wordOf 0x58000000 [(21, d.toNat), (16, a.toNat), (12, c.toNat), (10, z.toNat), (0, o.toNat)])
  | .stRel d a c z o => some (wordOf 0x5C000000 [(21, d.toNat), (16, a.toNat), (12, c.toNat), (10, z.toNat), (0, o.toNat)])
  | .atomSwap d a c z p r => some (wordOf 0x60000801 [(21, d.toNat), (16, a.toNat), (12, c.toNat), (10, z.toNat), (3, p.toNat), (1, r.toNat)])
  | .atomCas d a c z p r => some (wordOf 0x60000841 [(21, d.toNat), (16, a.toNat), (12, c.toNat), (10, z.toNat), (3, p.toNat), (1, r.toNat)])
  | .atomAdd d a c z p r => some (wordOf 0x60000881 [(21, d.toNat), (16, a.toNat), (12, c.toNat), (10, z.toNat), (3, p.toNat), (1, r.toNat)])
  | .atomAnd d a c z p r => some (wordOf 0x600008C1 [(21, d.toNat), (16, a.toNat), (12, c.toNat), (10, z.toNat), (3, p.toNat), (1, r.toNat)])
  | .atomOr d a c z p r => some (wordOf 0x60000901 [(21, d.toNat), (16, a.toNat), (12, c.toNat), (10, z.toNat), (3, p.toNat), (1, r.toNat)])
  | .atomXor d a c z p r => some (wordOf 0x60000941 [(21, d.toNat), (16, a.toNat), (12, c.toNat), (10, z.toNat), (3, p.toNat), (1, r.toNat)])
  | .atomMin d a c z p r => some (wordOf 0x60000981 [(21, d.toNat), (16, a.toNat), (12, c.toNat), (10, z.toNat), (3, p.toNat), (1, r.toNat)])
  | .atomMax d a c z p r => some (wordOf 0x600009C1 [(21, d.toNat), (16, a.toNat), (12, c.toNat), (10, z.toNat), (3, p.toNat), (1, r.toNat)])
  | .atomMinn d a c z p r => some (wordOf 0x60000A01 [(21, d.toNat), (16, a.toNat), (12, c.toNat), (10, z.toNat), (3, p.toNat), (1, r.toNat)])
  | .atomMaxn d a c z p r => some (wordOf 0x60000A41 [(21, d.toNat), (16, a.toNat), (12, c.toNat), (10, z.toNat), (3, p.toNat), (1, r.toNat)])
  | .atomFadd d a c p r => some (wordOf 0x60000A81 [(21, d.toNat), (16, a.toNat), (12, c.toNat), (3, p.toNat), (1, r.toNat)])
  | .redAdd d a c z p r => some (wordOf 0x60000880 [(21, d.toNat), (16, a.toNat), (12, c.toNat), (10, z.toNat), (3, p.toNat), (2, r.toNat)])
  | .redAnd d a c z p r => some (wordOf 0x600008C0 [(21, d.toNat), (16, a.toNat), (12, c.toNat), (10, z.toNat), (3, p.toNat), (2, r.toNat)])
  | .redOr d a c z p r => some (wordOf 0x60000900 [(21, d.toNat), (16, a.toNat), (12, c.toNat), (10, z.toNat), (3, p.toNat), (2, r.toNat)])
  | .redXor d a c z p r => some (wordOf 0x60000940 [(21, d.toNat), (16, a.toNat), (12, c.toNat), (10, z.toNat), (3, p.toNat), (2, r.toNat)])
  | .redMin d a c z p r => some (wordOf 0x60000980 [(21, d.toNat), (16, a.toNat), (12, c.toNat), (10, z.toNat), (3, p.toNat), (2, r.toNat)])
  | .redMax d a c z p r => some (wordOf 0x600009C0 [(21, d.toNat), (16, a.toNat), (12, c.toNat), (10, z.toNat), (3, p.toNat), (2, r.toNat)])
  | .redMinn d a c z p r => some (wordOf 0x60000A00 [(21, d.toNat), (16, a.toNat), (12, c.toNat), (10, z.toNat), (3, p.toNat), (2, r.toNat)])
  | .redMaxn d a c z p r => some (wordOf 0x60000A40 [(21, d.toNat), (16, a.toNat), (12, c.toNat), (10, z.toNat), (3, p.toNat), (2, r.toNat)])
  | .redFadd d a c p r => some (wordOf 0x60000A80 [(21, d.toNat), (16, a.toNat), (12, c.toNat), (3, p.toNat), (2, r.toNat)])
  | .redPerform => none
  | .vaddF32 d a b m => some (wordOf 0x80000000 [(21, d.toNat), (16, a.toNat), (11, b.toNat), (8, m.toNat)])
  | .vsubF32 d a b m => some (wordOf 0x80000001 [(21, d.toNat), (16, a.toNat), (11, b.toNat), (8, m.toNat)])
  | .vmulF32 d a b m => some (wordOf 0x80000002 [(21, d.toNat), (16, a.toNat), (11, b.toNat), (8, m.toNat)])
  | .vfmaF32 d a b m => some (wordOf 0x80000003 [(21, d.toNat), (16, a.toNat), (11, b.toNat), (8, m.toNat)])
  | .vminF32 d a b m => some (wordOf 0x80000004 [(21, d.toNat), (16, a.toNat), (11, b.toNat), (8, m.toNat)])
  | .vmaxF32 d a b m => some (wordOf 0x80000005 [(21, d.toNat), (16, a.toNat), (11, b.toNat), (8, m.toNat)])
  | .vabsF32 d a m => some (wordOf 0x80000006 [(21, d.toNat), (16, a.toNat), (8, m.toNat)])
  | .vnegF32 d a m => some (wordOf 0x80000007 [(21, d.toNat), (16, a.toNat), (8, m.toNat)])
  | .vcmpEqF32 d a b m => some (wordOf 0x80000008 [(21, d.toNat), (16, a.toNat), (11, b.toNat), (8, m.toNat)])
  | .vcmpNeF32 d a b m => some (wordOf 0x80000009 [(21, d.toNat), (16, a.toNat), (11, b.toNat), (8, m.toNat)])
  | .vcmpLtF32 d a b m => some (wordOf 0x8000000A [(21, d.toNat), (16, a.toNat), (11, b.toNat), (8, m.toNat)])
  | .vcmpLeF32 d a b m => some (wordOf 0x8000000B [(21, d.toNat), (16, a.toNat), (11, b.toNat), (8, m.toNat)])
  | .vredSumF32 d a m x => some (wordOf 0x80000010 [(21, d.toNat), (16, a.toNat), (8, m.toNat), (6, x.toNat)])
  | .vredMaxF32 d a m x => some (wordOf 0x80000011 [(21, d.toNat), (16, a.toNat), (8, m.toNat), (6, x.toNat)])
  | .vredMinF32 d a m x => some (wordOf 0x80000012 [(21, d.toNat), (16, a.toNat), (8, m.toNat), (6, x.toNat)])
  | .vaddBf16 d a b m => some (wordOf 0x84000000 [(21, d.toNat), (16, a.toNat), (11, b.toNat), (8, m.toNat)])
  | .vsubBf16 d a b m => some (wordOf 0x84000001 [(21, d.toNat), (16, a.toNat), (11, b.toNat), (8, m.toNat)])
  | .vmulBf16 d a b m => some (wordOf 0x84000002 [(21, d.toNat), (16, a.toNat), (11, b.toNat), (8, m.toNat)])
  | .vfmaBf16 d a b m => some (wordOf 0x84000003 [(21, d.toNat), (16, a.toNat), (11, b.toNat), (8, m.toNat)])
  | .vminBf16 d a b m => some (wordOf 0x84000004 [(21, d.toNat), (16, a.toNat), (11, b.toNat), (8, m.toNat)])
  | .vmaxBf16 d a b m => some (wordOf 0x84000005 [(21, d.toNat), (16, a.toNat), (11, b.toNat), (8, m.toNat)])
  | .vabsBf16 d a m => some (wordOf 0x84000006 [(21, d.toNat), (16, a.toNat), (8, m.toNat)])
  | .vnegBf16 d a m => some (wordOf 0x84000007 [(21, d.toNat), (16, a.toNat), (8, m.toNat)])
  | .vcmpEqBf16 d a b m => some (wordOf 0x84000008 [(21, d.toNat), (16, a.toNat), (11, b.toNat), (8, m.toNat)])
  | .vcmpNeBf16 d a b m => some (wordOf 0x84000009 [(21, d.toNat), (16, a.toNat), (11, b.toNat), (8, m.toNat)])
  | .vcmpLtBf16 d a b m => some (wordOf 0x8400000A [(21, d.toNat), (16, a.toNat), (11, b.toNat), (8, m.toNat)])
  | .vcmpLeBf16 d a b m => some (wordOf 0x8400000B [(21, d.toNat), (16, a.toNat), (11, b.toNat), (8, m.toNat)])
  | .vredSumBf16 d a m x => some (wordOf 0x84000010 [(21, d.toNat), (16, a.toNat), (8, m.toNat), (6, x.toNat)])
  | .vredMaxBf16 d a m x => some (wordOf 0x84000011 [(21, d.toNat), (16, a.toNat), (8, m.toNat), (6, x.toNat)])
  | .vredMinBf16 d a m x => some (wordOf 0x84000012 [(21, d.toNat), (16, a.toNat), (8, m.toNat), (6, x.toNat)])
  | .vaddF16 d a b m => some (wordOf 0x88000000 [(21, d.toNat), (16, a.toNat), (11, b.toNat), (8, m.toNat)])
  | .vsubF16 d a b m => some (wordOf 0x88000001 [(21, d.toNat), (16, a.toNat), (11, b.toNat), (8, m.toNat)])
  | .vmulF16 d a b m => some (wordOf 0x88000002 [(21, d.toNat), (16, a.toNat), (11, b.toNat), (8, m.toNat)])
  | .vfmaF16 d a b m => some (wordOf 0x88000003 [(21, d.toNat), (16, a.toNat), (11, b.toNat), (8, m.toNat)])
  | .vminF16 d a b m => some (wordOf 0x88000004 [(21, d.toNat), (16, a.toNat), (11, b.toNat), (8, m.toNat)])
  | .vmaxF16 d a b m => some (wordOf 0x88000005 [(21, d.toNat), (16, a.toNat), (11, b.toNat), (8, m.toNat)])
  | .vabsF16 d a m => some (wordOf 0x88000006 [(21, d.toNat), (16, a.toNat), (8, m.toNat)])
  | .vnegF16 d a m => some (wordOf 0x88000007 [(21, d.toNat), (16, a.toNat), (8, m.toNat)])
  | .vcmpEqF16 d a b m => some (wordOf 0x88000008 [(21, d.toNat), (16, a.toNat), (11, b.toNat), (8, m.toNat)])
  | .vcmpNeF16 d a b m => some (wordOf 0x88000009 [(21, d.toNat), (16, a.toNat), (11, b.toNat), (8, m.toNat)])
  | .vcmpLtF16 d a b m => some (wordOf 0x8800000A [(21, d.toNat), (16, a.toNat), (11, b.toNat), (8, m.toNat)])
  | .vcmpLeF16 d a b m => some (wordOf 0x8800000B [(21, d.toNat), (16, a.toNat), (11, b.toNat), (8, m.toNat)])
  | .vredSumF16 d a m x => some (wordOf 0x88000010 [(21, d.toNat), (16, a.toNat), (8, m.toNat), (6, x.toNat)])
  | .vredMaxF16 d a m x => some (wordOf 0x88000011 [(21, d.toNat), (16, a.toNat), (8, m.toNat), (6, x.toNat)])
  | .vredMinF16 d a m x => some (wordOf 0x88000012 [(21, d.toNat), (16, a.toNat), (8, m.toNat), (6, x.toNat)])
  | .vaddI32 d a b m => some (wordOf 0x8C000000 [(21, d.toNat), (16, a.toNat), (11, b.toNat), (8, m.toNat)])
  | .vsubI32 d a b m => some (wordOf 0x8C000001 [(21, d.toNat), (16, a.toNat), (11, b.toNat), (8, m.toNat)])
  | .vmulI32 d a b m => some (wordOf 0x8C000002 [(21, d.toNat), (16, a.toNat), (11, b.toNat), (8, m.toNat)])
  | .vmadI32 d a b m => some (wordOf 0x8C000003 [(21, d.toNat), (16, a.toNat), (11, b.toNat), (8, m.toNat)])
  | .vminI32 d a b m => some (wordOf 0x8C000004 [(21, d.toNat), (16, a.toNat), (11, b.toNat), (8, m.toNat)])
  | .vmaxI32 d a b m => some (wordOf 0x8C000005 [(21, d.toNat), (16, a.toNat), (11, b.toNat), (8, m.toNat)])
  | .vminnI32 d a b m => some (wordOf 0x8C000006 [(21, d.toNat), (16, a.toNat), (11, b.toNat), (8, m.toNat)])
  | .vmaxnI32 d a b m => some (wordOf 0x8C000007 [(21, d.toNat), (16, a.toNat), (11, b.toNat), (8, m.toNat)])
  | .vcmpEqI32 d a b m => some (wordOf 0x8C000008 [(21, d.toNat), (16, a.toNat), (11, b.toNat), (8, m.toNat)])
  | .vcmpNeI32 d a b m => some (wordOf 0x8C000009 [(21, d.toNat), (16, a.toNat), (11, b.toNat), (8, m.toNat)])
  | .vcmpLtI32 d a b m => some (wordOf 0x8C00000A [(21, d.toNat), (16, a.toNat), (11, b.toNat), (8, m.toNat)])
  | .vcmpLeI32 d a b m => some (wordOf 0x8C00000B [(21, d.toNat), (16, a.toNat), (11, b.toNat), (8, m.toNat)])
  | .vcmpLtnI32 d a b m => some (wordOf 0x8C00000C [(21, d.toNat), (16, a.toNat), (11, b.toNat), (8, m.toNat)])
  | .vcmpLenI32 d a b m => some (wordOf 0x8C00000D [(21, d.toNat), (16, a.toNat), (11, b.toNat), (8, m.toNat)])
  | .vabsI32 d a m => some (wordOf 0x8C00000E [(21, d.toNat), (16, a.toNat), (8, m.toNat)])
  | .vnegI32 d a m => some (wordOf 0x8C00000F [(21, d.toNat), (16, a.toNat), (8, m.toNat)])
  | .vredSumI32 d a m x => some (wordOf 0x8C000010 [(21, d.toNat), (16, a.toNat), (8, m.toNat), (6, x.toNat)])
  | .vredMaxI32 d a m x => some (wordOf 0x8C000011 [(21, d.toNat), (16, a.toNat), (8, m.toNat), (6, x.toNat)])
  | .vredMinI32 d a m x => some (wordOf 0x8C000012 [(21, d.toNat), (16, a.toNat), (8, m.toNat), (6, x.toNat)])
  | .vandI32 d a b m => some (wordOf 0x8C000014 [(21, d.toNat), (16, a.toNat), (11, b.toNat), (8, m.toNat)])
  | .vorI32 d a b m => some (wordOf 0x8C000015 [(21, d.toNat), (16, a.toNat), (11, b.toNat), (8, m.toNat)])
  | .vxorI32 d a b m => some (wordOf 0x8C000016 [(21, d.toNat), (16, a.toNat), (11, b.toNat), (8, m.toNat)])
  | .vshlI32 d a b m => some (wordOf 0x8C000017 [(21, d.toNat), (16, a.toNat), (11, b.toNat), (8, m.toNat)])
  | .vshrI32 d a b m => some (wordOf 0x8C000018 [(21, d.toNat), (16, a.toNat), (11, b.toNat), (8, m.toNat)])
  | .vsraI32 d a b m => some (wordOf 0x8C000019 [(21, d.toNat), (16, a.toNat), (11, b.toNat), (8, m.toNat)])
  | .vaddSatI32 d a b m => some (wordOf 0x8C000020 [(21, d.toNat), (16, a.toNat), (11, b.toNat), (8, m.toNat)])
  | .vsubSatI32 d a b m => some (wordOf 0x8C000021 [(21, d.toNat), (16, a.toNat), (11, b.toNat), (8, m.toNat)])
  | .vaddnSatI32 d a b m => some (wordOf 0x8C000022 [(21, d.toNat), (16, a.toNat), (11, b.toNat), (8, m.toNat)])
  | .vsubnSatI32 d a b m => some (wordOf 0x8C000023 [(21, d.toNat), (16, a.toNat), (11, b.toNat), (8, m.toNat)])
  | .vaddI16 d a b m => some (wordOf 0x90000000 [(21, d.toNat), (16, a.toNat), (11, b.toNat), (8, m.toNat)])
  | .vsubI16 d a b m => some (wordOf 0x90000001 [(21, d.toNat), (16, a.toNat), (11, b.toNat), (8, m.toNat)])
  | .vmulI16 d a b m => some (wordOf 0x90000002 [(21, d.toNat), (16, a.toNat), (11, b.toNat), (8, m.toNat)])
  | .vmadI16 d a b m => some (wordOf 0x90000003 [(21, d.toNat), (16, a.toNat), (11, b.toNat), (8, m.toNat)])
  | .vminI16 d a b m => some (wordOf 0x90000004 [(21, d.toNat), (16, a.toNat), (11, b.toNat), (8, m.toNat)])
  | .vmaxI16 d a b m => some (wordOf 0x90000005 [(21, d.toNat), (16, a.toNat), (11, b.toNat), (8, m.toNat)])
  | .vminnI16 d a b m => some (wordOf 0x90000006 [(21, d.toNat), (16, a.toNat), (11, b.toNat), (8, m.toNat)])
  | .vmaxnI16 d a b m => some (wordOf 0x90000007 [(21, d.toNat), (16, a.toNat), (11, b.toNat), (8, m.toNat)])
  | .vcmpEqI16 d a b m => some (wordOf 0x90000008 [(21, d.toNat), (16, a.toNat), (11, b.toNat), (8, m.toNat)])
  | .vcmpNeI16 d a b m => some (wordOf 0x90000009 [(21, d.toNat), (16, a.toNat), (11, b.toNat), (8, m.toNat)])
  | .vcmpLtI16 d a b m => some (wordOf 0x9000000A [(21, d.toNat), (16, a.toNat), (11, b.toNat), (8, m.toNat)])
  | .vcmpLeI16 d a b m => some (wordOf 0x9000000B [(21, d.toNat), (16, a.toNat), (11, b.toNat), (8, m.toNat)])
  | .vcmpLtnI16 d a b m => some (wordOf 0x9000000C [(21, d.toNat), (16, a.toNat), (11, b.toNat), (8, m.toNat)])
  | .vcmpLenI16 d a b m => some (wordOf 0x9000000D [(21, d.toNat), (16, a.toNat), (11, b.toNat), (8, m.toNat)])
  | .vabsI16 d a m => some (wordOf 0x9000000E [(21, d.toNat), (16, a.toNat), (8, m.toNat)])
  | .vnegI16 d a m => some (wordOf 0x9000000F [(21, d.toNat), (16, a.toNat), (8, m.toNat)])
  | .vredSumI16 d a m x => some (wordOf 0x90000010 [(21, d.toNat), (16, a.toNat), (8, m.toNat), (6, x.toNat)])
  | .vredMaxI16 d a m x => some (wordOf 0x90000011 [(21, d.toNat), (16, a.toNat), (8, m.toNat), (6, x.toNat)])
  | .vredMinI16 d a m x => some (wordOf 0x90000012 [(21, d.toNat), (16, a.toNat), (8, m.toNat), (6, x.toNat)])
  | .vandI16 d a b m => some (wordOf 0x90000014 [(21, d.toNat), (16, a.toNat), (11, b.toNat), (8, m.toNat)])
  | .vorI16 d a b m => some (wordOf 0x90000015 [(21, d.toNat), (16, a.toNat), (11, b.toNat), (8, m.toNat)])
  | .vxorI16 d a b m => some (wordOf 0x90000016 [(21, d.toNat), (16, a.toNat), (11, b.toNat), (8, m.toNat)])
  | .vshlI16 d a b m => some (wordOf 0x90000017 [(21, d.toNat), (16, a.toNat), (11, b.toNat), (8, m.toNat)])
  | .vshrI16 d a b m => some (wordOf 0x90000018 [(21, d.toNat), (16, a.toNat), (11, b.toNat), (8, m.toNat)])
  | .vsraI16 d a b m => some (wordOf 0x90000019 [(21, d.toNat), (16, a.toNat), (11, b.toNat), (8, m.toNat)])
  | .vaddSatI16 d a b m => some (wordOf 0x90000020 [(21, d.toNat), (16, a.toNat), (11, b.toNat), (8, m.toNat)])
  | .vsubSatI16 d a b m => some (wordOf 0x90000021 [(21, d.toNat), (16, a.toNat), (11, b.toNat), (8, m.toNat)])
  | .vaddnSatI16 d a b m => some (wordOf 0x90000022 [(21, d.toNat), (16, a.toNat), (11, b.toNat), (8, m.toNat)])
  | .vsubnSatI16 d a b m => some (wordOf 0x90000023 [(21, d.toNat), (16, a.toNat), (11, b.toNat), (8, m.toNat)])
  | .vaddI8 d a b m => some (wordOf 0x94000000 [(21, d.toNat), (16, a.toNat), (11, b.toNat), (8, m.toNat)])
  | .vsubI8 d a b m => some (wordOf 0x94000001 [(21, d.toNat), (16, a.toNat), (11, b.toNat), (8, m.toNat)])
  | .vmulI8 d a b m => some (wordOf 0x94000002 [(21, d.toNat), (16, a.toNat), (11, b.toNat), (8, m.toNat)])
  | .vmadI8 d a b m => some (wordOf 0x94000003 [(21, d.toNat), (16, a.toNat), (11, b.toNat), (8, m.toNat)])
  | .vminI8 d a b m => some (wordOf 0x94000004 [(21, d.toNat), (16, a.toNat), (11, b.toNat), (8, m.toNat)])
  | .vmaxI8 d a b m => some (wordOf 0x94000005 [(21, d.toNat), (16, a.toNat), (11, b.toNat), (8, m.toNat)])
  | .vminnI8 d a b m => some (wordOf 0x94000006 [(21, d.toNat), (16, a.toNat), (11, b.toNat), (8, m.toNat)])
  | .vmaxnI8 d a b m => some (wordOf 0x94000007 [(21, d.toNat), (16, a.toNat), (11, b.toNat), (8, m.toNat)])
  | .vcmpEqI8 d a b m => some (wordOf 0x94000008 [(21, d.toNat), (16, a.toNat), (11, b.toNat), (8, m.toNat)])
  | .vcmpNeI8 d a b m => some (wordOf 0x94000009 [(21, d.toNat), (16, a.toNat), (11, b.toNat), (8, m.toNat)])
  | .vcmpLtI8 d a b m => some (wordOf 0x9400000A [(21, d.toNat), (16, a.toNat), (11, b.toNat), (8, m.toNat)])
  | .vcmpLeI8 d a b m => some (wordOf 0x9400000B [(21, d.toNat), (16, a.toNat), (11, b.toNat), (8, m.toNat)])
  | .vcmpLtnI8 d a b m => some (wordOf 0x9400000C [(21, d.toNat), (16, a.toNat), (11, b.toNat), (8, m.toNat)])
  | .vcmpLenI8 d a b m => some (wordOf 0x9400000D [(21, d.toNat), (16, a.toNat), (11, b.toNat), (8, m.toNat)])
  | .vabsI8 d a m => some (wordOf 0x9400000E [(21, d.toNat), (16, a.toNat), (8, m.toNat)])
  | .vnegI8 d a m => some (wordOf 0x9400000F [(21, d.toNat), (16, a.toNat), (8, m.toNat)])
  | .vredSumI8 d a m x => some (wordOf 0x94000010 [(21, d.toNat), (16, a.toNat), (8, m.toNat), (6, x.toNat)])
  | .vredMaxI8 d a m x => some (wordOf 0x94000011 [(21, d.toNat), (16, a.toNat), (8, m.toNat), (6, x.toNat)])
  | .vredMinI8 d a m x => some (wordOf 0x94000012 [(21, d.toNat), (16, a.toNat), (8, m.toNat), (6, x.toNat)])
  | .vandI8 d a b m => some (wordOf 0x94000014 [(21, d.toNat), (16, a.toNat), (11, b.toNat), (8, m.toNat)])
  | .vorI8 d a b m => some (wordOf 0x94000015 [(21, d.toNat), (16, a.toNat), (11, b.toNat), (8, m.toNat)])
  | .vxorI8 d a b m => some (wordOf 0x94000016 [(21, d.toNat), (16, a.toNat), (11, b.toNat), (8, m.toNat)])
  | .vshlI8 d a b m => some (wordOf 0x94000017 [(21, d.toNat), (16, a.toNat), (11, b.toNat), (8, m.toNat)])
  | .vshrI8 d a b m => some (wordOf 0x94000018 [(21, d.toNat), (16, a.toNat), (11, b.toNat), (8, m.toNat)])
  | .vsraI8 d a b m => some (wordOf 0x94000019 [(21, d.toNat), (16, a.toNat), (11, b.toNat), (8, m.toNat)])
  | .vaddSatI8 d a b m => some (wordOf 0x94000020 [(21, d.toNat), (16, a.toNat), (11, b.toNat), (8, m.toNat)])
  | .vsubSatI8 d a b m => some (wordOf 0x94000021 [(21, d.toNat), (16, a.toNat), (11, b.toNat), (8, m.toNat)])
  | .vaddnSatI8 d a b m => some (wordOf 0x94000022 [(21, d.toNat), (16, a.toNat), (11, b.toNat), (8, m.toNat)])
  | .vsubnSatI8 d a b m => some (wordOf 0x94000023 [(21, d.toNat), (16, a.toNat), (11, b.toNat), (8, m.toNat)])
  | .vcvtF32 d a m => some (wordOf 0x98000001 [(21, d.toNat), (16, a.toNat), (8, m.toNat)])
  | .vcvtBf16 d a m => some (wordOf 0x98000002 [(21, d.toNat), (16, a.toNat), (8, m.toNat)])
  | .vcvtF16 d a m => some (wordOf 0x98000003 [(21, d.toNat), (16, a.toNat), (8, m.toNat)])
  | .vcvtI32 d a m => some (wordOf 0x98000004 [(21, d.toNat), (16, a.toNat), (8, m.toNat)])
  | .vcvtI16 d a m => some (wordOf 0x98000005 [(21, d.toNat), (16, a.toNat), (8, m.toNat)])
  | .vcvtI8 d a m => some (wordOf 0x98000006 [(21, d.toNat), (16, a.toNat), (8, m.toNat)])
  | .vcvtE4m3 d a m => some (wordOf 0x98000007 [(21, d.toNat), (16, a.toNat), (8, m.toNat)])
  | .vcvtE5m2 d a m => some (wordOf 0x98000008 [(21, d.toNat), (16, a.toNat), (8, m.toNat)])
  | .vcvtPF32 d a b m => some (wordOf 0x98000011 [(21, d.toNat), (16, a.toNat), (11, b.toNat), (8, m.toNat)])
  | .vcvtPBf16 d a b m => some (wordOf 0x98000012 [(21, d.toNat), (16, a.toNat), (11, b.toNat), (8, m.toNat)])
  | .vcvtPF16 d a b m => some (wordOf 0x98000013 [(21, d.toNat), (16, a.toNat), (11, b.toNat), (8, m.toNat)])
  | .vcvtPI32 d a b m => some (wordOf 0x98000014 [(21, d.toNat), (16, a.toNat), (11, b.toNat), (8, m.toNat)])
  | .vcvtPI16 d a b m => some (wordOf 0x98000015 [(21, d.toNat), (16, a.toNat), (11, b.toNat), (8, m.toNat)])
  | .vcvtPI8 d a b m => some (wordOf 0x98000016 [(21, d.toNat), (16, a.toNat), (11, b.toNat), (8, m.toNat)])
  | .vcvtPE4m3 d a b m => some (wordOf 0x98000017 [(21, d.toNat), (16, a.toNat), (11, b.toNat), (8, m.toNat)])
  | .vcvtPE5m2 d a b m => some (wordOf 0x98000018 [(21, d.toNat), (16, a.toNat), (11, b.toNat), (8, m.toNat)])
  | .vrot d a k x => some (wordOf 0x9C000000 [(21, d.toNat), (16, a.toNat), (10, k.toNat), (6, x.toNat)])
  | .vbcast d a k x => some (wordOf 0x9C000001 [(21, d.toNat), (16, a.toNat), (10, k.toNat), (6, x.toNat)])
  | .mand d a b => some (wordOf 0xA0000000 [(21, d.toNat), (16, a.toNat), (11, b.toNat)])
  | .mor d a b => some (wordOf 0xA0000001 [(21, d.toNat), (16, a.toNat), (11, b.toNat)])
  | .mxor d a b => some (wordOf 0xA0000002 [(21, d.toNat), (16, a.toNat), (11, b.toNat)])
  | .mandn d a b => some (wordOf 0xA0000003 [(21, d.toNat), (16, a.toNat), (11, b.toNat)])
  | .mnot d a => some (wordOf 0xA0000004 [(21, d.toNat), (16, a.toNat)])
  | .mfromv d a => some (wordOf 0xA0000008 [(21, d.toNat), (16, a.toNat)])
  | .mtov d a => some (wordOf 0xA0000009 [(21, d.toNat), (16, a.toNat)])
  | .mpopc d a => some (wordOf 0xA000000A [(21, d.toNat), (16, a.toNat)])
  | .vsel d a b m => some (wordOf 0xA0000010 [(21, d.toNat), (16, a.toNat), (11, b.toNat), (8, m.toNat)])
  | .vexp2 d a m => some (wordOf 0xA4000000 [(21, d.toNat), (16, a.toNat), (8, m.toNat)])
  | .vlog2 d a m => some (wordOf 0xA4000001 [(21, d.toNat), (16, a.toNat), (8, m.toNat)])
  | .vrcp d a m => some (wordOf 0xA4000002 [(21, d.toNat), (16, a.toNat), (8, m.toNat)])
  | .vrsq d a m => some (wordOf 0xA4000003 [(21, d.toNat), (16, a.toNat), (8, m.toNat)])
  | .vtanh d a m => some (wordOf 0xA4000004 [(21, d.toNat), (16, a.toNat), (8, m.toNat)])
  | .vsilu d a m => some (wordOf 0xA4000005 [(21, d.toNat), (16, a.toNat), (8, m.toNat)])
  | .vmov d a m => some (wordOf 0xA8000000 [(21, d.toNat), (16, a.toNat), (8, m.toNat)])
  | .vget d a b => some (wordOf 0xA8000002 [(21, d.toNat), (16, a.toNat), (11, b.toNat)])
  | .vsete d a b => some (wordOf 0xA8000003 [(21, d.toNat), (16, a.toNat), (11, b.toNat)])
  | .vidx d m => some (wordOf 0xA8000004 [(21, d.toNat), (8, m.toNat)])
  | .vsplatF32 d a m => some (wordOf 0xA8000011 [(21, d.toNat), (16, a.toNat), (8, m.toNat)])
  | .vsplatBf16 d a m => some (wordOf 0xA8000012 [(21, d.toNat), (16, a.toNat), (8, m.toNat)])
  | .vsplatF16 d a m => some (wordOf 0xA8000013 [(21, d.toNat), (16, a.toNat), (8, m.toNat)])
  | .vsplatI32 d a m => some (wordOf 0xA8000014 [(21, d.toNat), (16, a.toNat), (8, m.toNat)])
  | .vsplatI16 d a m => some (wordOf 0xA8000015 [(21, d.toNat), (16, a.toNat), (8, m.toNat)])
  | .vsplatI8 d a m => some (wordOf 0xA8000016 [(21, d.toNat), (16, a.toNat), (8, m.toNat)])
  | .vsplatE4m3 d a m => some (wordOf 0xA8000017 [(21, d.toNat), (16, a.toNat), (8, m.toNat)])
  | .vsplatE5m2 d a m => some (wordOf 0xA8000018 [(21, d.toNat), (16, a.toNat), (8, m.toNat)])
  | .vsplatMask d a m => some (wordOf 0xA8000019 [(21, d.toNat), (16, a.toNat), (8, m.toNat)])
  | .vld d t r => some (wordOf 0xAC000000 [(21, d.toNat), (13, t.toNat), (6, r.toNat)])
  | .vst d t r => some (wordOf 0xAC000001 [(21, d.toNat), (13, t.toNat), (6, r.toNat)])
  | .vperm d t r => some (wordOf 0xAC000002 [(21, d.toNat), (13, t.toNat), (6, r.toNat)])
  | .vatomAddI32 d a b c p => some (wordOf 0xB0000008 [(21, d.toNat), (16, a.toNat), (11, b.toNat), (7, c.toNat), (0, p.toNat)])
  | .vatomAddF32 d a b c p => some (wordOf 0xB0000018 [(21, d.toNat), (16, a.toNat), (11, b.toNat), (7, c.toNat), (0, p.toNat)])
  | .vatomMinI32 d a b c p => some (wordOf 0xB0000028 [(21, d.toNat), (16, a.toNat), (11, b.toNat), (7, c.toNat), (0, p.toNat)])
  | .vatomMaxI32 d a b c p => some (wordOf 0xB0000038 [(21, d.toNat), (16, a.toNat), (11, b.toNat), (7, c.toNat), (0, p.toNat)])
  | .vatomAnd d a b c p => some (wordOf 0xB0000048 [(21, d.toNat), (16, a.toNat), (11, b.toNat), (7, c.toNat), (0, p.toNat)])
  | .vatomOr d a b c p => some (wordOf 0xB0000058 [(21, d.toNat), (16, a.toNat), (11, b.toNat), (7, c.toNat), (0, p.toNat)])
  | .vatomXor d a b c p => some (wordOf 0xB0000068 [(21, d.toNat), (16, a.toNat), (11, b.toNat), (7, c.toNat), (0, p.toNat)])
  | .vatomSwap d a b c p => some (wordOf 0xB0000078 [(21, d.toNat), (16, a.toNat), (11, b.toNat), (7, c.toNat), (0, p.toNat)])
  | .vatomAddI32Nr d a b c p => some (wordOf 0xB0000000 [(21, d.toNat), (16, a.toNat), (11, b.toNat), (7, c.toNat), (0, p.toNat)])
  | .vatomAddF32Nr d a b c p => some (wordOf 0xB0000010 [(21, d.toNat), (16, a.toNat), (11, b.toNat), (7, c.toNat), (0, p.toNat)])
  | .vatomMinI32Nr d a b c p => some (wordOf 0xB0000020 [(21, d.toNat), (16, a.toNat), (11, b.toNat), (7, c.toNat), (0, p.toNat)])
  | .vatomMaxI32Nr d a b c p => some (wordOf 0xB0000030 [(21, d.toNat), (16, a.toNat), (11, b.toNat), (7, c.toNat), (0, p.toNat)])
  | .vatomAndNr d a b c p => some (wordOf 0xB0000040 [(21, d.toNat), (16, a.toNat), (11, b.toNat), (7, c.toNat), (0, p.toNat)])
  | .vatomOrNr d a b c p => some (wordOf 0xB0000050 [(21, d.toNat), (16, a.toNat), (11, b.toNat), (7, c.toNat), (0, p.toNat)])
  | .vatomXorNr d a b c p => some (wordOf 0xB0000060 [(21, d.toNat), (16, a.toNat), (11, b.toNat), (7, c.toNat), (0, p.toNat)])
  | .vatomLaneReturn _ _ => none
  | .enq r q => some (wordOf 0xE0000000 [(24, r.toNat), (21, q.toNat)])
  | .enqNb r q => some (wordOf 0xE0100000 [(24, r.toNat), (21, q.toNat)])
  | .talloc t q => some (wordOf 0xE4000000 [(13, t.toNat), (10, q.toNat)])
  | .tfree t => some (wordOf 0xE4000001 [(13, t.toNat)])
  | .twait t => some (wordOf 0xE4000002 [(13, t.toNat)])
  | .tset t q => some (wordOf 0xE4000003 [(13, t.toNat), (10, q.toNat)])
  | .tget d t => some (wordOf 0xE4000004 [(21, d.toNat), (13, t.toNat)])
  | .mfc d c => some (wordOf 0xF0000000 [(21, d.toNat), (4, c.toNat)])
  | .mtc a c => some (wordOf 0xF0000001 [(16, a.toNat), (4, c.toNat)])
  | .trap n => some (wordOf 0xF0000002 [(4, n.toNat)])
  | .rett => some (wordOf 0xF0000003 [])
  | .retry => some (wordOf 0xF0000004 [])
  | .safept k => some (wordOf 0xF0000005 [(4, k.toNat)])
  | .waitc a k => some (wordOf 0xF0000006 [(16, a.toNat), (4, k.toNat)])
  | .taskExit => some (wordOf 0xF0000006 [])
  | .valloc k => some (wordOf 0xF0000007 [(4, k.toNat)])
  | .waitx n => some (wordOf 0xF0000008 [(4, n.toNat)])
  | .snapopen d a => some (wordOf 0xF0000009 [(21, d.toNat), (16, a.toNat)])
  | .snappub d a => some (wordOf 0xF000000A [(21, d.toNat), (16, a.toNat)])
  | .tokw s => some (wordOf 0xF4000000 [(4, s.toNat)])
  | .toks s => some (wordOf 0xF4000001 [(4, s.toNat)])
  | .semw s => some (wordOf 0xF4000002 [(4, s.toNat)])
  | .sems s => some (wordOf 0xF4000003 [(4, s.toNat)])
  | .semr d s => some (wordOf 0xF4000004 [(21, d.toNat), (4, s.toNat)])
  | .pondSync l => some (wordOf 0xF4000005 [(4, l.toNat)])
  | .fence s m => some (wordOf 0xF8000000 [(23, s.toNat), (0, m.toNat)])
  | .stallClear => none
  | .safePointOverdue => none
  | .rollbackResume => none
  | .taskEnd => none
  | .registerDrowsy _ => none
  | .debuggerRead _ => none
  | .tload _ _ => none
  | .tloadt _ _ => none
  | .tstore _ _ => none
  | .tstoret _ _ => none
  | .copy _ _ => none
  | .fillTile _ _ => none
  | .fillMemory _ _ => none
  | .gather _ _ => none
  | .scatter _ _ => none
  | .bind _ _ => none
  | .unbind _ _ => none
  | .bload _ _ => none
  | .bwait _ _ => none
  | .bdisc _ _ => none
  | .bflush _ _ => none
  | .rfetch _ _ => none
  | .rsend _ _ => none
  | .migrate _ _ => none
  | .twback _ _ => none
  | .cinv _ _ => none
  | .mark _ _ => none
  | .kvappend _ _ => none
  | .kvgrow _ _ => none
  | .kvcow _ _ => none
  | .kvremap _ _ => none
  | .pfxwalk _ _ => none
  | .pfxins _ _ => none
  | .pfxrelSequence _ _ => none
  | .pfxrelList _ _ => none
  | .pfxdirClaim _ _ => none
  | .pfxdirShare _ _ => none
  | .pfxdirDrop _ _ => none
  | .attnr _ _ => none
  | .attnrReply _ => none
  | .attnrTimeout => none
  | .mmul _ _ => none
  | .mmul2 _ _ => none
  | .attn _ _ => none
  | .attnSoftmaxStart => none
  | .mxv _ _ => none
  | .mzero _ _ => none
  | .sinit _ _ => none
  | .sfin _ _ => none
  | .smerge _ _ => none
  | .scopy _ _ => none
  | .arrayPassEnd _ _ _ => none
  | .matrixFreeze => none
  | .matrixResume => none
  | .arrayRowRemap _ _ => none
  | .bitternCommit _ => none
  | .engineFault _ => none
  | .commandComplete _ => none
  | .heldSignalPush _ => none
  | .blockFillComplete _ => none
  | .regionFillComplete _ => none
  | .barrierPass _ => none
  | .doorbell _ _ => none
  | .kickReport _ => none
  | .queueScan => none
  | .queueIdleTimeout _ => none
  | .packetLaunch _ => none
  | .packetResume _ => none
  | .packetShootdown _ => none
  | .packetNop _ => none
  | .shootdownComplete => none
  | .batchClose _ => none
  | .dispatch => none
  | .prologueStart => none
  | .prologueOverrun _ => none
  | .launchComplete _ => none
  | .haltComplete => none
  | .partitionSwap _ => none
  | .swapExchange _ => none
  | .thermalLevelChange _ => none
  | .lockstepMismatch => none
  | .lockstepRestart => none
  | .migrationStart => none
  | .migrationSwitch => none
  | .migrationDeadlineDrop => none
  | .migrationAbandon => none
  | .ptNodeBusy => none
  | .heatSweep => none
  | .lagoonScrubVisit => none
  | .biSnoop _ _ => none
  | .addCapacity _ _ _ => none
  | .releaseCapacity _ => none
  | .capacityAccept _ => none
  | .capacityDecline _ => none
  | .confirmRevocation _ => none
  | .forcedRemoval _ => none
  | .headLinkDown _ => none
  | .headCompletionTimeout _ => none
  | .headRecover _ => none
  | .moduleUnreachable _ => none
  | .laneFailure _ => none
  | .portRetrainDone _ => none
  | .ideFailure _ => none
  | .write _ => none
  | .read _ => none
  | .data _ => none
  | .atom _ => none
  | .red _ => none
  | .result _ => none
  | .ack _ => none
  | .areq _ => none
  | .arep _ => none
  | .time _ => none
  | .ackSend _ _ => none
  | .busyResend _ _ _ => none
  | .applyRetry _ _ _ => none
  | .heldSend _ _ => none
  | .applyRefuse _ _ => none
  | .planeFailTimeout _ _ => none
  | .planeLinkDown _ => none
  | .planeRestore _ _ => none
  | .planeRetry _ => none
  | .peerUnreachable _ => none
  | .timeExchange => none
  | .syncLoss => none
  | .channelSpareSwitch _ _ => none
  | .uncorrectableError _ => none
  | .controlStateError => none
  | .rowSpareStart _ _ _ => none
  | .rowSpareSwitch _ _ _ => none
  | .telemetryWrite => none
  | .configWrite _ _ => none
  | .warmResetRequest => none
  | .maintResetRequest => none
  | .partitionForm => none
  | .partitionDissolve => none
  | .garetorReset _ => none
  | .hostBarAccess _ _ _ => none
  | .attest _ => none
  | .deploy _ => none
  | .takeOwnership _ _ => none
  | .releaseOwnership _ => none
  | .retire _ => none
  | .raiseSecurityMinimum _ _ _ => none
  | .recoveryImage _ => none
  | .coldReset => none
  | .resetPhaseEnd => none
  | .bootComplete _ => none
  | .wipeComplete => none
  | .powerOff => none
  | .outOfServiceTemperature => none
  | .moduleReenumeration _ => none
  | .spareChannelSwitchEnd _ _ => none

/-- The 256 bits of an instruction that is an engine command (03 R98). -/
def encodeCommand : Instr → Option (Ring × Cmd)
  | .add _ _ _ _ _ _ => none
  | .sub _ _ _ _ _ _ => none
  | .mul _ _ _ _ _ _ => none
  | .mulh _ _ _ _ _ => none
  | .div _ _ _ _ _ _ => none
  | .rem _ _ _ _ _ => none
  | .min _ _ _ _ _ => none
  | .max _ _ _ _ _ => none
  | .and _ _ _ _ _ => none
  | .or _ _ _ _ _ => none
  | .xor _ _ _ _ _ => none
  | .andn _ _ _ _ _ => none
  | .shl _ _ _ _ _ => none
  | .shr _ _ _ _ _ => none
  | .ror _ _ _ _ _ => none
  | .clz _ _ _ _ => none
  | .popc _ _ _ _ => none
  | .abs _ _ _ _ _ => none
  | .neg _ _ _ _ _ => none
  | .ext _ _ _ _ => none
  | .madd _ _ _ _ => none
  | .msub _ _ _ _ => none
  | .sel _ _ _ _ => none
  | .cmpEq _ _ _ _ _ => none
  | .cmpNe _ _ _ _ _ => none
  | .cmpLt _ _ _ _ _ => none
  | .cmpLe _ _ _ _ _ => none
  | .cmpGt _ _ _ _ _ => none
  | .cmpGe _ _ _ _ _ => none
  | .addi _ _ _ => none
  | .addis _ _ _ => none
  | .andi _ _ _ => none
  | .ori _ _ _ => none
  | .xori _ _ _ => none
  | .shli _ _ _ => none
  | .shri _ _ _ => none
  | .srai _ _ _ => none
  | .rori _ _ _ => none
  | .slti _ _ _ => none
  | .sltin _ _ _ => none
  | .beq _ _ _ => none
  | .bne _ _ _ => none
  | .blt _ _ _ => none
  | .bge _ _ _ => none
  | .bltn _ _ _ => none
  | .bgen _ _ _ => none
  | .btst _ _ _ => none
  | .btstz _ _ _ => none
  | .j _ => none
  | .jl _ => none
  | .jr _ => none
  | .jlr _ _ => none
  | .loop _ _ => none
  | .loopS _ _ _ _ => none
  | .ldN _ _ _ _ _ => none
  | .ldI _ _ _ _ _ => none
  | .st _ _ _ _ _ => none
  | .ldxN _ _ _ _ _ => none
  | .ldxI _ _ _ _ _ => none
  | .stx _ _ _ _ _ => none
  | .ldAcq _ _ _ _ _ => none
  | .stRel _ _ _ _ _ => none
  | .atomSwap _ _ _ _ _ _ => none
  | .atomCas _ _ _ _ _ _ => none
  | .atomAdd _ _ _ _ _ _ => none
  | .atomAnd _ _ _ _ _ _ => none
  | .atomOr _ _ _ _ _ _ => none
  | .atomXor _ _ _ _ _ _ => none
  | .atomMin _ _ _ _ _ _ => none
  | .atomMax _ _ _ _ _ _ => none
  | .atomMinn _ _ _ _ _ _ => none
  | .atomMaxn _ _ _ _ _ _ => none
  | .atomFadd _ _ _ _ _ => none
  | .redAdd _ _ _ _ _ _ => none
  | .redAnd _ _ _ _ _ _ => none
  | .redOr _ _ _ _ _ _ => none
  | .redXor _ _ _ _ _ _ => none
  | .redMin _ _ _ _ _ _ => none
  | .redMax _ _ _ _ _ _ => none
  | .redMinn _ _ _ _ _ _ => none
  | .redMaxn _ _ _ _ _ _ => none
  | .redFadd _ _ _ _ _ => none
  | .redPerform => none
  | .vaddF32 _ _ _ _ => none
  | .vsubF32 _ _ _ _ => none
  | .vmulF32 _ _ _ _ => none
  | .vfmaF32 _ _ _ _ => none
  | .vminF32 _ _ _ _ => none
  | .vmaxF32 _ _ _ _ => none
  | .vabsF32 _ _ _ => none
  | .vnegF32 _ _ _ => none
  | .vcmpEqF32 _ _ _ _ => none
  | .vcmpNeF32 _ _ _ _ => none
  | .vcmpLtF32 _ _ _ _ => none
  | .vcmpLeF32 _ _ _ _ => none
  | .vredSumF32 _ _ _ _ => none
  | .vredMaxF32 _ _ _ _ => none
  | .vredMinF32 _ _ _ _ => none
  | .vaddBf16 _ _ _ _ => none
  | .vsubBf16 _ _ _ _ => none
  | .vmulBf16 _ _ _ _ => none
  | .vfmaBf16 _ _ _ _ => none
  | .vminBf16 _ _ _ _ => none
  | .vmaxBf16 _ _ _ _ => none
  | .vabsBf16 _ _ _ => none
  | .vnegBf16 _ _ _ => none
  | .vcmpEqBf16 _ _ _ _ => none
  | .vcmpNeBf16 _ _ _ _ => none
  | .vcmpLtBf16 _ _ _ _ => none
  | .vcmpLeBf16 _ _ _ _ => none
  | .vredSumBf16 _ _ _ _ => none
  | .vredMaxBf16 _ _ _ _ => none
  | .vredMinBf16 _ _ _ _ => none
  | .vaddF16 _ _ _ _ => none
  | .vsubF16 _ _ _ _ => none
  | .vmulF16 _ _ _ _ => none
  | .vfmaF16 _ _ _ _ => none
  | .vminF16 _ _ _ _ => none
  | .vmaxF16 _ _ _ _ => none
  | .vabsF16 _ _ _ => none
  | .vnegF16 _ _ _ => none
  | .vcmpEqF16 _ _ _ _ => none
  | .vcmpNeF16 _ _ _ _ => none
  | .vcmpLtF16 _ _ _ _ => none
  | .vcmpLeF16 _ _ _ _ => none
  | .vredSumF16 _ _ _ _ => none
  | .vredMaxF16 _ _ _ _ => none
  | .vredMinF16 _ _ _ _ => none
  | .vaddI32 _ _ _ _ => none
  | .vsubI32 _ _ _ _ => none
  | .vmulI32 _ _ _ _ => none
  | .vmadI32 _ _ _ _ => none
  | .vminI32 _ _ _ _ => none
  | .vmaxI32 _ _ _ _ => none
  | .vminnI32 _ _ _ _ => none
  | .vmaxnI32 _ _ _ _ => none
  | .vcmpEqI32 _ _ _ _ => none
  | .vcmpNeI32 _ _ _ _ => none
  | .vcmpLtI32 _ _ _ _ => none
  | .vcmpLeI32 _ _ _ _ => none
  | .vcmpLtnI32 _ _ _ _ => none
  | .vcmpLenI32 _ _ _ _ => none
  | .vabsI32 _ _ _ => none
  | .vnegI32 _ _ _ => none
  | .vredSumI32 _ _ _ _ => none
  | .vredMaxI32 _ _ _ _ => none
  | .vredMinI32 _ _ _ _ => none
  | .vandI32 _ _ _ _ => none
  | .vorI32 _ _ _ _ => none
  | .vxorI32 _ _ _ _ => none
  | .vshlI32 _ _ _ _ => none
  | .vshrI32 _ _ _ _ => none
  | .vsraI32 _ _ _ _ => none
  | .vaddSatI32 _ _ _ _ => none
  | .vsubSatI32 _ _ _ _ => none
  | .vaddnSatI32 _ _ _ _ => none
  | .vsubnSatI32 _ _ _ _ => none
  | .vaddI16 _ _ _ _ => none
  | .vsubI16 _ _ _ _ => none
  | .vmulI16 _ _ _ _ => none
  | .vmadI16 _ _ _ _ => none
  | .vminI16 _ _ _ _ => none
  | .vmaxI16 _ _ _ _ => none
  | .vminnI16 _ _ _ _ => none
  | .vmaxnI16 _ _ _ _ => none
  | .vcmpEqI16 _ _ _ _ => none
  | .vcmpNeI16 _ _ _ _ => none
  | .vcmpLtI16 _ _ _ _ => none
  | .vcmpLeI16 _ _ _ _ => none
  | .vcmpLtnI16 _ _ _ _ => none
  | .vcmpLenI16 _ _ _ _ => none
  | .vabsI16 _ _ _ => none
  | .vnegI16 _ _ _ => none
  | .vredSumI16 _ _ _ _ => none
  | .vredMaxI16 _ _ _ _ => none
  | .vredMinI16 _ _ _ _ => none
  | .vandI16 _ _ _ _ => none
  | .vorI16 _ _ _ _ => none
  | .vxorI16 _ _ _ _ => none
  | .vshlI16 _ _ _ _ => none
  | .vshrI16 _ _ _ _ => none
  | .vsraI16 _ _ _ _ => none
  | .vaddSatI16 _ _ _ _ => none
  | .vsubSatI16 _ _ _ _ => none
  | .vaddnSatI16 _ _ _ _ => none
  | .vsubnSatI16 _ _ _ _ => none
  | .vaddI8 _ _ _ _ => none
  | .vsubI8 _ _ _ _ => none
  | .vmulI8 _ _ _ _ => none
  | .vmadI8 _ _ _ _ => none
  | .vminI8 _ _ _ _ => none
  | .vmaxI8 _ _ _ _ => none
  | .vminnI8 _ _ _ _ => none
  | .vmaxnI8 _ _ _ _ => none
  | .vcmpEqI8 _ _ _ _ => none
  | .vcmpNeI8 _ _ _ _ => none
  | .vcmpLtI8 _ _ _ _ => none
  | .vcmpLeI8 _ _ _ _ => none
  | .vcmpLtnI8 _ _ _ _ => none
  | .vcmpLenI8 _ _ _ _ => none
  | .vabsI8 _ _ _ => none
  | .vnegI8 _ _ _ => none
  | .vredSumI8 _ _ _ _ => none
  | .vredMaxI8 _ _ _ _ => none
  | .vredMinI8 _ _ _ _ => none
  | .vandI8 _ _ _ _ => none
  | .vorI8 _ _ _ _ => none
  | .vxorI8 _ _ _ _ => none
  | .vshlI8 _ _ _ _ => none
  | .vshrI8 _ _ _ _ => none
  | .vsraI8 _ _ _ _ => none
  | .vaddSatI8 _ _ _ _ => none
  | .vsubSatI8 _ _ _ _ => none
  | .vaddnSatI8 _ _ _ _ => none
  | .vsubnSatI8 _ _ _ _ => none
  | .vcvtF32 _ _ _ => none
  | .vcvtBf16 _ _ _ => none
  | .vcvtF16 _ _ _ => none
  | .vcvtI32 _ _ _ => none
  | .vcvtI16 _ _ _ => none
  | .vcvtI8 _ _ _ => none
  | .vcvtE4m3 _ _ _ => none
  | .vcvtE5m2 _ _ _ => none
  | .vcvtPF32 _ _ _ _ => none
  | .vcvtPBf16 _ _ _ _ => none
  | .vcvtPF16 _ _ _ _ => none
  | .vcvtPI32 _ _ _ _ => none
  | .vcvtPI16 _ _ _ _ => none
  | .vcvtPI8 _ _ _ _ => none
  | .vcvtPE4m3 _ _ _ _ => none
  | .vcvtPE5m2 _ _ _ _ => none
  | .vrot _ _ _ _ => none
  | .vbcast _ _ _ _ => none
  | .mand _ _ _ => none
  | .mor _ _ _ => none
  | .mxor _ _ _ => none
  | .mandn _ _ _ => none
  | .mnot _ _ => none
  | .mfromv _ _ => none
  | .mtov _ _ => none
  | .mpopc _ _ => none
  | .vsel _ _ _ _ => none
  | .vexp2 _ _ _ => none
  | .vlog2 _ _ _ => none
  | .vrcp _ _ _ => none
  | .vrsq _ _ _ => none
  | .vtanh _ _ _ => none
  | .vsilu _ _ _ => none
  | .vmov _ _ _ => none
  | .vget _ _ _ => none
  | .vsete _ _ _ => none
  | .vidx _ _ => none
  | .vsplatF32 _ _ _ => none
  | .vsplatBf16 _ _ _ => none
  | .vsplatF16 _ _ _ => none
  | .vsplatI32 _ _ _ => none
  | .vsplatI16 _ _ _ => none
  | .vsplatI8 _ _ _ => none
  | .vsplatE4m3 _ _ _ => none
  | .vsplatE5m2 _ _ _ => none
  | .vsplatMask _ _ _ => none
  | .vld _ _ _ => none
  | .vst _ _ _ => none
  | .vperm _ _ _ => none
  | .vatomAddI32 _ _ _ _ _ => none
  | .vatomAddF32 _ _ _ _ _ => none
  | .vatomMinI32 _ _ _ _ _ => none
  | .vatomMaxI32 _ _ _ _ _ => none
  | .vatomAnd _ _ _ _ _ => none
  | .vatomOr _ _ _ _ _ => none
  | .vatomXor _ _ _ _ _ => none
  | .vatomSwap _ _ _ _ _ => none
  | .vatomAddI32Nr _ _ _ _ _ => none
  | .vatomAddF32Nr _ _ _ _ _ => none
  | .vatomMinI32Nr _ _ _ _ _ => none
  | .vatomMaxI32Nr _ _ _ _ _ => none
  | .vatomAndNr _ _ _ _ _ => none
  | .vatomOrNr _ _ _ _ _ => none
  | .vatomXorNr _ _ _ _ _ => none
  | .vatomLaneReturn _ _ => none
  | .enq _ _ => none
  | .enqNb _ _ => none
  | .talloc _ _ => none
  | .tfree _ => none
  | .twait _ => none
  | .tset _ _ => none
  | .tget _ _ => none
  | .mfc _ _ => none
  | .mtc _ _ => none
  | .trap _ => none
  | .rett => none
  | .retry => none
  | .safept _ => none
  | .waitc _ _ => none
  | .taskExit => none
  | .valloc _ => none
  | .waitx _ => none
  | .snapopen _ _ => none
  | .snappub _ _ => none
  | .tokw _ => none
  | .toks _ => none
  | .semw _ => none
  | .sems _ => none
  | .semr _ _ => none
  | .pondSync _ => none
  | .fence _ _ => none
  | .stallClear => none
  | .safePointOverdue => none
  | .rollbackResume => none
  | .taskEnd => none
  | .registerDrowsy _ => none
  | .debuggerRead _ => none
  | .tload r c => some (r, c)
  | .tloadt r c => some (r, c)
  | .tstore r c => some (r, c)
  | .tstoret r c => some (r, c)
  | .copy r c => some (r, c)
  | .fillTile r c => some (r, c)
  | .fillMemory r c => some (r, c)
  | .gather r c => some (r, c)
  | .scatter r c => some (r, c)
  | .bind r c => some (r, c)
  | .unbind r c => some (r, c)
  | .bload r c => some (r, c)
  | .bwait r c => some (r, c)
  | .bdisc r c => some (r, c)
  | .bflush r c => some (r, c)
  | .rfetch r c => some (r, c)
  | .rsend r c => some (r, c)
  | .migrate r c => some (r, c)
  | .twback r c => some (r, c)
  | .cinv r c => some (r, c)
  | .mark r c => some (r, c)
  | .kvappend r c => some (r, c)
  | .kvgrow r c => some (r, c)
  | .kvcow r c => some (r, c)
  | .kvremap r c => some (r, c)
  | .pfxwalk r c => some (r, c)
  | .pfxins r c => some (r, c)
  | .pfxrelSequence r c => some (r, c)
  | .pfxrelList r c => some (r, c)
  | .pfxdirClaim r c => some (r, c)
  | .pfxdirShare r c => some (r, c)
  | .pfxdirDrop r c => some (r, c)
  | .attnr r c => some (r, c)
  | .attnrReply _ => none
  | .attnrTimeout => none
  | .mmul r c => some (r, c)
  | .mmul2 r c => some (r, c)
  | .attn r c => some (r, c)
  | .attnSoftmaxStart => none
  | .mxv r c => some (r, c)
  | .mzero r c => some (r, c)
  | .sinit r c => some (r, c)
  | .sfin r c => some (r, c)
  | .smerge r c => some (r, c)
  | .scopy r c => some (r, c)
  | .arrayPassEnd _ _ _ => none
  | .matrixFreeze => none
  | .matrixResume => none
  | .arrayRowRemap _ _ => none
  | .bitternCommit _ => none
  | .engineFault _ => none
  | .commandComplete _ => none
  | .heldSignalPush _ => none
  | .blockFillComplete _ => none
  | .regionFillComplete _ => none
  | .barrierPass _ => none
  | .doorbell _ _ => none
  | .kickReport _ => none
  | .queueScan => none
  | .queueIdleTimeout _ => none
  | .packetLaunch _ => none
  | .packetResume _ => none
  | .packetShootdown _ => none
  | .packetNop _ => none
  | .shootdownComplete => none
  | .batchClose _ => none
  | .dispatch => none
  | .prologueStart => none
  | .prologueOverrun _ => none
  | .launchComplete _ => none
  | .haltComplete => none
  | .partitionSwap _ => none
  | .swapExchange _ => none
  | .thermalLevelChange _ => none
  | .lockstepMismatch => none
  | .lockstepRestart => none
  | .migrationStart => none
  | .migrationSwitch => none
  | .migrationDeadlineDrop => none
  | .migrationAbandon => none
  | .ptNodeBusy => none
  | .heatSweep => none
  | .lagoonScrubVisit => none
  | .biSnoop _ _ => none
  | .addCapacity _ _ _ => none
  | .releaseCapacity _ => none
  | .capacityAccept _ => none
  | .capacityDecline _ => none
  | .confirmRevocation _ => none
  | .forcedRemoval _ => none
  | .headLinkDown _ => none
  | .headCompletionTimeout _ => none
  | .headRecover _ => none
  | .moduleUnreachable _ => none
  | .laneFailure _ => none
  | .portRetrainDone _ => none
  | .ideFailure _ => none
  | .write _ => none
  | .read _ => none
  | .data _ => none
  | .atom _ => none
  | .red _ => none
  | .result _ => none
  | .ack _ => none
  | .areq _ => none
  | .arep _ => none
  | .time _ => none
  | .ackSend _ _ => none
  | .busyResend _ _ _ => none
  | .applyRetry _ _ _ => none
  | .heldSend _ _ => none
  | .applyRefuse _ _ => none
  | .planeFailTimeout _ _ => none
  | .planeLinkDown _ => none
  | .planeRestore _ _ => none
  | .planeRetry _ => none
  | .peerUnreachable _ => none
  | .timeExchange => none
  | .syncLoss => none
  | .channelSpareSwitch _ _ => none
  | .uncorrectableError _ => none
  | .controlStateError => none
  | .rowSpareStart _ _ _ => none
  | .rowSpareSwitch _ _ _ => none
  | .telemetryWrite => none
  | .configWrite _ _ => none
  | .warmResetRequest => none
  | .maintResetRequest => none
  | .partitionForm => none
  | .partitionDissolve => none
  | .garetorReset _ => none
  | .hostBarAccess _ _ _ => none
  | .attest _ => none
  | .deploy _ => none
  | .takeOwnership _ _ => none
  | .releaseOwnership _ => none
  | .retire _ => none
  | .raiseSecurityMinimum _ _ _ => none
  | .recoveryImage _ => none
  | .coldReset => none
  | .resetPhaseEnd => none
  | .bootComplete _ => none
  | .wipeComplete => none
  | .powerOff => none
  | .outOfServiceTemperature => none
  | .moduleReenumeration _ => none
  | .spareChannelSwitchEnd _ _ => none

/-- The four doublewords of a 256-bit number, doubleword 0 the least significant. -/
def cmdOfNat (w : Nat) : Cmd :=
  { w0 := BitVec.ofNat 64 w, w1 := BitVec.ofNat 64 (w / 2 ^ 64), w2 := BitVec.ofNat 64 (w / 2 ^ 128),
    w3 := BitVec.ofNat 64 (w / 2 ^ 192) }

/-- The ring that a command read without one is taken from: the first that accepts it. -/
noncomputable def decodeCommandAnyRing (c : Cmd) : Option Instr :=
  match decodeCommand .ri c with
  | .ok i => some i
  | .error _ =>
    match decodeCommand .ro c with
    | .ok i => some i
    | .error _ =>
      match decodeCommand .mx c with
      | .ok i => some i
      | .error _ => none

/-- What the decoder reads from an instruction whose bits are `w`: a row of 32 bits is an instruction word, which is
one little-endian 32-bit unit (03 R84); a longer one is an engine command of 256 bits. -/
noncomputable def decodeTableWord (nbits w : Nat) : Option Instr :=
  if nbits ≤ 32 then
    match decodeWord (BitVec.ofNat 32 w) with
    | .ok i => some i
    | .error _ => none
  else decodeCommandAnyRing (cmdOfNat w)

end Sys2Proof
end

