-- ==== Sys2Proof/Config.lean ====
section
/-!
DEFINITION. What the spec leaves open and an implementation fixes: constants without a body, so that no proof can see
their values. A counter in the state (`tick`) makes each use of a free value a new one.
-/
namespace Sys2Proof.Config

/-- Nanoseconds of device time that pass in a step (00 R5, 08 R285): free. -/
opaque elapsedNs : Nat → BitVec 32

/-- Core cycles that pass in a step (08 R285): free. -/
opaque elapsedCycles : Nat → BitVec 32

/-- The value bits that a VLD delivers for element `e` of a grain with an uncorrectable byte (05 R169): free. -/
opaque freeElem : Nat → Nat → BitVec 32

/-- The value bits that come with poison where a peer access brings no data (14 R456, R457): free. -/
opaque freeWord : Nat → BitVec 64

/-- Which of the two allowed values a COPY delivers for byte `k` where source and destination overlap (06 R208):
true takes the value the source held when the command issued. -/
opaque copyOld : Nat → Nat → Bool

/-- The hash that chooses the home slice of an 8 KiB granule (10 R328), taken modulo the slices there are. -/
opaque homeSlice : Nat → Nat

/-- The stack of a 2 KiB granule of local HBM, modulo the eight stacks (10 R331): a fixed mapping. -/
opaque homeStack : Nat → Nat

/-- The channel of a stack that holds a 256-byte unit (10 R331): a fixed mapping. -/
opaque homeChannel : Nat → Nat → Nat

/-- The set of a second-level TLB that an entry for a page goes to: its level and its page number (10 R347): free. -/
opaque tlbSet : Nat → Nat → Nat

/-- Whether a crossbar move of a context is still under way at a step (05 R173): free. -/
opaque crossbarBusy : Nat → Bool

/-- The bank of a cluster's vault, and the row in it, that hold a line of its block-cache slice (13 R425): not stated. -/
opaque vaultRow : Nat → Nat → Nat × Nat

/-- The row of HBM that holds a line, and the bank of a row (15 R469): not stated. -/
opaque hbmRow : Nat → Nat
opaque hbmBank : Nat → Nat

/-- How far TIME is steered in a step, within the bounds of the rule (14 R459): free. -/
opaque steerNs : Nat → Nat

/-- Bytes of a cluster's vault that one of its banks holds (13 R426): not stated. -/
opaque vaultBankBytes : Nat

/-- SHA-384 (15 R466, R467): 48 bytes of a list of bytes. -/
opaque sha384 : List (BitVec 8) → List (BitVec 8)

/-- A signature verifies under a public key, of a digest (15 R466). -/
opaque ecdsaVerify : List (BitVec 8) → List (BitVec 8) → List (BitVec 8) → Bool

/-- The SHA-384 digest of the Mofort key, fused at manufacture (15 R466). -/
opaque mofortDigest : List (BitVec 8)

/-- The identity key's ECDSA signature of a digest in a life-cycle state (15 R467): 96 bytes, r then s. -/
opaque attestSign : Nat → List (BitVec 8) → List (BitVec 8)

end Sys2Proof.Config
end

