-- ==== Sys2Proof/Machine/Memory.lean ====
section
/-!
DEFINITION. Byte memories as sparse lists in one canonical form: addresses strictly rising, no listed byte equal to what
an unlisted address reads as. An unlisted byte reads as 0: the wipe zeroes HBM, vaults and scratchpads (15 R464); for the
pool and host memory that zero is the model's choice (log entry 2). Wider accesses are little-endian (00 R6).
-/
namespace Sys2Proof.Machine

/-- A memory: listed bytes by rising address. -/
abbrev Memory := List Host.Cell

/-- What an address that is not listed reads as. -/
def unlistedByte : Byte := 0

/-- The canonical form: addresses above `lo` and strictly rising, no byte equal to `unlistedByte`. -/
def Memory.wfFrom : Nat → Memory → Bool
  | _, [] => true
  | lo, (a, b) :: t => decide (lo ≤ a) && b != unlistedByte && Memory.wfFrom (a + 1) t

/-- The canonical form. -/
def Memory.wf (m : Memory) : Bool := Memory.wfFrom 0 m

/-- One byte. -/
def Memory.read : Memory → Nat → Byte
  | [], _ => unlistedByte
  | (x, b) :: t, a => if a = x then b else if a < x then unlistedByte else Memory.read t a

/-- The rest of a memory with a byte put before it, unless the byte is what an unlisted address reads as. -/
def Memory.cons (a : Nat) (b : Byte) (t : Memory) : Memory := if b = unlistedByte then t else (a, b) :: t

/-- One byte written. -/
def Memory.write : Memory → Nat → Byte → Memory
  | [], a, v => Memory.cons a v []
  | (x, b) :: t, a, v =>
    if a = x then Memory.cons a v t
    else if a < x then Memory.cons a v ((x, b) :: t)
    else (x, b) :: Memory.write t a v

/-- `n` bytes from an address, lowest address first. -/
def Memory.readBytes (m : Memory) : Nat → Nat → List Byte
  | _, 0 => []
  | a, n + 1 => m.read a :: m.readBytes (a + 1) n

/-- Bytes written from an address upward. -/
def Memory.writeBytes (m : Memory) : Nat → List Byte → Memory
  | _, [] => m
  | a, b :: t => Memory.writeBytes (m.write a b) (a + 1) t

/-- The number that bytes hold, the first the least significant (00 R6). -/
def leNat : List Byte → Nat
  | [] => 0
  | b :: t => b.toNat + 256 * leNat t

/-- The `n` low bytes of a number, the least significant first (00 R6). -/
def leBytes : Nat → Nat → List Byte
  | 0, _ => []
  | n + 1, v => BitVec.ofNat 8 v :: leBytes n (v / 256)

/-- An `n`-byte little-endian read. -/
def Memory.readLE (m : Memory) (a n : Nat) : Nat := leNat (m.readBytes a n)

/-- An `n`-byte little-endian write. -/
def Memory.writeLE (m : Memory) (a n v : Nat) : Memory := m.writeBytes a (leBytes n v)

end Sys2Proof.Machine
end

