-- ==== Sys2Proof/Machine/State.lean ====
section
/-!
DEFINITION. The state of one RN960 as plain data, its faults and refusals, and the machine right after reset.
One context, its core and its cluster are in focus, each in a field of its own; every other one is parked in a list.
INVENTORY.md, '## State', gives for each field the rule of spec/ that names it and its value at reset.
-/
namespace Sys2Proof.Machine

/-! ## The context -/

/-- Context states (01 R18). -/
inductive CtxStatus where
  | free | active | stalled | halted
  deriving DecidableEq, Repr

/-- The control registers of a context that are not views of another structure (08 R285, 01 R31, R52, 05, 07 R248). -/
structure Ctl where
  kernel : Bool        -- STATUS.MODE
  preq : Bool          -- STATUS.PREQ
  tcode : BitVec 10    -- TCAUSE.CODE
  tinfo : BitVec 22    -- TCAUSE.INFO
  tval : BitVec 64
  tpc : BitVec 62      -- TPC bits 63:2
  tvec : BitVec 54     -- TVEC bits 55:2
  lmIdx : BitVec 12    -- LIVEM.IDX
  lmVmask : BitVec 8
  lmSmask : BitVec 32
  lmValid : Bool
  kscr0 : BitVec 64
  kscr1 : BitVec 64
  tid : BitVec 24
  lid : BitVec 32
  pondid : BitVec 64
  fmode : BitVec 64
  vqfmt : BitVec 4
  vLimit : BitVec 4    -- VALLOC.LIMIT
  vCount : BitVec 4    -- VALLOC.COUNT
  vBase : BitVec 3     -- VALLOC.BASE
  vrb : BitVec 4
  xc : BitVec 5
  vdone : BitVec 64
  enqst : Bool         -- ENQST.FULL
  htbase : BitVec 49   -- HTBASE bits 55:7
  htlim : BitVec 11
  lmtbase : BitVec 53  -- LMTBASE bits 55:3
  lmtlim : BitVec 13
  fwdOld : BitVec 56
  fwdNew : BitVec 56
  fwdAct : Bool
  fwdOff : BitVec 48
  fwdSpan : Nat        -- bytes of the old slab, and of it in use, while FWDCUR.ACT = 1 (07 R246, R247)
  fwdUsed : Nat
  deriving DecidableEq, Repr

/-- One open loop level (04 R122): `rlog` and `nst` are those of a LOOP.S. -/
structure Level where
  isS : Bool
  start : Word
  stop : Word
  count : Word
  epi : Nat
  iter : Word
  rlog : Nat
  nst : Nat
  deriving DecidableEq, Repr

/-- An operation on memory that an atomic or RED makes (03 R95). -/
inductive AtomOp where
  | swap | cas | add | and | or | xor | min | max | minn | maxn | fadd
  deriving DecidableEq, Repr

/-- A store, a RED, or a lane of a non-returning VATOM, that has retired and not yet performed (04 R128, R144, 05 R182,
09 R298): where it goes in memory, what it does (`op` is absent for a store), how many commands were enqueued before it,
whether it is a release, its place among the accesses that the context has posted, and the address that an error entry
reports. -/
structure Posted where
  pa : Nat
  leaf : BitVec 64
  va : Word
  size : Nat
  op : Option AtomOp
  data : Word
  poison : Bool
  cls : BitVec 4
  scope : BitVec 3
  vlane : Bool
  rel : Bool
  before : Nat
  seq : Nat
  deriving DecidableEq, Repr

/-- What an entry of the iteration store buffer, or a held TOKS, SEMS or FENCE, does at the commit (04 R128, 08 R268, R279).
`before` is the number of commands enqueued before it, and `posts` that of the accesses posted or held before it; `seq`
is the command's own place. -/
inductive Held where
  | post (p : Posted)
  | roCommand (seq : Nat)
  | toks (sel : BitVec 6) (before posts : Nat)
  | sems (sel : BitVec 6) (word : InstrWord) (before posts : Nat)
  | fence (mask : BitVec 16) (scope : BitVec 3) (before : Nat)
  | overflow (sel : BitVec 6) (word : InstrWord)
  deriving DecidableEq, Repr

/-- A wait that has been taken and that a rollback or a disabled ring gives back (13 R413, 01 R41). -/
inductive Take where
  | fifo (k : Nat)
  | sem (k : Nat)
  | psem (k : Nat)
  deriving DecidableEq, Repr

/-- Tile states (01 R35). -/
inductive TileState where
  | empty | filling | ready | draining
  deriving DecidableEq, Repr

/-- A tile-table entry (01 R33). -/
structure Tile where
  gen : BitVec 16
  group : BitVec 3
  base : BitVec 13
  pitch : BitVec 12
  rows : BitVec 10
  fmt : BitVec 4
  owner : BitVec 2
  state : TileState
  rmap : Bool
  valid : Bool
  width : BitVec 13
  modlog : BitVec 4
  origin : BitVec 10
  rdcnt : BitVec 6
  rva : BitVec 56
  rstride : BitVec 32
  touched : Bool
  dirty : Bool
  deriving DecidableEq, Repr

/-- Power states of a vector register (01 R27). -/
inductive Power where
  | gated | active | drowsy
  deriving DecidableEq, Repr

/-- A physical vector register: 1,024 elements by element index, the format tag and the power state (01 R24, R26, R27). -/
structure VReg where
  data : List Elem
  tag : BitVec 4
  power : Power
  deriving DecidableEq, Repr

/-- One slot of the undo journal (13 R411): a non-rotating vector register as it was before the iteration's first
write to it, or the tile rows that a VST overwrites with the tile's STATE and GEN. Rows are kept as their bytes and
the scratchpad address of each. -/
inductive Undo where
  | vreg (phys : Nat) (data : List Elem) (tag : BitVec 4)
  | vst (tile : Nat) (rows : List (Nat × List Byte)) (ue : List Nat) (state : TileState) (gen : BitVec 16)
  deriving DecidableEq, Repr

/-- The checkpoint of the last iteration commit (13 R411). -/
structure Checkpoint where
  regs : Vector Word 32
  pois : BitVec 32
  masks : Vector (BitVec 1024) 8
  sg : BitVec 16
  vrb : BitVec 4
  levels : List Level
  fmode : BitVec 64
  vqfmt : BitVec 4
  enqst : Bool
  riW : BitVec 16
  roW : BitVec 16
  mxW : BitVec 16
  lastLoad : List (Nat × Word) -- which of the registers a load of a poisoned line wrote last (13 R410)
  deriving DecidableEq, Repr

/-- The loop unit and the rollback shadow (04 R122, R128; 13 R411 to R415). -/
structure LoopUnit where
  levels : List Level         -- innermost first
  held : List Held            -- in program order
  heldRo : Nat                -- RO commands among them (04 R128)
  ckpt : Option Checkpoint
  journal : List Undo         -- newest first
  unrecoverable : Bool        -- a ninth slot was needed (13 R415)
  retried : Bool              -- the iteration has been retried for poison (13 R414)
  rolling : Bool              -- a rollback waits at its step 3 (13 R414)
  killing : Bool              -- the rollback is the discard of a kill (13 R410)
  taken : List Take           -- pops and decrements of the uncommitted iteration (13 R413)
  release : List Held         -- the rest of a commit still to be carried out (08 R268)
  deriving DecidableEq, Repr

/-- An engine fault recorded for a ring and not yet delivered to its fault registers (06 R196). -/
structure EngFault where
  cause : BitVec 10
  info : BitVec 22
  va : BitVec 56
  cursor : List (BitVec 32)   -- coordinates of dimensions 0 to 7
  deriving DecidableEq, Repr

/-- One ring of a context: its ring register, its fault registers and what its engine has begun (01 R39, 06 R191, R197). -/
structure RingSt where
  en : Bool
  log : BitVec 4
  base : BitVec 15
  wptr : BitVec 16
  rptr : BitVec 16
  fsIdx : BitVec 16
  fsCause : BitVec 10
  fsInfo : BitVec 22
  pend : Bool
  halt : Bool
  fa : BitVec 56
  fc : List (BitVec 32)       -- cursor coordinates 0 to 7, in the four cursor registers
  popped : Option Take        -- the head has passed step 2 of 06 R191 with this take
  headPast2 : Bool            -- the head has passed step 2
  faulting : Option EngFault
  deferred : List (Nat × EngFault) -- faults of commands, by place, that wait until the ring's present one is resolved (06 R196)
  deriving DecidableEq, Repr

/-- How far a command has come (06 R191, R192): in its ring; issued and working; its memory effects made and its tiles
waiting for their last step; its signal held by a full FIFO; halted on a fault; halted at its signal; at its fault point in a ring
that another fault has halted. -/
inductive CmdStage where
  | queued | issued | moved | signalling | halted | signalFault | deferred
  deriving DecidableEq, Repr

/-- A page of a bound handle's page list (06 R203): its virtual address, its level and its leaf. -/
structure BoundPage where
  va : Nat
  level : Nat
  leaf : BitVec 64
  deriving DecidableEq, Repr

/-- A bound handle (06 R202): the 128 bytes read, and the page list of an HBM tensor; a page that is not listed is
translated at its next use (10 R349, 13 R419). -/
structure Binding where
  handle : Nat
  image : List Byte
  pages : List BoundPage
  deriving DecidableEq, Repr

/-- What an engine keeps of a command between its steps: the tiles it holds as target and as operand, the pass or
element it has reached, words and element images it carries on, and the answers of the steps that a KV or prefix command
has made since its last restart point (07 R240), each with whether it changed anything. -/
structure CmdWork where
  targets : List (Nat × TileState)   -- tile and the state it held before the command issued
  readers : List Nat
  progress : Nat
  words : List Word
  elems : List (BitVec 32)
  log : List (Bool × List Nat)
  binds : List Binding        -- the bindings it issued with (06 R202)
  deriving DecidableEq, Repr

/-- An engine command that has been enqueued and has not completed (06 R191 to R194). -/
structure CmdRec where
  ring : Ring
  count : BitVec 16           -- the ring's write count at the ENQ: the RPTR value at which it is the head
  cmd : Cmd
  kernel : Bool               -- the mode of its ENQ (10 R343)
  uncommitted : Bool          -- enqueued by the iteration not yet committed (13 R412)
  dropSignal : Bool           -- its iteration was discarded (13 R414)
  seq : Nat                   -- place in the context's program order (06 R194)
  stage : CmdStage
  work : CmdWork
  deriving DecidableEq, Repr

/-- A VATOM in flight (05 R182): lanes still out, with the element each returns to. -/
structure VatomLane where
  lane : Nat
  pa : Nat
  leaf : BitVec 64
  va : Word
  data : BitVec 32
  tag : Option (BitVec 16)    -- the request to the peer that holds its word
  deriving DecidableEq, Repr

/-- A returning VATOM whose lanes come back one by one (05 R182, R183). -/
structure VatomSt where
  op : AtomOp
  dst : BitVec 5              -- vd
  cls : BitVec 4
  scope : BitVec 3
  poisoned : Bool             -- the operand register was POISON
  out : List VatomLane        -- lanes not returned, in lane order
  refused : Option (Nat × Word) -- the lowest lane not applied, with its address
  deriving DecidableEq, Repr

/-- How a task is ending (08 R273, 13 R410). -/
inductive Ending where
  | exit
  | waitc (rec : Word) (k : Nat)
  | killed (status : BitVec 8) (cause : BitVec 10) (info : BitVec 22) (addr : Word)
  deriving DecidableEq, Repr

/-- The launch, member and group a resident task belongs to (12 R393, R404), or the prologue a worker runs (12 R396). -/
structure Job where
  launch : Nat                -- the sluice's key of the launch
  mem : Nat                   -- member of the batch
  group : Nat                 -- pond-1 group of the launch
  prologue : Bool
  issued : Nat                -- instructions issued, for a prologue (12 R398)
  deriving DecidableEq, Repr

/-- A request of the stream or of an engine that a peer has to answer (14 R448), by its tag. -/
structure PeerWait where
  tag : BitVec 16
  dst : Nat
  kind : Nat                  -- 0 READ, 1 returning ATOM, 2 ATTNR, 3 acknowledged write
  cls : BitVec 4
  key : Nat                   -- physical address asked for
  va : Word                   -- of a write or RED: the address that an error entry reports; of a ring's READ: its bytes
  seq : Nat                   -- of a write or RED that was posted: its place, from 1; 0 for every other request
  data : Option (List Byte)
  status : BitVec 3
  deriving DecidableEq, Repr

/-- A walk that waits at a migrating page-table node (10 R343): of the stream, or of a ring's command. -/
structure BusyWait where
  ring : Option Ring
  lane : Option Nat           -- of the stream: the lane of a VATOM (05 R186)
  va : Word
  kind : Nat
  kernel : Bool
  cmd : Nat                   -- of a command: its place, and the faulting element's address and cursor, should the wait fail
  fa : BitVec 56
  cursor : List (BitVec 32)
  deriving DecidableEq, Repr

/-- A hardware context (01 R16). -/
structure Ctx where
  status : CtxStatus
  pc : Word
  regs : Vector Word 32
  pois : BitVec 32            -- bit n: poison bit of register n
  masks : Vector (BitVec 1024) 8
  sg : BitVec 16              -- physical stage predicates
  ctl : Ctl
  loop : LoopUnit
  ri : RingSt
  ro : RingSt
  mx : RingSt
  cmds : List CmdRec          -- in program order
  cmdSeq : Nat                -- commands enqueued so far
  fifos : Vector Nat 10       -- FIFO of selector k + 1
  binds : List Binding
  vatom : Option VatomSt
  posted : List Posted        -- in program order
  postSeq : Nat               -- accesses posted or held so far
  peer : List PeerWait
  busy : Option BusyWait
  lastLoad : List (Nat × Word) -- scalar registers last written by a load of a poisoned line, with its address (13 R410)
  sinceSafe : Nat
  barrierCount : Vector Nat 3
  atBarrier : Option Nat
  ending : Option Ending
  asid : BitVec 16
  root : Nat
  job : Option Job
  inPlaceHalt : Bool          -- halted in place for shedding (12 R405)
  haltIdx : Option (BitVec 12) -- halted at a SAFEPT that names this live-mask entry (08 R276)
  snapWait : Option (Word × Nat) -- a SNAPOPEN that stalls: its PC, and the scrub passes begun by then (10 R337)
  deriving DecidableEq, Repr

/-! ## The core -/

/-- A bittern record (13 R423): the counts and the spare row. -/
structure Bittern where
  rowCnt : List (BitVec 16)   -- 65
  laneCnt : List (BitVec 16)  -- 64
  subCnt : List (BitVec 16)   -- 16
  spare : BitVec 8
  thr : BitVec 8
  deriving DecidableEq, Repr

/-- One array of a matrix engine: its pass count (06 R230) and its bittern counts (13 R423). -/
structure ArraySt where
  passes : Nat
  bittern : Bittern
  deriving DecidableEq, Repr

/-- A row being copied to a spare row (13 R425). -/
structure Sparing where
  bank : Nat
  row : Nat
  vault : Bool
  deriving DecidableEq, Repr

/-- A leaf translation in a TLB of either level (10 R345 to R347). -/
structure TlbEntry where
  asid : BitVec 16
  level : Nat
  vpage : Nat                 -- virtual address above the page offset
  leaf : BitVec 64
  leafPa : Nat                -- where the entry lies, for write heat
  wheat : Bool                -- write heat has been given
  deriving DecidableEq, Repr

/-- A core (01 R16). The four last fields say who was served last: the context that last issued to the scalar and to the
vector pipe (01 R17), and the rings that the rake and the matrix engine served last (01 R42), counted over the contexts,
RI before RO. -/
structure CoreSt where
  spad : Memory
  ue : List Nat               -- bytes marked uncorrectable (06 R207), rising
  tiles : Vector Tile 256
  vregs : Vector VReg 32
  sems : Vector (BitVec 16) 32
  score : ArraySt
  value : ArraySt
  frozen : Bool               -- 06 R229
  copying : List Sparing
  sparesUsed : List (Nat × Nat) -- scratchpad bank and spare rows used
  corrected : List (Nat × Nat) -- bank and row of scratchpad rows that have shown one corrected error (13 R425)
  retire : Bool               -- to be retired at the next partition formation (13 R427)
  tlb : List TlbEntry         -- first-level TLB, at most 128 entries, newest first (10 R347)
  lastScalar : Nat
  lastVector : Nat
  lastRake : Nat
  lastMx : Nat
  deriving DecidableEq, Repr

/-! ## The cluster -/

/-- A non-leaf entry in a cluster's walk cache (10 R345): the node that the walk of the addresses `prefix` enters below
`level`. -/
structure WalkEntry where
  asid : BitVec 16
  level : Nat
  vprefix : Nat               -- virtual address above what the node maps
  node : Nat
  deriving DecidableEq, Repr

/-- What a partition swap exchanges with a cellar (13 R422). -/
structure ClusterImage where
  cores : List CoreSt
  ctxs : List Ctx
  psems : Vector (BitVec 16) 16
  deriving DecidableEq, Repr

/-- A cluster (10 R326, R347; 01 R46). -/
structure ClusterSt where
  psems : Vector (BitVec 16) 16
  tlb : List TlbEntry         -- second-level TLB, at most 4,096 entries in sets of eight, newest first
  walks : List WalkEntry      -- walk cache, at most 256 entries, newest first
  part : Option Nat           -- the formed partition it belongs to
  vdsize : Nat                -- direct part in 4 MiB, as formed
  retired : Nat               -- cores retired so far
  lost : List Nat             -- active core numbers left unused (13 R427)
  spared : Option Nat         -- the number that the spare core has taken (13 R427)
  sliceLoss : Nat             -- bytes of the slice given up for worn-out vault banks, as formed (13 R426)
  vaultSpares : List (Nat × Nat) -- vault bank and spare rows used (13 R425)
  vaultCopying : List Sparing
  vaultCorrected : List (Nat × Nat) -- vault bank and row that have shown one corrected error (13 R425)
  cellar : Option ClusterImage
  deriving DecidableEq, Repr

/-! ## The device -/

/-- A line of the block cache (10 R328, R329; 14 R439): its 128 bytes, lowest address first. -/
structure CLine where
  pa : Nat
  data : List Byte
  dirty : Bool
  poison : Bool
  excl : Bool                 -- held E or M; otherwise S
  mode : BitVec 2             -- PMODE of the leaf it was filled through: 0 BI (and HBM), 1 RR, 2 SF
  stale : Bool                -- dirty when the open version of its region rose: it stays only until it is written back (08 R281)
  deriving DecidableEq, Repr

/-- A block: the tag of one or more lines, with its completion flag (10 R329, 06 R211). A declared block has the
address, the address space and the line count of its BLOAD; a block that a miss made has a line count of 0. -/
structure Block where
  slice : Nat                 -- the cluster whose slice is the home of its lines (10 R328)
  va : Nat
  nl : Nat
  asid : BitVec 16
  lines : List Nat            -- physical line addresses
  done : Bool
  deriving DecidableEq, Repr

/-- A line in the scalar data cache of a core (00 R1, 10 R330), which its home slice records: never dirty. -/
structure DLine where
  core : Nat
  pa : Nat
  data : List Byte
  poison : Bool
  deriving DecidableEq, Repr

/-- A lagoon frame's tag (10 R336). A frame that is not listed has VAL = 0. -/
structure Frame where
  idx : Nat
  dirty : Bool
  stamp : BitVec 4
  tag : BitVec 10
  deriving DecidableEq, Repr

/-- A pool region entry (14 R437). -/
structure Region where
  dw0 : BitVec 64
  dw1 : BitVec 64
  dw2 : BitVec 64
  dw3 : BitVec 64
  deriving DecidableEq, Repr

/-- The configuration window (15 R461). -/
structure Cfg where
  qtbase : BitVec 64
  bhbase : BitVec 64
  savebase : BitVec 64
  savesize : BitVec 64
  evq : BitVec 64
  evqridx : BitVec 64
  telbase : BitVec 64
  lgsizeSweep : BitVec 64
  psched : Vector (BitVec 64) 10
  clucfg : Vector (BitVec 64) 10
  regions : Vector Region 64
  mailbox : Memory
  deriving DecidableEq, Repr

/-- DEVSTAT.STATE (15 R462). -/
inductive DevState where
  | reset | boot | wipe | ready | recovery | outOfService
  deriving DecidableEq, Repr

/-- The kinds of reset (15 R463). -/
inductive ResetKind where
  | cold | warm | maint
  deriving DecidableEq, Repr

/-- Queue states (12 R383). -/
inductive QState where
  | disabled | idle | bound | broken
  deriving DecidableEq, Repr

/-- What the sluice holds of one queue (12 R379 to R383): its state, the next slot to parse, and the parsed slots that
RIDX has not passed because a prologue holds an earlier one (12 R397). -/
structure Queue where
  q : Nat
  state : QState
  next : BitVec 64
  held : List (BitVec 64)
  done : List (BitVec 64)
  deriving DecidableEq, Repr

/-- The fields of a parsed packet (12 R384). -/
structure Packet where
  estim : Nat
  vgrp : Nat
  gm1 : Nat
  xcore : Bool
  cmpi : Bool
  bat : Bool
  pro : Bool
  scls : Nat
  deadline : BitVec 64
  bkey : BitVec 32
  n : BitVec 32
  kdva : BitVec 56
  argva : BitVec 56
  crva : BitVec 56
  wcva : BitVec 56
  propc : BitVec 56
  proarg : BitVec 64
  bufs : List (BitVec 16)
  p3key : BitVec 32
  p3mask : BitVec 16
  deriving DecidableEq, Repr

/-- A kernel descriptor as read at parse (12 R386). -/
structure KernelDesc where
  entry : BitVec 56
  tvec : BitVec 56
  htbase : BitVec 56
  htlim : BitVec 11
  lmtbase : BitVec 56
  lmtlim : BitVec 13
  deriving DecidableEq, Repr

/-- The first failure and the error entries of a launch, as its completion record reports them (12 R387, R388). -/
structure Outcomes where
  status : BitVec 8           -- 0: no failure recorded
  cause : BitVec 10
  info : BitVec 22
  taddr : BitVec 64
  nerr : BitVec 32
  ekind : BitVec 8
  eva : BitVec 56
  etid : BitVec 24
  deriving DecidableEq, Repr

/-- A member of a launch; a launch that is no batch has one (12 R404). -/
structure Member where
  lid : BitVec 32
  q : Nat
  slot : BitVec 64
  msiv : BitVec 12
  pkt : Packet
  kd : KernelDesc
  nop : Bool
  deps : List Nat             -- identifiers of the launches it depends on (12 R400)
  inDep : List Nat            -- handles through which it has a dependence (12 R401)
  ended : Nat                 -- tasks ended
  start : Option (BitVec 64)
  out : Outcomes
  completed : Bool
  deriving DecidableEq, Repr

/-- Where a launch stands (12 R390 to R404). -/
inductive Phase where
  | window (w : Nat) | waiting | heap | prologue | running
  deriving DecidableEq, Repr

/-- A LAUNCH, NOP or batch from its parse to its completion (12 R390, R402). -/
structure Launch where
  key : Nat
  members : List Member
  phase : Phase
  order : Nat                 -- parse order
  stamp : Nat                 -- order of its last arrival at the heap (12 R390)
  part : Nat
  asid : BitVec 16
  root : Nat
  deadline : BitVec 64
  scls : Nat
  estim : Nat
  used : Nat                  -- core-nanoseconds in quarters (12 R392)
  nextGroup : Nat             -- groups started so far
  notBefore : BitVec 64       -- REPEAT (12 R397)
  proDone : Bool
  opened : BitVec 64          -- parse time of the opener of its window
  preempted : Bool
  zeroed : List Nat           -- cores whose semaphores it has zeroed at its first task there (01 R46)
  p3 : Nat                    -- level-3 barriers that the other devices' members have passed (08 R270)
  shun : Option Nat           -- the worker that has abandoned its prologue (13 R429)
  deriving DecidableEq, Repr

/-- A continuation from its WAITC to its start (08 R273 to R275): the record, the launch, member and pond-1 group it
belongs to, the barriers its task has arrived at, and whether it has been handed over for enqueue. -/
structure Cont where
  record : Word
  launch : Nat
  mem : Nat
  group : Nat
  barrierCount : Vector Nat 3
  order : Nat
  handed : Bool
  inHeap : Bool
  deriving DecidableEq, Repr

/-- A pre-empted context in a save block (13 R419, R420). -/
structure Saved where
  ctx : Ctx
  core : Nat
  tiles : List (Nat × Tile)
  bytes : List (Nat × Byte)
  ue : List Nat
  vregs : List VReg
  sems : Option (Vector (BitVec 16) 32)  -- XCORE (12 R394)
  pond : Option Nat           -- level of the barrier it left at (08 R271)
  save : Nat                  -- the save that it belongs to: what was saved together comes back together (12 R394, 13 R418)
  deriving DecidableEq, Repr

/-- What the sluice keeps of a buffer handle (12 R399, R400). -/
structure HandleUse where
  bh : Nat
  writer : Option Nat
  readers : List Nat
  deriving DecidableEq, Repr

/-- A shoot-down in progress (10 R348, R349). -/
structure Shootdown where
  q : Nat
  lid : BitVec 32
  cmpi : Bool
  msiv : BitVec 12
  qasid : BitVec 16
  root : Nat
  crva : BitVec 56
  deadline : BitVec 64
  asid : BitVec 16
  va : BitVec 64
  npg : BitVec 64
  psz : Nat
  all : Bool
  deriving DecidableEq, Repr

/-- Steps that the machine itself brings about: what an earlier step left to do. Each is the row of the same name. -/
inductive Ev where
  | redPerform
  | vatomLane (lane : Nat) (applied : Bool)
  | stallClear
  | rollbackResume
  | taskEnd
  | engineFault (r : Ring)
  | commandComplete (r : Ring)
  | heldSignalPush (r : Ring)
  | arrayPassEnd (arr : Bool) (o : Gauge) (cols : List Nat)
  | attnSoftmaxStart
  | arrayRowRemap (arr : Bool) (row : Nat)
  | bitternCommit (arr : Bool)
  | attnrReply (r : AttnReply)
  | attnrTimeout
  | blockFill (va : Nat)
  | regionFill (tile : Nat)
  | barrierPass (level : Nat)
  | haltComplete
  | queueScan
  | kickReport (q : Nat)
  | packetLaunch (q : Nat)
  | packetResume (q : Nat)
  | packetShootdown (q : Nat)
  | packetNop (q : Nat)
  | batchClose (w : Nat)
  | dispatch
  | prologueStart
  | launchComplete (lid : BitVec 32)
  | shootdownComplete
  | swapExchange (part : Nat)
  deriving DecidableEq, Repr

/-- The sluice (12). -/
structure Sluice where
  queues : List Queue         -- those not DISABLED with nothing held
  bindList : List Nat
  launches : List Launch
  conts : List Cont
  saved : List Saved
  handles : List HandleUse
  shootdowns : List Shootdown
  lidNext : BitVec 32
  keyNext : Nat
  orderNext : Nat
  windowNext : Nat
  therm : Nat                 -- thermal level acted on (12 R405)
  stopped : Bool              -- lock-step restart (13 R429)
  mismatches : List (BitVec 64)
  outOfService : Bool         -- 13 R430
  waiting : List Ev           -- steps of its workers that wait: for a migrating page or node (10 R343, R351), for the restart (13 R429)
  busyOver : Bool             -- their wait at a migrating node has run its 50 µs (10 R343)
  peer : List PeerWait        -- what it has asked of peers: kind 0 READ, with the bytes asked for in `va`; 1 (RESUME) and 2 (completion) returning ATOM, with the value compared
  deriving DecidableEq, Repr

/-- Extent states (14 R443); an extent in state NONE is not listed. -/
inductive ExtState where
  | offered | online | releasing
  deriving DecidableEq, Repr

/-- A dynamic-capacity extent (14 R443). -/
structure Extent where
  start : Nat
  len : Nat
  state : ExtState
  deriving DecidableEq, Repr

/-- A fabric port (14 R432 to R434). -/
structure Port where
  up : Bool
  retraining : Bool
  spares : Nat                -- lane failures met since boot
  x4 : Bool
  deriving DecidableEq, Repr

/-- A pool module as its two heads reach it (14 R435, R445, R447). -/
structure Module where
  extents : List Extent
  headA : Bool                -- the head is in use
  headB : Bool
  unreachable : Bool
  deriving DecidableEq, Repr

/-- The source side of a lane (14 R448, R451). -/
structure TxLane where
  next : BitVec 16
  sent : List GPacket         -- the retry buffer, oldest first
  wait : List GPacket         -- held back: window, buffer or overlap (14 R448, R451)
  deriving DecidableEq, Repr

/-- The destination side of a lane (14 R452, R453, R457). -/
structure RxLane where
  expect : BitVec 16
  buffer : List GPacket
  results : List (BitVec 16 × List Byte × BitVec 3)  -- result cache, newest first
  retrying : Option GPacket   -- at the head of the lane, not applied yet (14 R457)
  unacked : Nat
  planeB : Bool               -- the plane the source's last packet came on (14 R454)
  parts : List (BitVec 16 × List Byte) -- what has come of an AREQ or AREP whose last part is still to come, by tag
  deriving DecidableEq, Repr

/-- The Garetor state towards one device (14 R448 to R458). -/
structure Peer where
  tx : Vector TxLane 4
  rx : Vector RxLane 4
  failA : Bool
  failB : Bool
  unreachable : Bool
  deriving DecidableEq, Repr

/-- A migration request (10 R351, 06 R214). -/
structure MigReq where
  asid : BitVec 16
  root : Nat
  va : Nat
  tres : Nat
  deadline : BitVec 64
  active : Option (Nat × Nat × Nat) -- leaf address, old frame, new frame
  deriving DecidableEq, Repr

/-- The migration unit with its frame rings (10 R351). -/
structure Migration where
  reqs : List MigReq
  freeHbm : List Nat
  freeVault : List Nat
  freePool : List Nat
  returned : List Nat
  deriving DecidableEq, Repr

/-- Telemetry counters (15 R472). -/
structure Telemetry where
  migDropped : BitVec 64
  migAbandoned : BitVec 64
  discardA : BitVec 64
  discardB : BitVec 64
  replayA : BitVec 64
  replayB : BitVec 64
  lostEvents : BitVec 64
  ideRetries : Vector (BitVec 64) 12
  deriving DecidableEq, Repr

/-- Life-cycle states (15 R468). -/
inductive Life where
  | manufacture | deployed | owned | retired
  deriving DecidableEq, Repr

/-- Bizil: what survives a reset, and what it has loaded (13 R423, 15 R466 to R469). -/
structure Bizil where
  life : Life
  pendingLife : Option Life   -- takes effect through the warm reset under way
  ownerDigest : Option (List Byte)
  minimum : Vector (BitVec 16) 4
  loaded : List StageImage
  records : List (Nat × Bool × Bittern)  -- core as built (`hwCore`), value array, committed record
  repairLog : List Nat        -- addresses of the poisoned HBM lines, and of errors in rows, that firmware has logged
  burned : List Nat           -- HBM rows with a post-package repair (15 R469)
  mofortDigest : List Byte    -- fused at manufacture (15 R466)
  testFused : Bool            -- the test interfaces have been fused off (15 R468)
  secret : Bool               -- the device secret has not been destroyed (15 R468)
  hostImage : Option (List StageImage)   -- supplied through the mailbox (15 R466)
  report : Option (List Byte)            -- the last attestation report
  deriving DecidableEq, Repr

/-- The lagoon scrubber (10 R337). -/
structure Scrubber where
  base : BitVec 4             -- starting epoch of the last completed pass
  pass : BitVec 4             -- starting epoch of the pass under way
  visited : Nat               -- frames visited in it
  passes : Nat                -- passes begun so far
  deriving DecidableEq, Repr

/-- An ATTNR that this device serves as the holder (07 R257): who asked, its reads of other devices, and once the partial
has been computed the reply and the passes that are left before it is given, of the score array and of the value array. -/
structure Serve where
  src : Nat
  lane : Nat
  cls : BitVec 4
  tag : BitVec 16
  payload : List Byte
  peer : List PeerWait
  reply : Option AttnReply
  passes : List Bool
  deriving DecidableEq, Repr

/-- The device: everything the cores share. -/
structure Device where
  num : BitVec 4
  time : BitVec 64
  cycle : BitVec 64
  timeSet : Bool              -- the single step of TIME has been made (14 R459)
  steer : Int                 -- what TIME is still to gain on its own rate, or to lose, to meet the last estimate (14 R459)
  follows : Bool              -- a lower-numbered device has led an exchange since the last loss of synchronisation (14 R459)
  mem : Memory
  poison : List Nat           -- poisoned 128-byte lines, by line address, rising
  unlogged : List Nat         -- HBM lines that have become poisoned and that firmware has yet to log (13 R407)
  hbmCorrected : List Nat     -- HBM rows that have shown one corrected error (15 R469)
  bootEvents : List (Nat × Nat × Nat) -- what a boot has to report once the host has given an event queue: kind, number, address
  lost : List Nat             -- write-backs dropped because their pool memory is gone, with no error entry yet (14 R444)
  lines : List CLine          -- block-cache lines
  blocks : List Block         -- most recently used first
  dcache : List DLine         -- the scalar data caches, most recently used first (10 R330)
  lagoon : List Frame
  epoch : BitVec 4
  scrub : Scrubber
  openVer : List (Nat × BitVec 64)
  cfg : Cfg
  state : DevState
  resetKind : ResetKind
  booterr : BitVec 8
  therm : BitVec 2
  celsius : Int               -- the last reading of the hottest die sensor, °C (15 R470)
  syncloss : Bool
  cfgerr : Bool
  powered : Bool
  formed : Bool
  sluice : Sluice
  modules : Vector Module 4
  ports : Vector Port 12
  peers : Vector Peer 16
  accessMap : Vector (BitVec 32) 16
  outbox : List GPacket       -- handed to the fabric
  tagNext : BitVec 16
  serves : List Serve         -- oldest first
  switching : List (Nat × Nat) -- stack and channel being switched (10 R334)
  mig : Migration
  tel : Telemetry
  evIdx : BitVec 64
  irqs : List (BitVec 12)     -- interrupts raised to the host
  bizil : Bizil
  swaps : List Nat            -- partitions whose swap waits for its halts (13 R422)
  deriving DecidableEq, Repr

/-! ## The machine -/

/-- What runs next: the stream of a place, the engine that serves a ring of a place, a step the machine left to do, or
a step brought from outside. A place is a context: context c of core k is place 4k + c; worker w is place 640 + 4w. -/
inductive Turn where
  | stream (p : Nat)
  | engine (p : Nat) (r : Ring)
  | own (p : Nat) (e : Ev)
  | input (p : Nat) (i : Instr)
  deriving DecidableEq, Repr

/-- The machine. `ctx`, `core` and `clu` are those of the place `here`; the lists hold every other one, with vacant
images at the places in focus. `turns` is the agenda, `ir` the word in issue, `tick` the counter of free values. -/
structure State where
  here : Nat
  ctx : Ctx
  core : CoreSt
  clu : ClusterSt
  ctxs : List Ctx
  cores : List CoreSt
  clus : List ClusterSt
  dev : Device
  turns : List Turn
  ir : InstrWord
  tick : Nat
  deriving DecidableEq, Repr

/-! ## Stops -/

/-- Why the machine stops. -/
inductive Fault where
  /-- A device without power runs nothing (15 R470). Raised by `step` alone. Safe: the spec gives no later step but
  power-up, which is the row COLD_RESET. -/
  | poweredOff
  deriving DecidableEq, Repr

/-- What the model refuses. -/
inductive Refusal where
  /-- An instruction that has no meaning yet. Raised by an arm of `exec` alone. Safe: nothing is claimed of it. -/
  | notModelled (mnemonic : String)
  deriving DecidableEq, Repr

/-! ## Reset -/

/-- No commands, no faults, EN = 0 (01 R39, 06 R197). -/
def RingSt.idle : RingSt :=
  { en := false, log := 0, base := 0, wptr := 0, rptr := 0, fsIdx := 0, fsCause := 0, fsInfo := 0, pend := false,
    halt := false, fa := 0, fc := List.replicate 8 0, popped := none, headPast2 := false, faulting := none, deferred := [] }

/-- The loop unit with no level open (04 R123). -/
def LoopUnit.closed : LoopUnit :=
  { levels := [], held := [], heldRo := 0, ckpt := none, journal := [], unrecoverable := false, retried := false,
    rolling := false, killing := false, taken := [], release := [] }

/-- Control registers after reset (08 R285, 01 R31): the registers a launch supplies are 0 by log entry 1. -/
def Ctl.zero : Ctl :=
  { kernel := false, preq := false, tcode := 0, tinfo := 0, tval := 0, tpc := 0, tvec := 0, lmIdx := 0, lmVmask := 0,
    lmSmask := 0, lmValid := false, kscr0 := 0, kscr1 := 0, tid := 0, lid := 0, pondid := 0, fmode := 0, vqfmt := 0,
    vLimit := 0, vCount := 0, vBase := 0, vrb := 0, xc := 0, vdone := 0, enqst := false, htbase := 0, htlim := 0,
    lmtbase := 0, lmtlim := 0, fwdOld := 0, fwdNew := 0, fwdAct := false, fwdOff := 0,
    fwdSpan := 0, fwdUsed := 0 }

/-- A FREE context (01 R18, R53; 15 R464). -/
def Ctx.vacant : Ctx :=
  { status := .free, pc := 0, regs := Vector.replicate 32 0, pois := 0, masks := Vector.replicate 8 0, sg := 0,
    ctl := Ctl.zero, loop := LoopUnit.closed, ri := RingSt.idle, ro := RingSt.idle, mx := RingSt.idle, cmds := [],
    cmdSeq := 0, fifos := Vector.replicate 10 0, binds := [], vatom := none, posted := [], postSeq := 0, peer := [], busy := none, lastLoad := [],
    sinceSafe := 0, barrierCount := Vector.replicate 3 0, atBarrier := none, ending := none, asid := 0, root := 0,
    job := none, inPlaceHalt := false, haltIdx := none, snapWait := none }

/-- An invalid tile-table entry (01 R33). -/
def Tile.invalid : Tile :=
  { gen := 0, group := 0, base := 0, pitch := 0, rows := 0, fmt := 0, owner := 0, state := .empty, rmap := false,
    valid := false, width := 0, modlog := 0, origin := 0, rdcnt := 0, rva := 0, rstride := 0, touched := false,
    dirty := false }

/-- A GATED vector register: zero, tag VOID (01 R27). -/
def VReg.gated : VReg := { data := List.replicate 1024 0, tag := 0, power := .gated }

/-- A bittern record as delivered: nothing counted, the spare row unused, threshold 16 (13 R423). -/
def Bittern.fresh : Bittern :=
  { rowCnt := List.replicate 65 0, laneCnt := List.replicate 64 0, subCnt := List.replicate 16 0, spare := 0xFF,
    thr := 16 }

/-- An array as delivered. -/
def ArraySt.idle : ArraySt := { passes := 0, bittern := Bittern.fresh }

/-- A core after reset (15 R464). -/
def CoreSt.blank : CoreSt :=
  { spad := [], ue := [], tiles := Vector.replicate 256 Tile.invalid, vregs := Vector.replicate 32 VReg.gated,
    sems := Vector.replicate 32 0, score := ArraySt.idle, value := ArraySt.idle, frozen := false, copying := [],
    sparesUsed := [], corrected := [], retire := false, tlb := [], lastScalar := 0, lastVector := 0, lastRake := 0, lastMx := 0 }

/-- A cluster after reset: no partition, no translation, an empty cellar (15 R463, R464). -/
def ClusterSt.blank : ClusterSt :=
  { psems := Vector.replicate 16 0, tlb := [], walks := [], part := none, vdsize := 0, retired := 0, lost := [], spared := none, sliceLoss := 0, vaultSpares := [],
    vaultCopying := [], vaultCorrected := [], cellar := none }

/-- The configuration window after reset: table *Pool region entry* gives 0, SWEEP is 10 ms by default (10 R346), the rest is 0
by log entry 1. -/
def Cfg.blank : Cfg :=
  { qtbase := 0, bhbase := 0, savebase := 0, savesize := 0, evq := 0, evqridx := 0, telbase := 0, lgsizeSweep := 10000,
    psched := Vector.replicate 10 0, clucfg := Vector.replicate 10 0,
    regions := Vector.replicate 64 { dw0 := 0, dw1 := 0, dw2 := 0, dw3 := 0 }, mailbox := [] }

/-- The sluice with no queue, packet or launch (15 R463). -/
def Sluice.empty : Sluice :=
  { queues := [], bindList := [], launches := [], conts := [], saved := [], handles := [], shootdowns := [],
    lidNext := 0, keyNext := 0, orderNext := 0, windowNext := 0, therm := 0, stopped := false, mismatches := [],
    outOfService := false, waiting := [], busyOver := false,
    peer := [] }

/-- Both sides of the four lanes of a pair, at SEQ and E 0 (14 R456). -/
def Peer.fresh : Peer :=
  { tx := Vector.replicate 4 { next := 0, sent := [], wait := [] },
    rx := Vector.replicate 4 { expect := 0, buffer := [], results := [], retrying := none, unacked := 0,
                               planeB := false, parts := [] },
    failA := false, failB := false, unreachable := false }

/-- Counters at zero (15 R472). -/
def Telemetry.zero : Telemetry :=
  { migDropped := 0, migAbandoned := 0, discardA := 0, discardB := 0, replayA := 0, replayB := 0, lostEvents := 0,
    ideRetries := Vector.replicate 12 0 }

/-- Bizil of a part as manufactured (15 R466, R468). -/
def Bizil.fresh : Bizil :=
  { life := .manufacture, pendingLife := none, ownerDigest := none, minimum := Vector.replicate 4 0, loaded := [],
    records := [], repairLog := [], burned := [], mofortDigest := Config.mofortDigest, testFused := false, secret := true, hostImage := none, report := none }

/-- The device right after power-up: DEVSTAT.STATE is RESET (15 R462, R463). -/
def Device.reset : Device :=
  { num := 0, time := 0, cycle := 0, timeSet := false, steer := 0, follows := false, mem := [], poison := [], unlogged := [], hbmCorrected := [], bootEvents := [], lost := [], lines := [], blocks := [],
    dcache := [], lagoon := [], epoch := 0, scrub := { base := 0, pass := 0, visited := 0, passes := 0 }, openVer := [], cfg := Cfg.blank,
    state := .reset, resetKind := .cold, booterr := 0, therm := 0, celsius := 0, syncloss := false, cfgerr := false, powered := true,
    formed := false, sluice := Sluice.empty,
    modules := Vector.replicate 4 { extents := [], headA := false, headB := false, unreachable := false },
    ports := Vector.replicate 12 { up := false, retraining := false, spares := 0, x4 := false },
    peers := Vector.replicate 16 Peer.fresh, accessMap := Vector.replicate 16 0, outbox := [], tagNext := 0, serves := [],
    switching := [],
    mig := { reqs := [], freeHbm := [], freeVault := [], freePool := [], returned := [] }, tel := Telemetry.zero,
    evIdx := 0, irqs := [], bizil := Bizil.fresh, swaps := [] }

/-- Places: 640 contexts of 160 cores, then the eight workers, four apart so that each has a core image of its own. -/
def placeCount : Nat := 672

/-- The machine right after reset (15 R463, R464): context 0 of core 0 in focus, nothing on the agenda. -/
def State.reset : State :=
  { here := 0, ctx := Ctx.vacant, core := CoreSt.blank, clu := ClusterSt.blank,
    ctxs := List.replicate 672 Ctx.vacant, cores := List.replicate 168 CoreSt.blank,
    clus := List.replicate 11 ClusterSt.blank, dev := Device.reset, turns := [], ir := 0, tick := 0 }

end Sys2Proof.Machine
end

