-- ==== Sys2Proof/Machine/Access.lean ====
section
/-!
DEFINITION. Physical memory as the device reaches it: the address map (10 R323), the block cache (10 R328, R329), the
scalar data caches (10 R330), the lagoon (10 R335 to R338) and poison per 128-byte line (04 R138). A read goes to the line
if the block cache holds it, else to the lagoon frame that holds the sector, else to the memory; an access to a memory-side
page goes to memory at once (10 R333).
-/
namespace Sys2Proof.Machine

/-- The residency code of a physical address, 7 where the map places nothing (10 R323). -/
def residency (pa : Nat) : Nat :=
  if pa < 2 ^ 39 then 0
  else if 2 ^ 40 ≤ pa ∧ pa < 2 ^ 40 + 10 * 2 ^ 26 then 1
  else if 2 ^ 50 ≤ pa ∧ pa < 2 ^ 51 then 2
  else if 2 ^ 51 ≤ pa ∧ pa < 2 ^ 51 + 16 * 2 ^ 39 then 3
  else if 3 * 2 ^ 50 ≤ pa ∧ pa < 2 ^ 52 then 4
  else 7

/-- LGSIZE in bytes (10 R335, 15 R461). -/
def Device.lagoonBytes (d : Device) : Nat := d.cfg.lgsizeSweep.toNat / 2 ^ 32 * 2 ^ 30

/-- Physical address of lagoon frame 0: the top LGSIZE bytes of local HBM (10 R335). -/
def Device.lagoonBase (d : Device) : Nat := 2 ^ 39 - d.lagoonBytes

/-- The pool module of a pool address (14 R435). -/
def moduleOf (pa : Nat) : Nat := (pa - 2 ^ 50) / 2 ^ 48

/-- What stands for a module that the enclosure does not have. -/
def Module.absent : Module :=
  { extents := [], headA := false, headB := false, unreachable := true }

/-- A pool address is populated while an extent that holds it is online or releasing (14 R443). -/
def Device.poolPopulated (d : Device) (pa : Nat) : Bool :=
  (d.modules.toList.getD (moduleOf pa) Module.absent).extents.any
    fun e => e.state != .offered && decide (e.start ≤ pa) && decide (pa < e.start + e.len)

/-- The module of a pool address is out of reach (14 R447). -/
def Device.poolUnreachable (d : Device) (pa : Nat) : Bool :=
  (d.modules.toList.getD (moduleOf pa) Module.absent).unreachable

/-- Both heads of the module of a pool address are down and it is not yet out of reach: a request has no head to go to, and
waits (14 R445, R447). -/
def Device.noHead (d : Device) (pa : Nat) : Bool :=
  let m := d.modules.toList.getD (moduleOf pa) Module.absent
  residency pa == 2 && !m.headA && !m.headB && !m.unreachable

/-- A pool access that finds nothing: the extent is gone or the module out of reach (14 R444, R447). -/
def Device.poolGone (d : Device) (pa : Nat) : Bool :=
  residency pa == 2 && (!d.poolPopulated pa || d.poolUnreachable pa)

/-- The range of the queue table, memory-side for every access (12 R379). -/
def Device.inQueueTable (d : Device) (pa : Nat) : Bool :=
  decide (d.cfg.qtbase.toNat ≤ pa) && decide (pa < d.cfg.qtbase.toNat + 2 ^ 18)

/-- The line of an address. -/
def lineOf (pa : Nat) : Nat := pa / 128 * 128

/-- Bytes of block cache: what the formed clusters' slices leave of their vaults (10 R326, R328; 13 R426). -/
def sliceBytes (c : ClusterSt) : Nat :=
  match c.part with
  | none => 0
  | some _ => 48 * 2 ^ 20 - c.vdsize * 2 ^ 22 - c.sliceLoss

/-- The slices that make up a partition's block cache: cluster and bytes, a slice of size 0 skipped (10 R328). An access
that no partition makes has none. -/
abbrev Slices := List (Nat × Nat)

/-- The slices of a partition. -/
def slicesOf (clus : List ClusterSt) (part : Option Nat) : Slices :=
  if part.isNone then []
  else clus.zipIdx.filterMap fun x => if x.1.part == part && sliceBytes x.1 != 0 then some (x.2, sliceBytes x.1) else none

/-- The home slice of an address: a fixed hash of bits 51:13 spreads the granules over the slices (10 R328). -/
def homeIn (cl : Slices) (pa : Nat) : Nat × Nat :=
  match cl with
  | [x] => x
  | _ => cl.getD (Config.homeSlice (pa / 2 ^ 13) % cl.length) (0, 0)

/-- The stack, one of eight, and the channel in it that hold a byte of local HBM (10 R331): the stack follows the 2 KiB
granule, the channel the 256-byte unit. -/
def homeChannel (pa : Nat) : Nat × Nat :=
  let stack := Config.homeStack (pa / 2048) % 8
  (stack, Config.homeChannel stack (pa / 256))

/-- Fields of a leaf entry (10 R341). -/
def leafPmode (e : BitVec 64) : BitVec 2 := e.extractLsb' 52 2
def leafMs (e : BitVec 64) : Bool := e.getLsbD 7
def leafU (e : BitVec 64) : Bool := e.getLsbD 6
def leafX (e : BitVec 64) : Bool := e.getLsbD 5
def leafW (e : BitVec 64) : Bool := e.getLsbD 4
def leafMig (e : BitVec 64) : Bool := e.getLsbD 55
def leafAddr (e : BitVec 64) : Nat := (e.extractLsb' 12 40).toNat * 2 ^ 12

/-- Memory-side: the leaf says so, or the queue table (10 R333, 12 R379). -/
def Device.memorySide (d : Device) (pa : Nat) (leaf : BitVec 64) : Bool := leafMs leaf || d.inQueueTable pa

/-- The lagoon frame of a pool address whose leaf is RR or SF (10 R335). -/
def Device.lagoonFrame (d : Device) (pa : Nat) (mode : BitVec 2) : Option Nat :=
  if d.lagoonBytes = 0 ∨ residency pa ≠ 2 ∨ mode = 0 ∨ 2 ^ 50 + 2 ^ 10 * d.lagoonBytes ≤ pa then none
  else some ((pa - 2 ^ 50) / 2048 % (d.lagoonBytes / 2048))

/-- The lagoon tag of a pool address: the window offset above the frame index (10 R336). -/
def Device.lagoonTag (d : Device) (pa : Nat) : BitVec 10 := BitVec.ofNat 10 ((pa - 2 ^ 50) / d.lagoonBytes)

/-- A frame that holds the sector: an SF frame that is clean must carry the current epoch (10 R337). -/
def Device.frameHit (d : Device) (f : Nat) (tag : BitVec 10) (mode : BitVec 2) : Bool :=
  d.lagoon.any fun x => x.idx == f && x.tag == tag && (mode == 1 || x.dirty || x.stamp == d.epoch)

/-- Where the device finds a byte below the block cache: in the lagoon frame that holds its sector, else in place. -/
def Device.backing (d : Device) (pa : Nat) (mode : BitVec 2) : Nat :=
  match d.lagoonFrame pa mode with
  | none => pa
  | some f => if d.frameHit f (d.lagoonTag pa) mode then d.lagoonBase + 2048 * f + pa % 2048 else pa

/-- The block-cache line that holds an address, if any. -/
def Device.lineAt (d : Device) (pa : Nat) : Option CLine := d.lines.find? fun l => l.pa == lineOf pa

/-- One byte as the device reads it. -/
def Device.view (d : Device) (pa : Nat) (mode : BitVec 2) : Byte :=
  match d.lineAt pa with
  | some l => l.data.getD (pa % 128) 0
  | none => d.mem.read (d.backing pa mode)

/-- The line of an address is poisoned, as the device reads it (04 R138, 14 R444). -/
def Device.poisoned (d : Device) (pa : Nat) (mode : BitVec 2) : Bool :=
  d.poolGone pa ||
    match d.lineAt pa with
    | some l => l.poison
    | none => d.poison.contains (lineOf (d.backing pa mode))

/-- `n` bytes as the device reads them. -/
def Device.viewBytes (d : Device) (mode : BitVec 2) : Nat → Nat → List Byte
  | _, 0 => []
  | pa, n + 1 => d.view pa mode :: d.viewBytes mode (pa + 1) n

/-- A rising list of numbers with one put in. -/
def insertNat (x : Nat) : List Nat → List Nat
  | [] => [x]
  | y :: t => if x = y then y :: t else if x < y then x :: y :: t else y :: insertNat x t

/-- The poison mark of a memory line set or cleared. Firmware has yet to log an HBM line that becomes poisoned (13 R407). -/
def Device.setPoison (d : Device) (la : Nat) (p : Bool) : Device :=
  if p then
    { d with poison := insertNat la d.poison,
             unlogged := if residency la = 0 ∧ !d.poison.contains la then d.unlogged ++ [la] else d.unlogged }
  else { d with poison := d.poison.filter (· != la) }

/-- Memory bytes copied from one place to another with their poison, line by line. -/
def Device.copyMem (d : Device) (src dst : Nat) : Nat → Device
  | 0 => d
  | k + 1 =>
    let d' := d.copyMem src dst k
    let p := d'.poison.contains (src + 128 * k)
    { d' with mem := d'.mem.writeBytes (dst + 128 * k) (d'.mem.readBytes (src + 128 * k) 128) }.setPoison (dst + 128 * k) p

/-- A write-back that found its pool memory gone: it is dropped, and an error entry is due (14 R444, R447). -/
def Device.noteLost (d : Device) (pa : Nat) : Device := { d with lost := d.lost ++ [pa] }

/-- Write a dirty frame back to the pool and leave it clean; a frame whose pool is gone is dropped (10 R338, 14 R444), and one
whose module has no head waits (14 R447). -/
def Device.cleanFrame (d : Device) (f : Nat) : Device :=
  match d.lagoon.find? fun x => x.idx == f && x.dirty with
  | none => d
  | some x =>
    let pa := 2 ^ 50 + x.tag.toNat * d.lagoonBytes + 2048 * f
    if d.noHead pa then d else
    let d' := if d.poolGone pa then d.noteLost pa else d.copyMem (d.lagoonBase + 2048 * f) pa 16
    { d' with lagoon := d'.lagoon.map fun y => if y.idx == f then { y with dirty := false } else y }

/-- Make the frame of an RR or SF address hold its sector (10 R335 to R338). -/
def Device.fillFrame (d : Device) (pa : Nat) (mode : BitVec 2) : Device :=
  match d.lagoonFrame pa mode with
  | none => d
  | some f =>
    if d.frameHit f (d.lagoonTag pa) mode then d
    else
      let d1 := d.cleanFrame f
      if d1.lagoon.any fun x => x.idx == f && x.dirty then d1 else
      let d2 := d1.copyMem (pa / 2048 * 2048) (d1.lagoonBase + 2048 * f) 16
      { d2 with lagoon := { idx := f, dirty := false, stamp := d2.epoch, tag := d2.lagoonTag pa }
                  :: d2.lagoon.filter fun x => x.idx != f }

/-- Bytes written below the block cache, with the line's poison (10 R338: an SF sector that misses is filled first and
set DIRTY). A write whose pool is gone is dropped (14 R444). -/
def Device.writeBelow (d : Device) (pa : Nat) (bs : List Byte) (mode : BitVec 2) (p : Bool) : Device :=
  if d.poolGone pa then d
  else
    let d1 := d.fillFrame pa mode
    let b := d1.backing pa mode
    let d2 := { d1 with mem := d1.mem.writeBytes b bs }.setPoison (lineOf b) p
    match d2.lagoonFrame pa mode with
    | none => d2
    | some f => { d2 with lagoon := d2.lagoon.map fun x => if x.idx == f then { x with dirty := true } else x }

/-- Every copy of a line in the scalar data caches invalidated by its home slice (10 R330). -/
def Device.dropCopies (d : Device) (la : Nat) : Device := { d with dcache := d.dcache.filter fun c => c.pa != la }

/-- Drop a line, with what it holds and the copies made of it (10 R330, 18 R493). -/
def Device.dropLine (d : Device) (la : Nat) : Device :=
  { d with lines := d.lines.filter (fun l => l.pa != la), dcache := d.dcache.filter (fun c => c.pa != la),
           blocks := (d.blocks.map fun b => { b with lines := b.lines.filter (· != la) }).filter
                       fun b => !b.lines.isEmpty }

/-- Write a dirty line back and leave it clean (10 R329, 14 R442); one whose module has no head waits (14 R447). A line older
than the open version of its region is dropped, so that the reads that follow fetch it anew (08 R281). -/
def Device.cleanLine (d : Device) (la : Nat) : Device :=
  match d.lines.find? fun l => l.pa == la && l.dirty with
  | none => d
  | some l =>
    if d.noHead la then d else
    let d' := if d.poolGone la then d.noteLost la else d.writeBelow la l.data l.mode l.poison
    if l.stale then d'.dropLine la
    else { d' with lines := d'.lines.map fun x => if x.pa == la then { x with dirty := false } else x }

/-- Write a line back if it is dirty, then drop it. -/
def Device.flushLine (d : Device) (la : Nat) : Device :=
  let d1 := d.cleanLine la
  if d1.lines.any fun l => l.pa == la && l.dirty then d1 else d1.dropLine la

/-- Bytes of lines in a slice. -/
def Device.sliceUse (d : Device) (k : Nat) : Nat := ((d.blocks.filter (·.slice == k)).map fun b => 128 * b.lines.length).sum

/-- Evict least recently used blocks of a slice until its lines fit (10 R329): blocks with an outstanding fill go last. -/
def Device.evict (d : Device) (k size : Nat) : Nat → Device
  | 0 => d
  | n + 1 =>
    if d.sliceUse k ≤ size then d
    else
      let old := d.blocks.reverse.filter fun b => !b.lines.any d.noHead
      match (old.find? fun b => b.slice == k && b.done).or (old.find? fun b => b.slice == k) with
      | none => d
      | some b => (b.lines.foldl (fun x la => x.flushLine la) d).evict k size n

/-- Make the block cache hold the line of an address (10 R329): a miss becomes a block of one line in its home slice,
filled from below. With no slice the block cache is absent (10 R328). A line that any partition's slice holds stays there. -/
def Device.install (d : Device) (cl : Slices) (pa : Nat) (mode : BitVec 2) : Device :=
  if cl.isEmpty then d
  else
    match d.lineAt pa with
    | some _ =>
      match d.blocks.find? fun b => b.lines.contains (lineOf pa) with
      | none => d
      | some b => { d with blocks := b :: d.blocks.filter fun x => !x.lines.contains (lineOf pa) }
    | none =>
      let d1 := d.fillFrame pa mode
      let l : CLine := { pa := lineOf pa, data := d1.viewBytes mode (lineOf pa) 128, dirty := false,
                         poison := d1.poisoned pa mode, excl := true, mode := mode, stale := false }
      let (k, size) := homeIn cl pa
      { d1 with lines := l :: d1.lines,
                blocks := { slice := k, va := 0, nl := 0, asid := 0, lines := [lineOf pa], done := true }
                            :: d1.blocks }.evict k size 8

/-- What the block cache may hold: HBM pages not memory-side, and pool lines (10 R328). -/
def Device.cacheable (d : Device) (pa : Nat) (leaf : BitVec 64) : Bool :=
  (residency pa == 0 && !d.memorySide pa leaf) || (residency pa == 2 && !d.poolGone pa)

/-- An access that goes to HBM past every cache (10 R333). -/
def Device.direct (d : Device) (pa : Nat) (leaf : BitVec 64) : Bool := residency pa == 0 && d.memorySide pa leaf

/-- `n` bytes of one line as an access through a leaf finds them, and whether the line is poisoned; nothing is cached. -/
def Device.peek (d : Device) (pa n : Nat) (leaf : BitVec 64) : List Byte × Bool :=
  if d.direct pa leaf then (d.mem.readBytes pa n, d.poison.contains (lineOf pa))
  else (d.viewBytes (leafPmode leaf) pa n, d.poisoned pa (leafPmode leaf))

/-- A read of `n` bytes of one line: the device after it, the bytes, and whether the line is poisoned. -/
def Device.readLine (d : Device) (cl : Slices) (pa n : Nat) (leaf : BitVec 64) : Device × List Byte × Bool :=
  let d' := if d.cacheable pa leaf then d.install cl pa (leafPmode leaf) else d
  (d', d'.peek pa n leaf)

/-- Lines that a scalar data cache of 64 KiB holds (00 R1). -/
def dcacheLines : Nat := 512

/-- The newest `n` lines of a core's scalar data cache kept. -/
def trimCopies (core : Nat) : Nat → List DLine → List DLine
  | _, [] => []
  | n, c :: t =>
    if c.core != core then c :: trimCopies core n t
    else
      match n with
      | 0 => trimCopies core 0 t
      | k + 1 => c :: trimCopies core k t

/-- A load of a core's scalar pipe from one line (10 R330): from its scalar data cache if that holds the line, else from
the home slice, which then records the copy. Without a block cache nothing is held (10 R328). -/
def Device.loadLine (d : Device) (core : Nat) (cl : Slices) (pa n : Nat) (leaf : BitVec 64) : Device × List Byte × Bool :=
  if cl.isEmpty || !d.cacheable pa leaf then d.readLine cl pa n leaf
  else
    match d.dcache.find? fun c => c.core == core && c.pa == lineOf pa with
    | some c => ({ d with dcache := c :: d.dcache.erase c }, (c.data.drop (pa % 128)).take n, c.poison)
    | none =>
      let (d1, r) := d.readLine cl pa n leaf
      match d1.lineAt pa with
      | none => (d1, r)
      | some l =>
        ({ d1 with dcache := trimCopies core dcacheLines ({ core := core, pa := l.pa, data := l.data, poison := l.poison } :: d1.dcache) },
         r)

/-- A line's bytes replaced from an offset. -/
def patch (old : List Byte) (off : Nat) (new : List Byte) : List Byte :=
  old.take off ++ new ++ old.drop (off + new.length)

/-- The poison of a line after a write to it (04 R138): only a write of all 128 bytes clears it. -/
def poisonAfter (old : Bool) (n : Nat) (p : Bool) : Bool := if n = 128 then p else old || p

/-- A write of bytes of one line. Copies in the scalar data caches are invalidated before it performs (10 R330). A cached
line takes it and becomes dirty, owned by this device (14 R439); a memory-side page takes it in memory (10 R333). -/
def Device.writeLine (d : Device) (cl : Slices) (pa : Nat) (bs : List Byte) (leaf : BitVec 64) (p : Bool) : Device :=
  let m := leafPmode leaf
  if d.poolGone pa then d
  else if d.direct pa leaf then
    { d with mem := d.mem.writeBytes pa bs }.setPoison (lineOf pa)
      (poisonAfter (d.poison.contains (lineOf pa)) bs.length p)
  else
    let d1 := d.dropCopies (lineOf pa)
    let d' := if d1.cacheable pa leaf then d1.install cl pa m else d1
    match d'.lineAt pa with
    | some l =>
      { d' with lines := d'.lines.map fun x =>
          if x.pa == l.pa then
            { x with data := patch x.data (pa % 128) bs, dirty := true, excl := true,
                     poison := poisonAfter x.poison bs.length p }
          else x }
    | none => d'.writeBelow pa bs m (poisonAfter (d'.poisoned pa m) bs.length p)

/-- A write of bytes of one line that allocates it in no cache (06 R207: NA = 1): a copy that a cache holds takes it. -/
def Device.writePast (d : Device) (pa : Nat) (bs : List Byte) (leaf : BitVec 64) (p : Bool) : Device :=
  let m := leafPmode leaf
  if d.direct pa leaf || (d.lineAt pa).isSome || d.backing pa m != pa then d.writeLine [] pa bs leaf p
  else
    { d.dropCopies (lineOf pa) with mem := d.mem.writeBytes pa bs }.setPoison (lineOf pa)
      (poisonAfter (d.poisoned pa m) bs.length p)

/-- A write of bytes that may cross lines, lowest address first. -/
def Device.writeSpan (d : Device) (cl : Slices) (leaf : BitVec 64) (p : Bool) : Nat → Nat → List Byte → Device
  | 0, _, _ => d
  | fuel + 1, pa, bs =>
    if bs.isEmpty then d
    else
      let k := 128 - pa % 128
      (d.writeLine cl pa (bs.take k) leaf p).writeSpan cl leaf p fuel (pa + k) (bs.drop k)

/-- A read of bytes that may cross lines; poisoned if any line is. -/
def Device.readSpan (d : Device) (cl : Slices) (leaf : BitVec 64) : Nat → Nat → Nat → Device × List Byte × Bool
  | 0, _, _ => (d, [], false)
  | fuel + 1, pa, n =>
    if n = 0 then (d, [], false)
    else
      let k := min n (128 - pa % 128)
      let (d1, bs, p) := d.readLine cl pa k leaf
      let (d2, rest, q) := d1.readSpan cl leaf fuel (pa + k) (n - k)
      (d2, bs ++ rest, p || q)

end Sys2Proof.Machine
end

