-- ==== Sys2Proof/Machine/Translate.lean ====
section
/-!
DEFINITION. Virtual addresses, page tables, the walk, heat and the TLBs (10 R339 to R347), with the translation causes
and their information field (10 R352).
-/
namespace Sys2Proof.Machine

/-- What an access is to translation (10 R343). -/
inductive Kind where
  | read | write | atomic | fetch
  deriving DecidableEq, Repr

/-- The kind code of an information field (10 R352). -/
def Kind.code : Kind → Nat
  | .read => 0
  | .write => 1
  | .atomic => 2
  | .fetch => 3

/-- The kind of a code. -/
def kindOf (n : Nat) : Kind :=
  match n with
  | 0 => .read
  | 1 => .write
  | 2 => .atomic
  | _ => .fetch

/-- Writes and atomics need W and wait for a migrating page. -/
def Kind.writes : Kind → Bool
  | .write | .atomic => true
  | _ => false

/-- The information field of a translation cause (10 R352): level, kind, residency. -/
def tInfo (level : Nat) (k : Kind) (res : Nat) : BitVec 22 := BitVec.ofNat 22 (level % 8 * 32 + k.code * 8 + res % 8)

def causePageNotPresent : BitVec 10 := 0x100
def causePageProtection : BitVec 10 := 0x101
def causePtNodeAbsent : BitVec 10 := 0x102
def causePtNodeBusy : BitVec 10 := 0x103
def causeAddressRange : BitVec 10 := 0x104
def causePtPoison : BitVec 10 := 0x105

/-- Log₂ of the page a leaf of a level maps (10 R340). -/
def pageShift : Nat → Nat
  | 0 => 16
  | 1 => 25
  | _ => 34

/-- The index of an address at a level (10 R340). -/
def ptIndex (va lvl : Nat) : Nat :=
  match lvl with
  | 4 => va / 2 ^ 52 % 16
  | 3 => va / 2 ^ 43 % 512
  | 2 => va / 2 ^ 34 % 512
  | 1 => va / 2 ^ 25 % 512
  | _ => va / 2 ^ 16 % 512

/-- Every address of a range of the pool lies in an extent that is online or releasing: extents are followed upward. -/
def poolCovered (es : List Extent) : Nat → Nat → Nat → Bool
  | 0, _, _ => false
  | k + 1, a, n =>
    match es.find? fun e => e.state != .offered && decide (e.start ≤ a) && decide (a < e.start + e.len) with
    | none => false
    | some e => if a + n ≤ e.start + e.len then true else poolCovered es k (e.start + e.len) (a + n - (e.start + e.len))

/-- A range of the pool without a hole (10 R342, 14 R443). -/
def Device.poolWhole (d : Device) (pa n : Nat) : Bool :=
  let es := (d.modules.toList.getD (moduleOf pa) Module.absent).extents
  poolCovered es (es.length + 1) pa n

/-- Whether a physical address is populated (10 R323, R342). A pool module out of reach is populated still: what is read there is
poison, and what is written is dropped (14 R444, R447; log entry 75). -/
def Device.populated (d : Device) (clus : List ClusterSt) (pa : Nat) : Bool :=
  match residency pa with
  | 0 => decide (pa < d.lagoonBase)
  | 1 =>
    match clus[(pa - 2 ^ 40) / 2 ^ 26]? with
    | some c => decide ((pa - 2 ^ 40) % 2 ^ 26 < c.vdsize * 2 ^ 22)
    | none => false
  | 2 => d.poolPopulated pa
  | 3 => (pa - 2 ^ 51) / 2 ^ 39 != d.num.toNat
  | 4 => true
  | _ => false

/-- Page-table nodes lie in HBM, a vault direct part or the pool (10 R342). The lagoon's part of HBM, which nothing maps, is not
populated, so it holds no nodes (10 R323, R335; log entry 74). -/
def Device.nodeMemory (d : Device) (clus : List ClusterSt) (pa : Nat) : Bool :=
  decide (residency pa ≤ 2) && d.populated clus pa

/-- A page-table entry as the walker reads it: a node in the pool is read from the module directly (10 R342). -/
def Device.readEntry (d : Device) (pa : Nat) : BitVec 64 × Bool :=
  if residency pa = 2 then (BitVec.ofNat 64 (d.mem.readLE pa 8), d.poolGone pa || d.poison.contains (lineOf pa))
  else (BitVec.ofNat 64 (leNat (d.viewBytes 0 pa 8)), d.poisoned pa 0)

/-- An entry in a line that the block cache holds changed in that copy. -/
def Device.patchEntry (d : Device) (pa : Nat) (e : BitVec 64) (dirty : Bool) : Device :=
  { d with lines := d.lines.map fun x =>
      if x.pa == lineOf pa then
        { x with data := patch x.data (pa % 128) (leBytes 8 e.toNat), dirty := x.dirty || dirty }
      else x }

/-- A page-table entry changed at its home, poison untouched (10 R346). One in the pool is changed in the module, and in a
copy that the block cache holds, so that a write-back of the copy keeps the change. -/
def Device.writeEntry (d0 : Device) (pa : Nat) (e : BitVec 64) : Device :=
  let d := d0.dropCopies (lineOf pa)
  if residency pa = 2 then { d with mem := d.mem.writeLE pa 8 e.toNat }.patchEntry pa e false
  else
    match d.lineAt pa with
    | some _ => d.patchEntry pa e true
    | none => { d with mem := d.mem.writeLE pa 8 e.toNat }

/-- A relaxed atomic on an entry (10 R346): it changes the bits that `f` changes and no other, in the module and in a copy
of the line, which may hold a newer entry. -/
def Device.changeEntry (d : Device) (pa : Nat) (f : BitVec 64 → BitVec 64) : Device :=
  let d1 := d.writeEntry pa (f (d.readEntry pa).1)
  match (if residency pa = 2 then d.lineAt pa else none) with
  | some l => d1.patchEntry pa (f (BitVec.ofNat 64 (leNat ((l.data.drop (pa % 128)).take 8)))) false
  | none => d1

/-- The entry with its heat raised by an access (10 R346). -/
def heated (e : BitVec 64) (k : Kind) : BitVec 64 :=
  let lo := if k.writes then 58 else 56
  let h := (e.extractLsb' lo 2).toNat
  if h = 3 then e else e + BitVec.ofNat 64 (2 ^ lo)

/-- Heat given at a leaf; leaves of host pages are never given heat (10 R346). -/
def Device.giveHeat (d : Device) (epa : Nat) (k : Kind) : Device :=
  let e := (d.readEntry epa).1
  if residency (leafAddr e) = 4 then d else d.changeEntry epa fun x => heated x k

/-- The page of a leaf. -/
def leafFrame (e : BitVec 64) (lvl : Nat) : Nat := leafAddr e / 2 ^ pageShift lvl * 2 ^ pageShift lvl

/-- A leaf that R342 calls consistent. -/
def Device.leafConsistent (d : Device) (clus : List ClusterSt) (e : BitVec 64) (lvl : Nat) : Bool :=
  let f := leafFrame e lvl
  let r := residency f
  d.populated clus f && d.populated clus (f + 2 ^ pageShift lvl - 1) && residency (f + 2 ^ pageShift lvl - 1) == r
    && (r != 2 || d.poolWhole f (2 ^ pageShift lvl)) && (r == 2 || leafPmode e == 0) && leafPmode e != 3 && (r == 0 || !leafMs e)

/-- What a walk finds. -/
inductive Walked where
  | leaf (lvl : Nat) (e : BitVec 64) (epa : Nat)
  | fault (cause : BitVec 10) (lvl res : Nat)
  | busy (lvl : Nat)
  | wait
  deriving DecidableEq, Repr

/-- The walk from a node through the levels given, top first (10 R343). A node whose module has no head is waited for (14 R445,
R447). -/
def Device.walk (d : Device) (clus : List ClusterSt) (va : Nat) : Nat → List Nat → Walked
  | _, [] => .fault causePageNotPresent 0 7
  | node, lvl :: rest =>
    let epa := node + 8 * ptIndex va lvl
    let (e, p) := d.readEntry epa
    if d.noHead epa then .wait
    else if p then .fault causePtPoison lvl (residency node)
    else if !e.getLsbD 0 then .fault causePageNotPresent lvl 7
    else if lvl == 0 || (lvl ≤ 2 && e.getLsbD 1) then
      if d.leafConsistent clus e lvl then .leaf lvl e epa
      else .fault causeAddressRange lvl (residency (leafFrame e lvl))
    else if e.getLsbD 54 then .fault causePtNodeAbsent (lvl - 1) 7
    else if e.getLsbD 55 then .busy (lvl - 1)
    else if !d.nodeMemory clus (leafAddr e) then .fault causeAddressRange lvl (residency (leafAddr e))
    else d.walk clus va (leafAddr e) rest

/-- The non-leaf entries that a walk passes, each as the node it leads to below its level. -/
def Device.walkNodes (d : Device) (va : Nat) : Nat → List Nat → List (Nat × Nat)
  | _, [] => []
  | node, lvl :: rest =>
    let e := (d.readEntry (node + 8 * ptIndex va lvl)).1
    if lvl == 0 || (lvl ≤ 2 && e.getLsbD 1) then [] else (lvl, leafAddr e) :: d.walkNodes va (leafAddr e) rest

/-- The lowest address bit that an entry of a level resolves (10 R340). -/
def indexShift : Nat → Nat
  | 4 => 52
  | 3 => 43
  | 2 => 34
  | 1 => 25
  | _ => 16

/-- Where a walk begins (10 R345): at the node of the lowest entry that the walk cache holds for the address, else at the
root; with the levels that are left. -/
def walkStart (ws : List WalkEntry) (asid : BitVec 16) (va root : Nat) : Nat × List Nat :=
  match [1, 2, 3, 4].findSome? fun lvl => ws.find? fun w => w.level == lvl && w.asid == asid && w.vprefix == va / 2 ^ indexShift lvl with
  | some w => (w.node, [3, 2, 1, 0].drop (4 - w.level))
  | none => (root, [4, 3, 2, 1, 0])

/-- The TLB entry for an address (10 R347). -/
def tlbFind (tlb : List TlbEntry) (asid : BitVec 16) (va : Nat) : Option TlbEntry :=
  tlb.find? fun t => t.asid == asid && t.vpage == va / 2 ^ pageShift t.level

/-- What Translate answers (10 R343): the physical address and the leaf; a fault with its level and residency; a
non-leaf entry that is migrating; a write to a page that is migrating. -/
inductive Translated where
  | ok (pa : Nat) (leaf : BitVec 64)
  | fault (cause : BitVec 10) (info : BitVec 22)
  | busy (info : BitVec 22)
  | migrating (pa : Nat) (leafPa : Nat)
  deriving DecidableEq, Repr

/-- The rights a leaf gives an access (10 R343): RR refuses every write (09 R317). -/
def rightsOk (e : BitVec 64) (k : Kind) (task : Bool) : Bool :=
  (k != .fetch || leafX e) && (!task || leafU e) && (!k.writes || (leafW e && leafPmode e != 1))

/-- The end of Translate, at a leaf. -/
def translateLeaf (e : BitVec 64) (lvl va : Nat) (k : Kind) (task : Bool) (leafPa : Nat) : Translated :=
  let pa := leafFrame e lvl + va % 2 ^ pageShift lvl
  if !rightsOk e k task then .fault causePageProtection (tInfo lvl k (residency (leafFrame e lvl)))
  else if k.writes && leafMig e then .migrating pa leafPa
  else .ok pa e

/-- The last element of a list that satisfies a test taken out. -/
def dropLastOf {α : Type} (p : α → Bool) (l : List α) : List α := (l.reverse.eraseP p).reverse

/-- An entry put into the second-level TLB (10 R347): 512 sets of eight, where the oldest of a full set gives way. -/
def tlbInsert (t : TlbEntry) (l : List TlbEntry) : List TlbEntry :=
  if l.length < 8 then t :: l
  else
    let same (x : TlbEntry) : Bool := Config.tlbSet x.level x.vpage % 512 == Config.tlbSet t.level t.vpage % 512
    t :: if (l.filter same).length < 8 then l else dropLastOf same l

/-- An entry put into a first-level TLB of 128 entries (10 R347). -/
def l1Insert (t : TlbEntry) (l : List TlbEntry) : List TlbEntry := t :: l.take 127

/-- Write heat noted in the entries of a page. -/
def markHeat (t : TlbEntry) (l : List TlbEntry) : List TlbEntry :=
  l.map fun x => if x.asid == t.asid && x.level == t.level && x.vpage == t.vpage then { x with wheat := true } else x

/-- A walk's results installed (10 R345): the non-leaf entries in the walk cache, and the leaf in both TLBs unless it is
migrating. -/
def State.installWalk (s : State) (t : TlbEntry) (nodes : List WalkEntry) : State :=
  let s1 := { s with clu := { s.clu with walks := (nodes ++ s.clu.walks).take 256 } }
  if leafMig t.leaf then s1
  else { s1 with core := { s1.core with tlb := l1Insert t s1.core.tlb }, clu := { s1.clu with tlb := tlbInsert t s1.clu.tlb } }

/-- A leaf that a TLB holds used: the first write gives write heat once (10 R346). -/
def State.useEntry (s : State) (t : TlbEntry) (va : Nat) (k : Kind) (task : Bool) : State × Translated :=
  let s1 :=
    if k.writes && !t.wheat && !s.dev.noHead t.leafPa then
      { s with dev := s.dev.giveHeat t.leafPa k, core := { s.core with tlb := markHeat t s.core.tlb },
               clu := { s.clu with tlb := markHeat t s.clu.tlb } }
    else s
  (s1, translateLeaf t.leaf t.level va k task t.leafPa)

/-- The answer is a wait for a page to move. -/
def Translated.waits : Translated → Bool
  | .migrating _ _ => true
  | _ => false

/-- The walk for an address that no TLB holds, from the node that the walk cache gives (10 R343, R345). A write that waits at a
migrating page walks again until the wait is over, and the walk that ends it gives the write's heat (10 R346; log entry 73). -/
def State.walkFor (s : State) (asid : BitVec 16) (root : Nat) (task : Bool) (va : Nat) (k : Kind) : State × Translated :=
  let (node, lvls) := walkStart s.clu.walks asid va root
  match s.dev.walk (s.clus.set (s.here / 64) s.clu) va node lvls with
  | .fault c lvl res => (s, .fault c (tInfo lvl k res))
  | .busy lvl => (s, .busy (tInfo lvl k 7))
  | .wait => (s, .migrating 0 0)
  | .leaf lvl e epa =>
    let nodes : List WalkEntry := (s.dev.walkNodes va node lvls).reverse.map fun x =>
      { asid := asid, level := x.1, vprefix := va / 2 ^ indexShift x.1, node := x.2 }
    let t : TlbEntry := { asid := asid, level := lvl, vpage := va / 2 ^ pageShift lvl, leaf := e, leafPa := epa, wheat := k.writes }
    let r := translateLeaf e lvl va k task epa
    ({ s with dev := if r.waits then s.dev else s.dev.giveHeat epa k }.installWalk t nodes, r)

/-- Translate in an address space (10 R343): `task` says that task-mode rights apply. The first-level TLB of the core is
asked, then the second-level TLB of its cluster, whose entry the first takes, and then the walker. The state after it holds
the entries and the heat that this gave. -/
def State.translateIn (s : State) (asid : BitVec 16) (root : Nat) (task : Bool) (va : Nat) (k : Kind) :
    State × Translated :=
  if 2 ^ 56 ≤ va then (s, .fault causeAddressRange (tInfo 7 k 7))
  else
    match tlbFind s.core.tlb asid va with
    | some t => s.useEntry t va k task
    | none =>
      match tlbFind s.clu.tlb asid va with
      | some t => { s with core := { s.core with tlb := l1Insert t s.core.tlb } }.useEntry t va k task
      | none => s.walkFor asid root task va k

/-- The page that holds an address in an address space: its level and leaf, as a TLB has them or as a walk finds them. -/
def State.pageAt (s : State) (asid : BitVec 16) (root va : Nat) : Option (Nat × BitVec 64) :=
  match (tlbFind s.core.tlb asid va).or (tlbFind s.clu.tlb asid va) with
  | some t => some (t.level, t.leaf)
  | none =>
    match s.dev.walk (s.clus.set (s.here / 64) s.clu) va root [4, 3, 2, 1, 0] with
    | .leaf lvl e _ => some (lvl, e)
    | _ => none

/-- The address an access of the context reaches while KVGROW moves a slab (07 R247); none for a write that waits until
the cursor has passed it. -/
def Ctl.forwarded (c : Ctl) (va : Nat) (k : Kind) : Option Nat :=
  let x := va - c.fwdOld.toNat
  if !c.fwdAct || k == .fetch || decide (va < c.fwdOld.toNat) || decide (c.fwdSpan ≤ x) then some va
  else if x < c.fwdOff.toNat then some (c.fwdNew.toNat + x)
  else if !k.writes then some va
  else if c.fwdUsed ≤ x then some (c.fwdNew.toNat + x)
  else none

/-- A request that the block cache cannot serve, and that has no head to go to (14 R445, R447). -/
def Device.headless (d : Device) (pa : Nat) : Bool := d.noHead pa && (d.lineAt pa).isNone

/-- A translation whose access waits for a head of its module, as a write to a migrating page waits. -/
def onHead (x : State × Translated) : State × Translated :=
  match x with
  | (s1, .ok pa leaf) => (s1, if s1.dev.headless pa then .migrating pa 0 else .ok pa leaf)
  | r => r

/-- Translate for the context in focus; `kernel` is the mode the access's instruction, or its command's ENQ, issued in.
A write that waits for a move, and an access that waits for a head of its module, wait as a write to a migrating page
does. -/
def State.translate (s : State) (kernel : Bool) (va : Nat) (k : Kind) : State × Translated :=
  match s.ctx.ctl.forwarded va k with
  | some a =>
    onHead (s.translateIn s.ctx.asid s.ctx.root (!kernel) a k)
  | none => (s, .migrating 0 0)

end Sys2Proof.Machine
end

