-- ==== Sys2Proof/Machine/Links.lean ====
section
/-!
DEFINITION. What leaves the machine: events to the host (15 R471), error entries of launches (12 R387) and packets to
peers (14 R448, R451). A vector of small structures is updated with `updAt`.
-/
namespace Sys2Proof.Machine

/-- A vector with entry `i` changed; an index outside it changes nothing. -/
def updAt {α : Type} {n : Nat} (v : Vector α n) (i : Nat) (f : α → α) : Vector α n :=
  if h : i < n then v.set i (f v[i]) else v

/-- The physical address of a host address (10 R323): the host window from its start. -/
def hostPa (h : Nat) : Nat := 3 * 2 ^ 50 + h % 2 ^ 50

/-- A counter that saturates at 2⁶⁴ − 1 (15 R472). -/
def satInc (c : BitVec 64) (n : Nat) : BitVec 64 := if 2 ^ 64 ≤ c.toNat + n then BitVec.allOnes 64 else c + BitVec.ofNat 64 n

/-- Report an event to the host (15 R471): a record of write index, kind, number and address or count; lost, and
counted, when the queue is full or EVQ holds no queue. -/
def Device.event (d : Device) (kind num : Nat) (addr : Nat) : Device :=
  let log := d.cfg.evq.toNat % 16
  if log < 6 ∨ 12 < log ∨ 2 ^ log ≤ d.evIdx.toNat - d.cfg.evqridx.toNat then { d with tel := { d.tel with lostEvents := satInc d.tel.lostEvents 1 } }
  else
    let base := hostPa (d.cfg.evq.toNat / 2 ^ 12 % 2 ^ 44 * 2 ^ 12) + 32 * (d.evIdx.toNat % 2 ^ log)
    { d with evIdx := d.evIdx + 1,
             mem := d.mem.writeBytes base (leBytes 8 d.evIdx.toNat ++ leBytes 4 kind ++ leBytes 4 num ++ leBytes 8 addr
                      ++ leBytes 8 0) }

/-- A launch by its key. -/
def Sluice.launch? (sl : Sluice) (key : Nat) : Option Launch := sl.launches.find? fun l => l.key == key

/-- A launch changed. -/
def Sluice.updLaunch (sl : Sluice) (key : Nat) (f : Launch → Launch) : Sluice :=
  { sl with launches := sl.launches.map fun l => if l.key == key then f l else l }

/-- A member of a launch changed. -/
def Sluice.updMember (sl : Sluice) (key m : Nat) (f : Member → Member) : Sluice :=
  sl.updLaunch key fun l => { l with members := l.members.modify m f }

/-- A failure recorded: the first one stays (12 R388). -/
def Outcomes.fail (o : Outcomes) (status : BitVec 8) (cause : BitVec 10) (info : BitVec 22) (addr : BitVec 64) : Outcomes :=
  if o.status = 0 then { o with status := status, cause := cause, info := info, taddr := addr } else o

/-- An error entry: every one is counted, the first is kept (12 R387). -/
def Outcomes.entry (o : Outcomes) (kind : BitVec 8) (va : Word) (tid : BitVec 24) : Outcomes :=
  let o1 := { o with nerr := o.nerr + 1 }
  if o.nerr = 0 then { o1 with ekind := kind, eva := va.setWidth 56, etid := tid } else o1

/-- A change to the outcomes of the launch that owns the context's task. -/
def State.recordOutcome (s : State) (f : Outcomes → Outcomes) : State :=
  match s.ctx.job with
  | none => s
  | some j =>
    { s with dev := { s.dev with sluice := s.dev.sluice.updMember j.launch j.mem fun m => { m with out := f m.out } } }

/-- An error entry of the context's task (04 R144, 12 R387). -/
def State.errorEntry (s : State) (kind : BitVec 8) (va : Word) : State :=
  s.recordOutcome fun o => o.entry kind va s.ctx.ctl.tid

/-! ## Packets to peers -/

def gWrite : BitVec 4 := 0
def gRead : BitVec 4 := 1
def gData : BitVec 4 := 2
def gAtom : BitVec 4 := 3
def gRed : BitVec 4 := 4
def gResult : BitVec 4 := 5
def gAck : BitVec 4 := 6
def gAreq : BitVec 4 := 7
def gArep : BitVec 4 := 8
def gTime : BitVec 4 := 9

/-- A packet with every field zero but the version (14 R449). -/
def gBlank : GPacket :=
  { seq := 0, ack := 0, ackl := 0, lane := 0, dst := 0, src := 0, type := 0, ver := 1, av := false, rpl := false,
    len := 0, ret := false, scope := 0, cls := 0, op := 0, size := 0, off := 0, rlen := 0, status := 0, tag := 0,
    rsv := 0, payload := [], planeB := false }

/-- The header of a packet, doubleword 0 first (14 R449): 24 bytes. `rsv` holds the reserved bits, those of doubleword 0
first. -/
def gHeader (g : GPacket) : List Byte :=
  let b (x : Bool) (k : Nat) : Nat := if x then 2 ^ k else 0
  let dw0 := g.seq.toNat * 2 ^ 48 + g.ack.toNat * 2 ^ 32 + g.ackl.toNat * 2 ^ 30 + g.lane.toNat * 2 ^ 28 + g.dst.toNat * 2 ^ 24
    + g.src.toNat * 2 ^ 20 + g.type.toNat * 2 ^ 16 + g.ver.toNat * 2 ^ 12 + b g.av 11 + b g.rpl 10
    + g.rsv.toNat % 2 * 2 ^ 9 + g.len.toNat
  let dw1 := g.rsv.toNat / 2 % 2 ^ 11 * 2 ^ 53 + b g.ret 52 + g.scope.toNat * 2 ^ 49 + g.cls.toNat * 2 ^ 45 + g.op.toNat * 2 ^ 41
    + g.size.toNat * 2 ^ 39 + g.off.toNat
  let dw2 := g.rsv.toNat / 2 ^ 12 % 2 ^ 23 * 2 ^ 41 + g.rlen.toNat * 2 ^ 32 + g.rsv.toNat / 2 ^ 35 % 2 ^ 13 * 2 ^ 19
    + g.status.toNat * 2 ^ 16 + g.tag.toNat
  leBytes 8 dw0 ++ leBytes 8 dw1 ++ leBytes 8 dw2

/-- A packet as one unordered I/O write carries it (14 R449): the header and LEN bytes of payload. -/
def gWire (g : GPacket) : List Byte := gHeader g ++ g.payload.take g.len.toNat

/-- The most payload that a packet carries (14 R449). -/
def gMaxPayload : Nat := 256

/-- The device that holds a peer address, and the offset in its HBM (10 R323). -/
def peerOf (pa : Nat) : Nat := (pa - 2 ^ 51) / 2 ^ 39
def peerOff (pa : Nat) : BitVec 39 := BitVec.ofNat 39 (pa - 2 ^ 51)

/-- Bytes a request touches at its destination; only the accesses to its memory touch any. The commit of a head (log
entry 53), whose op code is 15, touches 32. -/
def gSpan (p : GPacket) : Nat :=
  if p.type = gRead then p.rlen.toNat
  else if p.type = gAtom ∧ p.op = 15 then 32
  else if p.type = gAtom ∨ p.type = gRed then 2 ^ p.size.toNat
  else if p.type = gWrite then p.payload.length
  else 0

/-- Two requests touch a common byte. -/
def gOverlaps (p q : GPacket) : Bool :=
  gSpan p != 0 && gSpan q != 0 && decide (p.off.toNat < q.off.toNat + gSpan q) && decide (q.off.toNat < p.off.toNat + gSpan p)

/-- Bytes the retry buffer of a destination holds (14 R451). -/
def Peer.retryBytes (p : Peer) : Nat :=
  (p.tx.toList.map fun l => (l.sent.map fun g => 24 + g.payload.length).sum).sum

/-- The source side of a lane on which nothing has been sent. -/
def TxLane.fresh : TxLane := { next := 0, sent := [], wait := [] }

/-- Whether a packet may be sent now (14 R448, R451): its number lies within the window, the retry buffer has room, and no
earlier request on another lane touches its bytes. A request that may not be sent waits with the instruction or the command
that makes it, so the requests before it are those sent. -/
def Peer.maySend (p : Peer) (lane : Nat) (g : GPacket) : Bool :=
  let l := p.tx.toList.getD lane TxLane.fresh
  (match l.sent.head? with
   | none => true
   | some o => decide ((l.next - o.seq).toNat < 1024))
  && decide (p.retryBytes + 24 + g.payload.length ≤ 2 ^ 19)
  && (p.tx.toList.zipIdx.all fun (x, k) => k == lane || x.sent.all fun q => !gOverlaps q g)

/-- Nothing received on a lane. -/
def RxLane.fresh : RxLane :=
  { expect := 0, buffer := [], results := [], retrying := none, unacked := 0, planeB := false, parts := [] }

/-- The acknowledgement that a packet sent back on a lane carries (14 R454), on the plane of the source's last packet: of
every packet of the lane applied, when one of them is unacknowledged. -/
def RxLane.owes (x : RxLane) (g : GPacket) : Bool := x.unacked != 0 && g.planeB == x.planeB

def RxLane.acked (x : RxLane) (lane : Nat) (g : GPacket) : GPacket :=
  if x.owes g then { g with av := true, ack := x.expect - 1, ackl := BitVec.ofNat 2 lane } else g

/-- A packet handed to the fabric, with the acknowledgement of its lane. -/
def Device.emit (d : Device) (dst lane : Nat) (g : GPacket) : Device :=
  let p := d.peers.toList.getD dst Peer.fresh
  let x := p.rx.toList.getD lane RxLane.fresh
  { d with outbox := d.outbox ++ [x.acked lane g],
           peers := if x.owes g then updAt d.peers dst fun q => { q with rx := updAt q.rx lane fun y => { y with unacked := 0 } }
                    else d.peers }

/-- A request numbered and sent on a working plane; with both planes failed it stays unresolved (14 R455, R456). -/
def Device.sendNow (d : Device) (dst lane : Nat) (g : GPacket) : Device :=
  let p := d.peers.toList.getD dst Peer.fresh
  let l := p.tx.toList.getD lane TxLane.fresh
  let g' := { g with seq := l.next, planeB := p.failA }
  let d' := { d with peers := updAt d.peers dst fun q => { q with tx := updAt q.tx lane fun t =>
      { t with next := t.next + 1, sent := t.sent ++ [g'] } } }
  if p.failA && p.failB then d' else d'.emit dst lane g'

/-- A sequenced packet handed to its lane: sent if it may be, else it waits there, as an answer does (14 R451). -/
def Device.sendLane (d : Device) (dst lane : Nat) (g : GPacket) : Device :=
  let p := d.peers.toList.getD dst Peer.fresh
  let g1 := { g with dst := BitVec.ofNat 4 dst, src := d.num, lane := BitVec.ofNat 2 lane }
  let l := p.tx.toList.getD lane TxLane.fresh
  if l.wait.isEmpty && p.maySend lane g1 then d.sendNow dst lane g1
  else { d with peers := updAt d.peers dst fun q => { q with tx := updAt q.tx lane fun t => { t with wait := t.wait ++ [g1] } } }

/-- Send what waits, lane by lane, as far as it may go. -/
def Device.pumpLane (d : Device) (dst lane : Nat) : Nat → Device
  | 0 => d
  | k + 1 =>
    let p := d.peers.toList.getD dst Peer.fresh
    let l := p.tx.toList.getD lane TxLane.fresh
    match l.wait with
    | [] => d
    | g :: rest =>
      let q := { p with tx := updAt p.tx lane fun t => { t with wait := rest } }
      if q.maySend lane g then
        ({ d with peers := updAt d.peers dst fun _ => q }.sendNow dst lane g).pumpLane dst lane k
      else d

/-- Send what waits on every lane towards a device. -/
def Device.pump (d : Device) (dst : Nat) : Device :=
  (List.range 4).foldl (fun d lane => d.pumpLane dst lane 1024) d

/-- A destination that completes nothing any more (14 R456). -/
def Device.peerGone (d : Device) (dst : Nat) : Bool := (d.peers.toList.getD dst Peer.fresh).unreachable

/-- A request of a class that may go now; one that may not stalls its instruction, or holds the request slot of its
command (14 R451). -/
def Device.maySend (d : Device) (dst : Nat) (cls : BitVec 4) (g : GPacket) : Bool :=
  let p := d.peers.toList.getD dst Peer.fresh
  let lane := cls.toNat % 4
  (p.tx.toList.getD lane TxLane.fresh).wait.isEmpty && p.maySend lane g

/-- The parts that a payload of any length is sent in (log entry 48): each but the last is of 256 bytes, and the last is
shorter. -/
def gParts (g : GPacket) : Nat → List Byte → List GPacket
  | 0, _ => []
  | n + 1, bs =>
    let p := bs.take gMaxPayload
    let one := { g with payload := p, len := BitVec.ofNat 9 p.length }
    if p.length < gMaxPayload then [one] else one :: gParts g n (bs.drop gMaxPayload)

/-- A payload cut into parts. -/
def gSplit (g : GPacket) : List GPacket := gParts g (g.payload.length / gMaxPayload + 1) g.payload

/-- Every part may go now: the window and the retry buffer have room for all of them (14 R451). -/
def Device.mayAll (d : Device) (dst : Nat) (cls : BitVec 4) (gs : List GPacket) : Bool :=
  let p := d.peers.toList.getD dst Peer.fresh
  let l := p.tx.toList.getD (cls.toNat % 4) TxLane.fresh
  l.wait.isEmpty && decide (p.retryBytes + (gs.map fun g => 24 + g.payload.length).sum ≤ 2 ^ 19)
    && (match l.sent.head? with
        | none => true
        | some o => decide ((l.next - o.seq).toNat + gs.length ≤ 1024))

/-- A plane has failed towards a destination. -/
def Peer.failed (p : Peer) (planeB : Bool) : Bool := if planeB then p.failB else p.failA

def Peer.setFailed (p : Peer) (planeB b : Bool) : Peer := if planeB then { p with failB := b } else { p with failA := b }

/-- Unresolved packets sent again on a plane, with RPL, and counted there (14 R455, 15 R472). -/
def Device.replay (d : Device) (dst : Nat) (planeB : Bool) (which : GPacket → Bool) : Device :=
  let p := d.peers.toList.getD dst Peer.fresh
  let again (g : GPacket) : GPacket := if which g then { g with rpl := true, planeB := planeB } else g
  let gs := (p.tx.toList.flatMap (·.sent)).filter which
  let d1 := { d with peers := updAt d.peers dst fun q => { q with tx := q.tx.map fun (t : TxLane) => { t with sent := t.sent.map again } } }
  let d2 := gs.foldl (fun x g => x.emit dst g.lane.toNat (again g)) d1
  if planeB then { d2 with tel := { d2.tel with replayB := satInc d2.tel.replayB gs.length } }
  else { d2 with tel := { d2.tel with replayA := satInc d2.tel.replayA gs.length } }

/-- A plane fails towards a destination: what was last sent on it goes again on the other, if that one works (14 R455). -/
def Device.failPlane (d : Device) (dst : Nat) (planeB : Bool) : Device :=
  let p := d.peers.toList.getD dst Peer.fresh
  if p.failed planeB then d
  else
    let d1 := { d with peers := updAt d.peers dst fun q => q.setFailed planeB true }
    if p.failed (!planeB) then d1 else d1.replay dst (!planeB) fun g => g.planeB == planeB

/-- The two ports of a switch plane (14 R433). -/
def planePorts (planeB : Bool) : List Nat := if planeB then [10, 11] else [8, 9]

/-- What stands for a port outside the enclosure. -/
def Port.absent : Port := { up := false, retraining := false, spares := 3, x4 := false }

/-- A plane of which both ports report down fails towards every destination (14 R455). -/
def Device.planeDown (d : Device) (planeB : Bool) : Device :=
  if (planePorts planeB).any fun p => (d.ports.toList.getD p Port.absent).up then d
  else (List.range 16).foldl (fun x n => x.failPlane n planeB) d

/-- A request of the context in focus, with a fresh tag; `kind` says what answers it, and `va` is the address that an
error entry reports. -/
def State.requestAt (s : State) (dst : Nat) (cls : BitVec 4) (kind : Nat) (g : GPacket) (va : Word) :
    State × BitVec 16 :=
  let tag := s.dev.tagNext
  let d := { s.dev with tagNext := tag + 1 }.sendLane dst (cls.toNat % 4) { g with tag := tag, cls := cls }
  ({ s with dev := d, ctx := { s.ctx with peer := s.ctx.peer ++
      [{ tag := tag, dst := dst, kind := kind, cls := cls, key := 2 ^ 51 + dst * 2 ^ 39 + g.off.toNat, va := va, seq := 0,
         data := none, status := 0 }] } }, tag)

/-- A request whose answer comes back to the context. -/
def State.request (s : State) (dst : Nat) (cls : BitVec 4) (kind : Nat) (g : GPacket) : State × BitVec 16 :=
  s.requestAt dst cls kind g 0

end Sys2Proof.Machine
end

