-- ==== Sys2Proof/Machine/Handle.lean ====
section
/-!
DEFINITION. Tensor handles (01 R48), and the coordinates and addresses of their elements (06 R204, R206).
-/
namespace Sys2Proof.Machine

/-- A tensor handle's fields (01 R48). Extents at or above NDIM are 1 (06 R203). -/
structure Handle where
  base : Nat
  pad : BitVec 32
  fmt : Nat
  res : Nat
  ndim : Nat
  size : List Nat
  stride : List Int
  tdir : Nat
  tcols : Nat
  trows : Nat
  deriving DecidableEq, Repr

/-- Bytes off … off + n − 1 of a list of bytes, as a little-endian number. -/
def fieldLE (bs : List Byte) (off n : Nat) : Nat := leNat ((bs.drop off).take n)

/-- A 48-bit number as a signed integer. -/
def signed48 (v : Nat) : Int := if 2 ^ 47 ≤ v then (v : Int) - 2 ^ 48 else (v : Int)

/-- A handle from its 128 bytes. -/
def Handle.ofBytes (bs : List Byte) : Handle :=
  let q1 := fieldLE bs 8 8
  let ndim := q1 % 16
  { base := fieldLE bs 0 7, pad := BitVec.ofNat 32 (q1 / 2 ^ 32), fmt := q1 / 2 ^ 8 % 256, res := q1 / 2 ^ 4 % 16,
    ndim := ndim, size := (List.range 8).map fun i => if i < ndim then fieldLE bs (16 + 4 * i) 4 else 1,
    stride := (List.range 8).map fun i => signed48 (fieldLE bs (48 + 6 * i) 6), tdir := fieldLE bs 96 7,
    tcols := fieldLE bs 106 2, trows := fieldLE bs 104 2 }

/-- A packed MX tensor (02 R72). -/
def Handle.packed (h : Handle) : Bool := h.fmt == 9 || h.fmt == 10

/-- The element size in bytes (06 R205). -/
def Handle.esize (h : Handle) : Nat :=
  match h.fmt with
  | 2 | 3 | 5 => 2
  | 1 | 4 => 4
  | _ => 1

/-- BASE + Σ xᵢ × STRIDEᵢ from a base of its own (06 R206, R208). -/
def Handle.addrFrom (h : Handle) (base : Nat) (x : List Nat) : Int :=
  (List.zipWith (fun (a : Nat) (b : Int) => (a : Int) * b) x h.stride).foldl (· + ·) (base : Int)

/-- The digits of a mixed-radix index, the first radix fastest, and what is left above them (06 R204). -/
def mixedRadix : List Nat → Nat → List Nat × Nat
  | [], v => ([], v)
  | r :: t, v =>
    let (ds, rest) := mixedRadix t (v / r)
    (v % r :: ds, rest)

/-- The lowest and the highest byte that the extents and strides reach (06 R203). -/
def Handle.span (h : Handle) : Int × Int :=
  (List.zip h.size h.stride).foldl
    (fun (a : Int × Int) x =>
      let d := x.2 * ((x.1 : Int) - 1)
      (a.1 + min 0 d, a.2 + max 0 d)) ((h.base : Int), (h.base : Int) + h.esize - 1)

/-- Elements of `e` bytes at `a` and at every step of a box (a count and a stride for each dimension) meet the `n` bytes
at `va`. -/
def boxMeets (e va n : Nat) : List (Nat × Int) → Int → Bool
  | [], a => decide (a < (va : Int) + n) && decide ((va : Int) < a + e)
  | (c, st) :: rest, a =>
    let lo := ((c, st) :: rest).foldl (fun (x : Int) d => x + min 0 (d.2 * ((d.1 : Int) - 1))) a
    let hi := ((c, st) :: rest).foldl (fun (x : Int) d => x + max 0 (d.2 * ((d.1 : Int) - 1))) a
    decide (lo < (va : Int) + n) && decide ((va : Int) < hi + e)
      && (List.range c).any fun k => boxMeets e va n rest (a + (k : Int) * st)

/-- Bits hi … lo of a doubleword, as a number. -/
def wordBits (w : Word) (lo n : Nat) : Nat := w.toNat / 2 ^ lo % 2 ^ n

end Sys2Proof.Machine
end

