-- ==== Sys2Proof/Machine/Float.lean ====
section
/-!
DEFINITION. Number formats and their arithmetic (02 R59 to R78). A value is a NaN, an infinity, or an exact dyadic number:
a sign, a magnitude `m` and an exponent, worth ±m · 2^e, so that both zeros are values. Every operation is exact until
one rounding turns its value into the bits of a format.
-/
namespace Sys2Proof.Machine

/-- An exact value (02 R59): `fin neg m e` is (−1)^neg · m · 2^e. -/
inductive FVal where
  | nan
  | inf (neg : Bool)
  | fin (neg : Bool) (m : Nat) (e : Int)
  deriving DecidableEq, Repr

/-- Which special encodings a format has (02 R60): infinities and NaNs; only the NaN S.1111.111; none. -/
inductive Specials where
  | ieee | e4m3 | none
  deriving DecidableEq, Repr

/-- A floating-point format (02 R59, R60): exponent bits, fraction bits, bias. -/
structure Fmt where
  ebits : Nat
  fbits : Nat
  bias : Int
  sp : Specials
  deriving DecidableEq, Repr

def fmtF32 : Fmt := { ebits := 8, fbits := 23, bias := 127, sp := .ieee }
def fmtBf16 : Fmt := { ebits := 8, fbits := 7, bias := 127, sp := .ieee }
def fmtF16 : Fmt := { ebits := 5, fbits := 10, bias := 15, sp := .ieee }
def fmtE4m3 : Fmt := { ebits := 4, fbits := 3, bias := 7, sp := .e4m3 }
def fmtE5m2 : Fmt := { ebits := 5, fbits := 2, bias := 15, sp := .ieee }
def fmtE3m2 : Fmt := { ebits := 3, fbits := 2, bias := 3, sp := .none }
def fmtE2m3 : Fmt := { ebits := 2, fbits := 3, bias := 1, sp := .none }
def fmtE2m1 : Fmt := { ebits := 2, fbits := 1, bias := 1, sp := .none }

/-- The place of the sign bit. -/
def Fmt.sign (f : Fmt) : Nat := 2 ^ (f.ebits + f.fbits)

/-- The encoding of +∞ in a format that has it: E all ones, F = 0. -/
def Fmt.infBits (f : Fmt) : Nat := (2 ^ f.ebits - 1) * 2 ^ f.fbits

/-- The largest finite encoding (02 R60). -/
def Fmt.maxBits (f : Fmt) : Nat :=
  match f.sp with
  | .ieee => f.infBits - 1
  | .e4m3 => 2 ^ (f.ebits + f.fbits) - 2
  | .none => 2 ^ (f.ebits + f.fbits) - 1

/-- The canonical NaN (02 R60, R61); a format without NaN gives +0 (log entry 10). -/
def Fmt.nanBits (f : Fmt) : Nat :=
  match f.sp with
  | .ieee => f.infBits + 2 ^ (f.fbits - 1)
  | .e4m3 => 2 ^ (f.ebits + f.fbits) - 1
  | .none => 0

/-- A signed zero's encoding. -/
def Fmt.zeroBits (f : Fmt) (neg : Bool) : Nat := if neg then f.sign else 0

/-- The value of an encoding (02 R59). -/
def Fmt.decode (f : Fmt) (bits : Nat) : FVal :=
  let mag := bits % f.sign
  let neg := bits / f.sign % 2 == 1
  let ex := mag / 2 ^ f.fbits
  let fr := mag % 2 ^ f.fbits
  if f.sp = .ieee ∧ f.infBits < mag then .nan
  else if f.sp = .ieee ∧ mag = f.infBits then .inf neg
  else if f.sp = .e4m3 ∧ mag = f.nanBits then .nan
  else if ex = 0 then .fin neg fr (1 - f.bias - f.fbits)
  else .fin neg (2 ^ f.fbits + fr) ((ex : Int) - f.bias - f.fbits)

/-- Rounding modes (01 R31). -/
inductive Rm where
  | nearestEven | towardZero | up | down
  deriving DecidableEq, Repr

/-- RM by its code (01 R31). -/
def rmOf (n : Nat) : Rm :=
  match n with
  | 0 => .nearestEven
  | 1 => .towardZero
  | 2 => .up
  | _ => .down

/-- Whether a magnitude truncated to `q` with remainder `r` of `d` moves up by one, for a value of sign `neg`. -/
def roundsUp (rm : Rm) (neg : Bool) (q r d : Nat) : Bool :=
  r != 0 &&
    match rm with
    | .nearestEven => decide (d < 2 * r) || (2 * r == d && q % 2 == 1)
    | .towardZero => false
    | .up => !neg
    | .down => neg

/-- A magnitude m · 2^sh rounded to an integer. -/
def roundShift (rm : Rm) (neg : Bool) (m : Nat) (sh : Int) : Nat :=
  if 0 ≤ sh then m * 2 ^ sh.toNat
  else
    let d := 2 ^ (-sh).toNat
    let q := m / d
    if roundsUp rm neg q (m % d) d then q + 1 else q

/-- What an overflow gives (02 R64 step 4): a conversion saturates or not by FMODE.SAT; an arithmetic operation
overflows as IEEE 754 prescribes. -/
inductive Over where
  | conv (sat : Bool)
  | arith
  deriving DecidableEq, Repr

/-- The encoding of an overflow. -/
def Fmt.overflow (f : Fmt) (rm : Rm) (o : Over) (neg : Bool) : Nat :=
  let s := f.zeroBits neg
  match o with
  | .conv false => s + f.maxBits
  | .conv true => if f.sp = .ieee then s + f.infBits else f.nanBits
  | .arith =>
    if f.sp ≠ .ieee then s + f.maxBits
    else if rm = .towardZero ∨ (rm = .up ∧ neg) ∨ (rm = .down ∧ !neg) then s + f.maxBits
    else s + f.infBits

/-- RoundTo (02 R64). `ovf` says what an overflow, and an infinity in a format without one, gives. -/
def Fmt.round (f : Fmt) (rm : Rm) (o : Over) (x : FVal) : Nat :=
  match x with
  | .nan => f.nanBits
  | .inf neg =>
    if f.sp = .ieee then f.zeroBits neg + f.infBits
    else if o = .conv true then f.nanBits else f.zeroBits neg + f.maxBits
  | .fin neg m e =>
    if m = 0 then f.zeroBits neg
    else
      let emin : Int := 1 - f.bias
      let top : Int := (Nat.log2 m : Int) + e
      let qe := (if top < emin then emin else top) - f.fbits
      let n := roundShift rm neg m (e - qe)
      let bits := (qe + f.fbits + f.bias - 1).toNat * 2 ^ f.fbits + n
      if f.maxBits < bits then f.overflow rm o neg else f.zeroBits neg + bits

/-- The sign turned. -/
def FVal.neg : FVal → FVal
  | .nan => .nan
  | .inf s => .inf (!s)
  | .fin s m e => .fin (!s) m e

/-- The sign cleared. -/
def FVal.abs : FVal → FVal
  | .nan => .nan
  | .inf _ => .inf false
  | .fin _ m e => .fin false m e

/-- The signed magnitude of a finite value scaled to an exponent not above its own. -/
def scaled (neg : Bool) (m : Nat) (e lo : Int) : Int :=
  let v : Int := m * 2 ^ (e - lo).toNat
  if neg then -v else v

/-- The exact sum under IEEE 754's rules for infinities and zeros: an exact zero of terms that are not both −0 (or both
+0) is +0, or −0 when rounding toward −∞. -/
def FVal.add (down : Bool) (x y : FVal) : FVal :=
  match x, y with
  | .nan, _ => .nan
  | _, .nan => .nan
  | .inf a, .inf b => if a == b then .inf a else .nan
  | .inf a, .fin _ _ _ => .inf a
  | .fin _ _ _, .inf b => .inf b
  | .fin a m e, .fin b n g =>
    let lo := min e g
    let v := scaled a m e lo + scaled b n g lo
    if v = 0 then .fin (if a == b && m == 0 && n == 0 then a else down) 0 0
    else .fin (decide (v < 0)) v.natAbs lo

/-- The exact product; 0 × ∞ is NaN. -/
def FVal.mul (x y : FVal) : FVal :=
  match x, y with
  | .nan, _ => .nan
  | _, .nan => .nan
  | .inf a, .inf b => .inf (a != b)
  | .inf a, .fin b n _ => if n = 0 then .nan else .inf (a != b)
  | .fin a m _, .inf b => if m = 0 then .nan else .inf (a != b)
  | .fin a m e, .fin b n g => .fin (a != b) (m * n) (e + g)

/-- x < y of numbers; false when either is NaN. -/
def FVal.lt (x y : FVal) : Bool :=
  match x, y with
  | .nan, _ => false
  | _, .nan => false
  | .inf a, .inf b => a && !b
  | .inf a, .fin _ _ _ => a
  | .fin _ _ _, .inf b => !b
  | .fin a m e, .fin b n g => decide (scaled a m e (min e g) < scaled b n g (min e g))

/-- x = y of numbers, with +0 equal to −0; false when either is NaN. -/
def FVal.eq (x y : FVal) : Bool :=
  match x, y with
  | .nan, _ => false
  | _, .nan => false
  | .inf a, .inf b => a == b
  | .inf _, .fin _ _ _ => false
  | .fin _ _ _, .inf _ => false
  | .fin a m e, .fin b n g => scaled a m e (min e g) == scaled b n g (min e g)

/-- The sign bit of a value; a NaN has none. -/
def FVal.isNeg : FVal → Bool
  | .nan => false
  | .inf s => s
  | .fin s _ _ => s

/-- Maximum (02 R61): NaN if either is; +0 above −0. -/
def FVal.max (x y : FVal) : FVal :=
  if x = .nan ∨ y = .nan then .nan
  else if x.lt y then y else if y.lt x then x else if x.isNeg then y else x

/-- Minimum (02 R61): NaN if either is; −0 below +0. -/
def FVal.min (x y : FVal) : FVal :=
  if x = .nan ∨ y = .nan then .nan
  else if x.lt y then x else if y.lt x then y else if x.isNeg then x else y

/-- A finite value that is zero. -/
def FVal.isZero : FVal → Bool
  | .fin _ m _ => m == 0
  | _ => false

/-- NaN or infinity. -/
def FVal.isSpecial : FVal → Bool
  | .fin _ _ _ => false
  | _ => true

/-- A value scaled by 2^k. -/
def FVal.scale (x : FVal) (k : Int) : FVal :=
  match x with
  | .fin s m e => .fin s m (e + k)
  | v => v

/-- An integer's value. -/
def FVal.ofInt (i : Int) : FVal := .fin (decide (i < 0)) i.natAbs 0

/-- Conversion to an integer (02 R66): rounded under RM and clamped to lo … hi; NaN gives 0. -/
def FVal.toInt (rm : Rm) (lo hi : Int) (x : FVal) : Int :=
  match x with
  | .nan => 0
  | .inf s => if s then lo else hi
  | .fin s m e =>
    let n : Int := roundShift rm s m e
    let v := if s then -n else n
    if v < lo then lo else if hi < v then hi else v

/-- A binary32 magnitude below 2⁻¹²⁶ and not zero. -/
def isSubF32 (bits : Nat) : Bool := bits % 2 ^ 31 != 0 && decide (bits % 2 ^ 31 < 2 ^ 23)

/-- A binary32 image with a subnormal taken as a zero of its own sign (02 R65, R79). -/
def flushF32 (ftz : Bool) (bits : Nat) : Nat := if ftz && isSubF32 bits then bits / 2 ^ 31 * 2 ^ 31 else bits

/-- RoundF (02 R79), which is also RoundAcc (02 R76): nearest-even into FP32, overflow to ±∞, subnormal results flushed. -/
def roundF (x : FVal) : BitVec 32 := BitVec.ofNat 32 (flushF32 true (fmtF32.round .nearestEven .arith x))

/-- A BF16 magnitude below 2⁻¹²⁶ and not zero becomes a zero of its own sign. -/
def flushBf16 (bits : Nat) : Nat := if bits % 2 ^ 15 ≠ 0 ∧ bits % 2 ^ 15 < 2 ^ 7 then bits / 2 ^ 15 * 2 ^ 15 else bits

/-- RoundB (02 R79): nearest-even into BF16 with the same overflow and flush. -/
def roundB (x : FVal) : BitVec 16 := BitVec.ofNat 16 (flushBf16 (fmtBf16.round .nearestEven .arith x))

/-- An FP32 input of the soft-maximum stage (02 R79): subnormals read as zeros. -/
def valF (b : BitVec 32) : FVal := fmtF32.decode (flushF32 true b.toNat)

/-- An FP32 accumulator (02 R76): a subnormal is taken at its value. -/
def valAcc (b : BitVec 32) : FVal := fmtF32.decode b.toNat

/-! ## MX blocks -/

/-- Element formats of MX blocks (02 R68). -/
inductive Efmt where
  | e4m3 | e5m2 | e3m2 | e2m3 | e2m1 | int8 | zero
  deriving DecidableEq, Repr

/-- The element format of a format byte; none where it raises MX_FORMAT (02 R68, R69). -/
def efmtOf (fb : Byte) (mx4 : Bool) : Option Efmt :=
  if fb.toNat / 16 ≠ 0 then none
  else
    match fb.toNat % 8 with
    | 0 => if mx4 then none else some .e4m3
    | 1 => if mx4 then none else some .e5m2
    | 2 => if mx4 then none else some .e3m2
    | 3 => if mx4 then none else some .e2m3
    | 4 => some .e2m1
    | 5 => if mx4 then none else some .int8
    | 6 => some .zero
    | _ => none

/-- EFMT of an element format. -/
def Efmt.code : Efmt → Nat
  | .e4m3 => 0
  | .e5m2 => 1
  | .e3m2 => 2
  | .e2m3 => 3
  | .e2m1 => 4
  | .int8 => 5
  | .zero => 6

/-- Element width in bits (02 R71). -/
def Efmt.bits : Efmt → Nat
  | .e4m3 | .e5m2 | .int8 => 8
  | .e3m2 | .e2m3 => 6
  | .e2m1 => 4
  | .zero => 0

/-- Length of a packed record (02 R71). -/
def Efmt.recordLen (f : Efmt) : Nat := 2 + 4 * f.bits

/-- The floating-point format of an element format that has one. -/
def Efmt.fmt : Efmt → Option Fmt
  | .e4m3 => some fmtE4m3
  | .e5m2 => some fmtE5m2
  | .e3m2 => some fmtE3m2
  | .e2m3 => some fmtE2m3
  | .e2m1 => some fmtE2m1
  | _ => none

/-- A byte's value as a signed integer. -/
def byteInt (b : Nat) : Int := if 128 ≤ b % 256 then ((b % 256 : Nat) : Int) - 256 else ((b % 256 : Nat) : Int)

/-- Val: an element's value before scaling (02 R59, R62, R68). -/
def Efmt.val (f : Efmt) (code : Nat) : FVal :=
  match f.fmt with
  | some g => g.decode (code % 2 ^ f.bits)
  | none =>
    match f with
    | .int8 => .fin (decide (byteInt code < 0)) (byteInt code).natAbs (-6)
    | _ => .fin false 0 0

/-- An element's value with its block's scale (02 R68). -/
def blockVal (f : Efmt) (scale code : Nat) : FVal :=
  if f = .zero then .fin false 0 0
  else if scale = 0xFF then .nan
  else (f.val code).scale ((scale : Int) - 127)

/-- The CRC of R74, one byte into it. -/
def crcByte (crc : BitVec 16) (b : Byte) : BitVec 16 :=
  let step (c : BitVec 16) : BitVec 16 := if c.getLsbD 15 then (c <<< 1) ^^^ 0x1021 else c <<< 1
  step (step (step (step (step (step (step (step (crc ^^^ (b.setWidth 16 <<< 8)))))))))

/-- The grain check of a grain's 36 bytes (02 R74): bytes 0, 1 and 4 to 35. -/
def grainCheck (g : List Byte) : BitVec 16 := (g.take 2 ++ (g.drop 4).take 32).foldl crcByte 0xFFFF

/-- A grain from its format byte, scale and 32 element bytes (02 R73). -/
def mkGrain (fb sc : Byte) (elems : List Byte) : List Byte :=
  let c := grainCheck (fb :: sc :: 0 :: 0 :: elems)
  fb :: sc :: BitVec.ofNat 8 c.toNat :: BitVec.ofNat 8 (c.toNat / 256) :: elems

/-- What a unit that reads a grain finds (02 R69, R75). -/
inductive Grain where
  | bad             -- the check fails: GRAIN_CHECK
  | format          -- MX_FORMAT
  | ok (f : Efmt) (scale : Nat) (elems : List Nat)
  deriving DecidableEq, Repr

/-- A grain read: the check first, then the format byte, then the bits above the element width (02 R75). -/
def readGrain (g : List Byte) (mx4 : Bool) : Grain :=
  if leNat16 g ≠ (grainCheck g).toNat then .bad
  else
    match efmtOf (g.getD 0 0) mx4 with
    | none => .format
    | some f =>
      let es := ((g.drop 4).take 32).map (·.toNat)
      if es.any fun x => decide (2 ^ f.bits ≤ x) then .format else .ok f (g.getD 1 0).toNat es
where
  leNat16 (g : List Byte) : Nat := (g.getD 2 0).toNat + 256 * (g.getD 3 0).toNat

/-- emax of an element format (02 R70). -/
def Efmt.emax : Efmt → Int
  | .e4m3 => 8
  | .e5m2 => 15
  | .e3m2 => 4
  | .e2m3 => 2
  | .e2m1 => 2
  | _ => 0

/-- Floor of log₂ of a finite value that is not zero. -/
def FVal.ilog2 : FVal → Int
  | .fin _ m e => (Nat.log2 m : Int) + e
  | _ => 0

/-- An element code from a value already divided by the scale (02 R70 step 4): nearest-even, saturating. -/
def Efmt.quantise (f : Efmt) (x : FVal) : Nat :=
  match f.fmt with
  | some g => g.round .nearestEven (.conv false) x
  | none =>
    match f with
    | .int8 => ((x.scale 6).toInt .nearestEven (-128) 127 % 256).toNat
    | _ => 0

/-- The scale that R70 steps 1 to 3 give 32 values. -/
def quantScale (f : Efmt) (vs : List FVal) : Nat :=
  if vs.any (·.isSpecial) then 0xFF
  else if vs.all (·.isZero) then 0x7F
  else
    let top := (vs.filter fun v => !v.isZero).foldl (fun a v => max a v.ilog2) (-100000)
    let e := top - f.emax + 127
    if e < 0 then 0 else if 254 < e then 254 else e.toNat

/-- A quantised block: its scale and 32 element codes (02 R70). -/
def quantBlock (f : Efmt) (vs : List FVal) : Nat × List Nat :=
  let sc := quantScale f vs
  if vs.any (·.isSpecial) || vs.all (·.isZero) then
    (sc, vs.map fun _ => 0)
  else (sc, vs.map fun v => f.quantise (v.scale (127 - (sc : Int))))

/-! ## Array arithmetic -/

/-- A block as an array takes it (02 R76, R77): whether its scale makes it NaN, its scale, and its values before scaling. -/
structure Blk where
  nan : Bool
  scale : Int
  vals : List FVal
  deriving DecidableEq, Repr

/-- A block of 32 zeros. -/
def Blk.zero : Blk := { nan := false, scale := 127, vals := List.replicate 32 (.fin false 0 0) }

/-- An MX block; a ZERO block's scale has no effect (02 R68, R76). -/
def Blk.ofMx (f : Efmt) (scale : Nat) (codes : List Nat) : Blk :=
  if f = .zero then Blk.zero else { nan := scale == 0xFF, scale := scale, vals := codes.map f.val }

/-- 32 BF16 images with scale 0x7F (02 R77). -/
def Blk.ofBf16 (xs : List Nat) : Blk := { nan := false, scale := 127, vals := xs.map fmtBf16.decode }

/-- One block pair into an accumulator (02 R76): the exact sum of the products, the scales, one rounding. -/
def Blk.pair (acc : BitVec 32) (x : Blk × Blk) : BitVec 32 :=
  let s := (List.zipWith FVal.mul x.1.vals x.2.vals).foldl (FVal.add false) (.fin false 0 0)
  let s' := if x.1.nan || x.2.nan then FVal.nan else if s.isZero then .fin false 0 0 else s
  roundF ((valAcc acc).add false (s'.scale (x.1.scale + x.2.scale - 254)))

/-- An element of the product: its block pairs in ascending order (02 R76). -/
def dotBlocks (xs ys : List Blk) (acc : BitVec 32) : BitVec 32 := (xs.zip ys).foldl Blk.pair acc

/-- The pairwise tree of R78 on a list of a power-of-two length: `fuel` is the number of levels. -/
def treeReduce {α : Type} (op : α → α → α) : Nat → List α → List α
  | 0, xs => xs
  | k + 1, xs => treeReduce op k (List.zipWith op (xs.take (xs.length / 2)) (xs.drop (xs.length / 2)))

end Sys2Proof.Machine
end

