-- ==== Sys2Proof/Machine/Transcend.lean ====
section
/-!
DEFINITION. The functions whose exact result is not dyadic: Exp2 and Recip of the soft-maximum stage (02 R80) and the
special functions of the vector pipe (05 R161). Each is computed in fixed point to far more bits than any format holds,
and a result that is not exact carries a last 1 below those bits, so that one rounding gives the format's single value.
-/
namespace Sys2Proof.Machine

/-- Fraction bits of the fixed-point work. -/
def fpBits : Nat := 640

/-- ⌊ln 2 · 2^640⌋. -/
def ln2Fix : Nat :=
  3162442850577000144542819255265044123884198300717798677536341180773118696995660441338367561063358767323571958122307070903190084685977847936741854327993944726832264493303953239866611699627604094

/-- ⌊log₂ e · 2^640⌋. -/
def log2eFix : Nat := 2 ^ 1280 / ln2Fix

/-- A fixed-point product. -/
def fixMul (a b : Nat) : Nat := a * b / 2 ^ fpBits

/-- Σ yᵏ/k! from the term `t` = y^(k−1)/(k−1)! on. -/
def expSeries (y : Nat) : Nat → Nat → Nat → Nat
  | 0, _, _ => 0
  | fuel + 1, k, t => t + expSeries y fuel (k + 1) (fixMul t y / k)

/-- 2^f in fixed point for a fraction f in [0, 1), itself in fixed point. -/
def exp2Frac (f : Nat) : Nat := expSeries (fixMul f ln2Fix) 160 1 (2 ^ fpBits)

/-- 2^x for x = ±v · 2^−640, v a natural number: exact where x is an integer. `inexact` says that v was cut short. -/
def exp2Fix (neg : Bool) (v : Nat) (inexact : Bool) : FVal :=
  let n : Int := if neg then -((v + 2 ^ fpBits - 1) / 2 ^ fpBits : Nat) else ((v / 2 ^ fpBits : Nat) : Int)
  let f : Nat := if neg then (2 ^ fpBits - v % 2 ^ fpBits) % 2 ^ fpBits else v % 2 ^ fpBits
  if f = 0 ∧ !inexact then .fin false 1 n
  else .fin false (2 * exp2Frac f + 1) (n - 1 - fpBits)

/-- A finite value's magnitude in fixed point, cut below 2^−640, and whether that was exact. -/
def toFix (m : Nat) (e : Int) : Nat × Bool :=
  let sh := e + fpBits
  if 0 ≤ sh then (m * 2 ^ sh.toNat, true) else (m / 2 ^ (-sh).toNat, m % 2 ^ (-sh).toNat == 0)

/-- 2^x, exact to rounding (02 R80, 05 R161). Beyond ±2^16 the result lies past every finite and every subnormal. -/
def exp2Val (x : FVal) : FVal :=
  match x with
  | .nan => .nan
  | .inf s => if s then .fin false 0 0 else .inf false
  | .fin s m e =>
    if m = 0 then .fin false 1 0
    else if 16 ≤ (Nat.log2 m : Int) + e then .fin false 1 (if s then -100000 else 100000)
    else
      let (v, exact) := toFix m e
      exp2Fix s v (!exact)

/-- 1/x, exact to rounding; zeros and infinities keep their sign. -/
def recipVal (x : FVal) : FVal :=
  match x with
  | .nan => .nan
  | .inf s => .fin s 0 0
  | .fin s m e =>
    if m = 0 then .inf s
    else
      let k := Nat.log2 m + 100
      let q := 2 ^ k / m
      .fin s (2 * q + if 2 ^ k % m = 0 then 0 else 1) (-e - k - 1)

/-- Σ z^(2i+1)/(2i+1), from the power `p` of z with odd exponent `k` on. -/
def atanhSeries (z2 : Nat) : Nat → Nat → Nat → Nat
  | 0, _, _ => 0
  | fuel + 1, k, p => p / k + atanhSeries z2 fuel (k + 2) (fixMul p z2)

/-- log₂ t in fixed point for t in [1, 2), in fixed point. -/
def log2Frac (t : Nat) : Nat :=
  let z := (t - 2 ^ fpBits) * 2 ^ fpBits / (t + 2 ^ fpBits)
  2 * atanhSeries (fixMul z z) 220 1 z * 2 ^ fpBits / ln2Fix

/-- log₂ x (05 R161): exact for a power of two. -/
def log2Val (x : FVal) : FVal :=
  match x with
  | .nan => .nan
  | .inf s => if s then .nan else .inf false
  | .fin s m e =>
    if m = 0 then .inf true
    else if s then .nan
    else
      let k := Nat.log2 m
      let n : Int := k + e
      if m = 2 ^ k then .fin (decide (n < 0)) n.natAbs 0
      else
        let v : Int := n * 2 ^ fpBits + log2Frac (m * 2 ^ fpBits / 2 ^ k)
        .fin (decide (v < 0)) (2 * v.natAbs + 1) (-1 - fpBits)

/-- The integer square root, one bit a round from the top bit `b` down. -/
def isqrt (n : Nat) : Nat → Nat → Nat
  | 0, r => r
  | b + 1, r => if (r + 2 ^ b) * (r + 2 ^ b) ≤ n then isqrt n b (r + 2 ^ b) else isqrt n b r

/-- 1/√x (05 R161). -/
def rsqrtVal (x : FVal) : FVal :=
  match x with
  | .nan => .nan
  | .inf s => if s then .nan else .fin false 0 0
  | .fin s m e =>
    if m = 0 then .inf s
    else if s then .nan
    else
      let (m', e') := if e % 2 = 0 then (m, e) else (2 * m, e - 1)
      let r := isqrt (2 ^ 400 / m') 201 0
      .fin false (2 * r + if r * r * m' = 2 ^ 400 then 0 else 1) (-(e' / 2) - 201)

/-- e^−y in fixed point, for y ≥ 0 in fixed point. -/
def expNegFix (y : Nat) : Nat :=
  let v := fixMul y log2eFix
  let n := (v + 2 ^ fpBits - 1) / 2 ^ fpBits
  exp2Frac (n * 2 ^ fpBits - v) / 2 ^ n

/-- tanh x (05 R161): x less a little for a tiny x, 1 less a little for a large one. -/
def tanhVal (x : FVal) : FVal :=
  match x with
  | .nan => .nan
  | .inf s => .fin s 1 0
  | .fin s m e =>
    if m = 0 then .fin s 0 0
    else if (Nat.log2 m : Int) + e < -60 then .fin s (m * 2 ^ 100 - 1) (e - 100)
    else if 7 ≤ (Nat.log2 m : Int) + e then .fin s (2 ^ 100 - 1) (-100)
    else
      let E := expNegFix (2 * (toFix m e).1)
      .fin s (2 * ((2 ^ fpBits - E) * 2 ^ fpBits / (2 ^ fpBits + E)) + 1) (-1 - fpBits)

/-- x / (1 + e^−x) (05 R161): past ±256 it is x less a little, or a value below every subnormal. -/
def siluVal (x : FVal) : FVal :=
  match x with
  | .nan => .nan
  | .inf s => if s then .fin true 0 0 else .inf false
  | .fin s m e =>
    if m = 0 then .fin s 0 0
    else if 8 ≤ (Nat.log2 m : Int) + e then
      if s then .fin true 1 (-1000) else .fin false (m * 2 ^ 100 - 1) (e - 100)
    else
      let E := expNegFix (toFix m e).1
      let sig := (if s then E else 2 ^ fpBits) * 2 ^ fpBits / (2 ^ fpBits + E)
      .fin s (2 * (m * sig) + 1) (e - 1 - fpBits)

/-- Exp2 of the soft-maximum stage (02 R80). -/
def softExp2 (x : BitVec 32) : BitVec 32 := roundF (exp2Val (valF x))

/-- Recip of the soft-maximum stage (02 R80): a finite magnitude of 2¹²⁶ or more gives a zero of its sign. -/
def softRecip (x : BitVec 32) : BitVec 32 :=
  let e := x.toNat / 2 ^ 23 % 2 ^ 8
  if e = 253 ∨ e = 254 then BitVec.ofNat 32 (x.toNat / 2 ^ 31 * 2 ^ 31) else roundF (recipVal (valF x))

end Sys2Proof.Machine
end

