-- ==== Sys2Proof/Machine/Span.lean ====
section
/-!
DEFINITION. The bytes that an enqueued command is going to reach, for the order of a task's accesses to the same bytes
(04 R137; 09 R296, R299): each command's, from its words, its bindings, its index tile, and the structures in memory that
it names, as they stand (log entry 46); and the virtual addresses of one byte. The layouts of KV spaces and of sequence descriptors are given here.
-/
namespace Sys2Proof.Machine

/-! ## Tiles and their rows (01 R33, R34) -/

/-- An entry of the tile table. -/
def State.tile (s : State) (i : Nat) : Tile := s.core.tiles.toList.getD i Tile.invalid

/-- The scratchpad address of row i (01 R34). -/
def Tile.rowAddr (t : Tile) (i : Nat) : Nat :=
  let q := if t.modlog = 0 then i else (t.origin.toNat + i) % 2 ^ t.modlog.toNat
  t.group.toNat * 2 ^ 17 + 16 * (t.base.toNat + t.pitch.toNat * q)

/-- The address of row i in the mapped region. -/
def Tile.rowVa (t : Tile) (i : Nat) : Nat := t.rva.toNat + i * t.rstride.toNat

/-! ## KV spaces (07 R235; 11 R353 to R355) -/

/-- A KV space. -/
structure KvSpace where
  pslot : Nat
  vfmt : Nat
  krec : Nat
  layers : Nat
  d : Nat
  heads : Nat
  pool : Nat
  nslots : Nat
  rcnt : Nat
  freeq : Nat
  tree : Nat
  deriving DecidableEq, Repr

/-- The element format of V blocks. -/
def KvSpace.vf (ks : KvSpace) : Efmt := (efmtOf (BitVec.ofNat 8 ks.vfmt) false).getD .zero

/-- KCELL, VOFF, VREC and the page size (11 R355). -/
def KvSpace.kcell (ks : KvSpace) : Nat := 64 * ((ks.krec * ks.d + 2047) / 2048)
def KvSpace.voff (ks : KvSpace) : Nat := 64 * ks.heads * ks.kcell
def KvSpace.vrec (ks : KvSpace) : Nat := ks.vf.recordLen
def KvSpace.page (ks : KvSpace) : Nat := ks.voff + 2 * ks.heads * ks.d * ks.vrec

/-- The K cell of head h and token t, and the V record of head h, channel c and block b, of a page at an address. -/
def KvSpace.cellAt (ks : KvSpace) (page h t : Nat) : Nat := page + (64 * h + t) * ks.kcell
def KvSpace.vrecAt (ks : KvSpace) (page h c b : Nat) : Nat := page + ks.voff + ((h * ks.d + c) * 2 + b) * ks.vrec

/-- A KV space from its 64 bytes, unless it raises KV_GEOMETRY (11 R353). -/
def KvSpace.ofBytes (bs : List Byte) : Option KvSpace :=
  let q (i : Nat) : Nat := fieldLE bs (8 * i) 8
  let dc := q 0 / 2 ^ 4 % 4
  let ks : KvSpace :=
    { pslot := q 0 / 2 ^ 32, vfmt := q 0 / 2 ^ 24 % 8, krec := q 0 / 2 ^ 16 % 256, layers := q 0 / 2 ^ 8 % 256 + 1,
      d := 64 * 2 ^ dc, heads := q 0 % 16 + 1, pool := q 1, nslots := q 2, rcnt := q 3, freeq := q 4, tree := q 5 }
  let reserved := q 0 / 2 ^ 27 % 32 + q 0 / 2 ^ 6 % 4 + (q 1 / 2 ^ 56 + q 3 / 2 ^ 56 + q 4 / 2 ^ 56 + q 5 / 2 ^ 56) + q 6 + q 7
  if reserved ≠ 0 ∨ dc = 3 ∨ (ks.krec ≠ 34 ∧ ks.krec ≠ 26 ∧ ks.krec ≠ 18) ∨ 6 ≤ ks.vfmt ∨ ks.pslot = 0
      ∨ ks.pslot % 4096 ≠ 0 ∨ ks.pslot < ks.page ∨ ks.pool % 4096 ≠ 0 ∨ ks.nslots = 0 ∨ 2 ^ 22 < ks.nslots
      ∨ ks.rcnt % 4 ≠ 0 ∨ ks.freeq % 64 ≠ 0 ∨ ks.tree % 64 ≠ 0 then none
  else some ks

/-! ## Heads (07 R235 to R237; 11 R359) -/

/-- A sequence descriptor. -/
structure KvHead where
  len : Nat
  plen : Nat
  npfx : Nat
  slog : Nat
  ver : Nat
  move : Bool
  prel : Nat
  slab : Nat
  ksva : Nat
  pseg : Nat
  deriving DecidableEq, Repr

/-- The slot index that means none (11 R354). -/
def noSlot : Nat := 2 ^ 32 - 1

/-- A descriptor's fields from its 64 bytes. -/
def KvHead.ofBytes (bs : List Byte) : KvHead :=
  let q (i : Nat) : Nat := fieldLE bs (8 * i) 8
  { len := q 0 % 2 ^ 32, plen := q 0 / 2 ^ 32, npfx := q 1 % 2 ^ 16, slog := q 1 / 2 ^ 32 % 16, ver := q 1 / 2 ^ 16 % 2 ^ 16,
    move := q 1 / 2 ^ 36 % 2 == 1, prel := q 2 % 2 ^ 32, slab := q 3 % 2 ^ 56, ksva := q 4 % 2 ^ 56, pseg := q 5 % 2 ^ 56 }

/-- CHOFF. -/
def childOffset (layers : Nat) : Nat := 320 + 64 * ((layers + 15) / 16)

/-- `n` numbers of `w` bytes each. -/
def numbers (w n : Nat) (bs : List Byte) : List Nat := (List.range n).map fun i => fieldLE bs (w * i) w

/-! ## Memory as it stands -/

/-- `n` bytes of one line of the context's address space, if they can be read without asking a peer. Nothing is changed. -/
def State.standingLine (s : State) (kernel : Bool) (va n : Nat) : Option (List Byte) :=
  match (s.translate kernel va .read).2 with
  | .ok pa leaf => if residency pa = 3 then none else some (s.dev.peek pa n leaf).1
  | _ => none

/-- `n` bytes, line by line. -/
def State.standing (s : State) (kernel : Bool) : Nat → Nat → Nat → Option (List Byte)
  | 0, _, _ => some []
  | fuel + 1, va, n =>
    if n = 0 then some []
    else
      let k := min n (128 - va % 128)
      match s.standingLine kernel (va % 2 ^ 64) k, s.standing kernel fuel (va + k) (n - k) with
      | some a, some b => some (a ++ b)
      | _, _ => none

/-- A number of `n` bytes. -/
def State.standingNat (s : State) (kernel : Bool) (va n : Nat) : Option Nat := (s.standing kernel (n / 128 + 2) va n).map leNat

/-! ## The names of a byte -/

/-- The valid entries of a page-table node, by their numbers (10 R340): those that memory lists, and those of lines that the block
cache holds. -/
def Device.validEntries (d : Device) (node n : Nat) : List Nat :=
  let inNode (a : Nat) : Bool := decide (node ≤ a) && decide (a < node + 8 * n)
  let listed := (d.mem.filter fun c => inNode c.1 && (c.1 - node) % 8 == 0).map fun c => (c.1 - node) / 8
  let held := (d.lines.filter fun l => inNode l.pa).flatMap fun l => (List.range 16).map fun i => (l.pa - node) / 8 + i
  (listed ++ held.filter fun i => !listed.contains i).filter fun i => decide (i < n) && (d.readEntry (node + 8 * i)).1.getLsbD 0

/-- The virtual addresses at which a table maps a physical one, from a node of the first level given. -/
def Device.names (d : Device) (pa : Nat) : Nat → Nat → List Nat → List Nat
  | _, _, [] => []
  | node, va, lvl :: rest =>
    (d.validEntries node (if lvl = 4 then 16 else 512)).flatMap fun i =>
      let e := (d.readEntry (node + 8 * i)).1
      let at_ := va + i * 2 ^ indexShift lvl
      if lvl == 0 || (lvl ≤ 2 && e.getLsbD 1) then
        if leafFrame e lvl = pa / 2 ^ pageShift lvl * 2 ^ pageShift lvl then [at_ + pa % 2 ^ pageShift lvl] else []
      else if e.getLsbD 54 then []
      else d.names pa (leafAddr e) at_ rest

/-- The other virtual addresses of the byte at one: by the page tables, by what the TLBs still hold, and by a move of KVGROW. -/
def State.otherNames (s : State) (va : Nat) : List Nat :=
  let c := s.ctx.ctl
  match s.pageAt s.ctx.asid s.ctx.root ((c.forwarded va .read).getD va) with
  | none => []
  | some (lvl, e) =>
    let pa := leafFrame e lvl + ((c.forwarded va .read).getD va) % 2 ^ pageShift lvl
    let held := ((s.core.tlb ++ s.clu.tlb).filter fun t =>
        t.asid == s.ctx.asid && leafFrame t.leaf t.level == pa / 2 ^ pageShift t.level * 2 ^ pageShift t.level).map fun t =>
      t.vpage * 2 ^ pageShift t.level + pa % 2 ^ pageShift t.level
    let all := s.dev.names pa s.ctx.root 0 [4, 3, 2, 1, 0] ++ held
    let moved := if !c.fwdAct then [] else
      (all.filter fun v => decide (c.fwdNew.toNat ≤ v) && decide (v < c.fwdNew.toNat + c.fwdSpan)).map fun v =>
        c.fwdOld.toNat + (v - c.fwdNew.toNat)
    (all ++ moved).eraseDups.filter (· != va)

/-! ## Ranges -/

/-- A range of virtual addresses meets another. -/
def hitsRange (va n lo len : Nat) : Bool := decide (lo < va + n) && decide (va < lo + len)

/-- The binding of a handle. -/
def bindingOf (binds : List Binding) (hnd : Nat) : Option Handle :=
  (binds.find? fun b => b.handle == hnd).map fun b => Handle.ofBytes b.image

/-- The region of a tile load or store meets `n` bytes at `va`: from the element it starts at, its extents cut at the
tensor's. -/
def regionMeets (c : Cmd) (h : Handle) (va n : Nat) : Bool :=
  let transposed := c.w0.getLsbD 0
  let cols := wordBits c.w1 18 12 + 1
  let rows := wordBits c.w1 30 10 + 1
  let x0 := wordBits c.w2 0 32
  let x1 := wordBits c.w2 32 32
  let (hi, rest) := mixedRadix (h.size.drop 2) c.w3.toNat
  let cut (x n s : Nat) : Nat := min n (s - x)
  let n0 := cut x0 (if transposed then rows else cols) (h.size.getD 0 1)
  let n1 := cut x1 (if transposed then cols else rows) (h.size.getD 1 1)
  rest == 0 && !h.packed
    && boxMeets h.esize va n [(n1, h.stride.getD 1 0), (n0, h.stride.getD 0 0)] (h.addrFrom h.base (x0 :: x1 :: hi))

/-- A tensor whose elements start at `base` meets `n` bytes at `va`. -/
def tensorMeets (h strides : Handle) (base va n : Nat) : Bool :=
  boxMeets h.esize va n (List.zip h.size strides.stride).reverse (base : Int)

/-- The commands of the context go on by themselves: none waits for a token, a semaphore or a commit, none for room for its signal, and
none has halted. -/
def Ctx.flowing (c : Ctx) : Bool :=
  c.cmds.all fun k => !k.uncommitted
    && (k.stage == .issued || k.stage == .moved || (k.stage == .queued && wordBits k.cmd.w0 8 6 == 0))

/-- What is to be asked of bytes that stand in memory. Where they are not known, since a peer holds them, the answer is that they lead
anywhere, as long as the commands go on by themselves (log entry 46). -/
def State.unsure (s : State) (o : Option α) (f : α → Bool) : Bool :=
  match o with
  | some a => f a
  | none => s.ctx.flowing

/-- The tensor tiles of a packed MX handle (02 R72): a record, a directory entry, or a format byte on the way to a record. -/
def State.packedMeets (s : State) (k : CmdRec) (h : Handle) (va n : Nat) : Bool :=
  let c := k.cmd
  let cols := wordBits c.w1 18 12 + 1
  let rows := wordBits c.w1 30 10 + 1
  let x0 := wordBits c.w2 0 32
  let x1 := wordBits c.w2 32 32
  let (hi, _) := mixedRadix (h.size.drop 2) c.w3.toNat
  let nx := (h.size.getD 0 1 + h.tcols - 1) / h.tcols
  let ny := (h.size.getD 1 1 + h.trows - 1) / h.trows
  let above := (hi.zip (h.size.drop 2)).foldr (fun d acc => d.1 + d.2 * acc) 0
  let tiles (x len t lim : Nat) : List Nat := ((List.range ((len + t - 1) / t + 1)).map fun i => x / t + i).filter fun i =>
    decide (i < lim) && decide (i * t < x + len)
  if h.tcols = 0 ∨ h.trows = 0 then false
  else
    (tiles x1 rows h.trows ny).any fun y => (tiles x0 cols h.tcols nx).any fun x =>
      let dir := h.tdir + 8 * (x + nx * (y + ny * above))
      hitsRange va n dir 8
        || s.unsure (s.standingNat k.kernel dir 8) fun off => hitsRange va n (h.base + off) (h.trows * (h.tcols / 32) * 34)

/-- What a test says of the handle that a command issued with; of one that has not issued, of the handle bound now, and of the one
that a BIND still to be done binds (06 R202). -/
def State.handleMeets (s : State) (k : CmdRec) (hnd : Nat) (f : Handle → Bool) : Bool :=
  if k.stage != .queued then (bindingOf k.work.binds hnd).any f
  else
    let rebound := s.ctx.cmds.any fun b =>
      b.ring != .mx && wordBits b.cmd.w0 0 8 == 0x08 && wordBits b.cmd.w1 0 10 == hnd && (b.stage == .queued || b.stage == .issued)
    (bindingOf s.ctx.binds hnd).any f
      || rebound && s.unsure (s.standing k.kernel 2 (s.ctx.ctl.htbase.toNat * 128 + 128 * hnd) 128) fun bs => f (Handle.ofBytes bs)

/-- The rows of an indexed command: while its index tile is not READY its bytes are not known, and any may be among them. -/
def State.indexMeets (s : State) (c : Cmd) (va n : Nat) : Bool :=
  let t := s.tile (wordBits c.w1 8 8)
  let rlen := wordBits c.w1 26 12 + 1
  t.state != .ready || (List.range (wordBits c.w1 16 10 + 1)).any fun i =>
    let e := s.core.spad.readLE (t.rowAddr (i / 64) + 4 * (i % 64)) 4
    let x : Int := if 2 ^ 31 ≤ e then (e : Int) - 2 ^ 32 else (e : Int)
    e != 2 ^ 31 && hitsRange va n (((wordBits c.w2 0 56 : Int) + x * signed48 (wordBits c.w3 0 48)) % 2 ^ 64).toNat rlen

/-- What belongs to a KV space (11 R353): its descriptor, pages, counts and free queue. -/
def KvSpace.meets (ks : KvSpace) (ksva va n : Nat) : Bool :=
  hitsRange va n ksva 64 || hitsRange va n ks.pool (ks.nslots * ks.pslot) || hitsRange va n ks.rcnt (4 * ks.nslots)
    || hitsRange va n ks.freeq 64

/-- A KV space in memory. -/
def State.standingSpace (s : State) (kernel : Bool) (ksva : Nat) : Option KvSpace :=
  (s.standing kernel 2 ksva 64).bind KvSpace.ofBytes

/-- The entries of a space's free queue, from the capacity and the address in its header (11 R365). -/
def State.queueMeets (s : State) (kernel : Bool) (ks : KvSpace) (va n : Nat) : Bool :=
  s.unsure (s.standing kernel 2 ks.freeq 64) fun bs => hitsRange va n (fieldLE bs 24 7) (4 * fieldLE bs 16 4)

/-- A KV space with its free queue. -/
def State.spaceMeets (s : State) (kernel : Bool) (ksva va n : Nat) : Bool :=
  s.unsure (s.standingSpace kernel ksva) fun ks => ks.meets ksva va n || s.queueMeets kernel ks va n

/-- What belongs to a sequence descriptor (11 R359): itself, its prefix segment, its slab, the slab it moves to, and its
KV space. -/
def State.headMeets (s : State) (kernel : Bool) (dva va n : Nat) : Bool :=
  hitsRange va n dva 64 || s.unsure (s.standing kernel 2 dva 64) fun bs =>
    let h := KvHead.ofBytes bs
    let page := ((s.standingSpace kernel h.ksva).map (·.pslot)).getD 0
    hitsRange va n h.pseg (4 * h.npfx) || hitsRange va n h.slab (page * 2 ^ h.slog)
      || hitsRange va n (fieldLE bs 48 7) (page * 2 ^ h.slog) || s.spaceMeets kernel h.ksva va n

/-- The brine tree below nodes, `fuel` levels of it (11 R367). -/
def State.treeMeets (s : State) (kernel : Bool) (layers va n : Nat) : Nat → List Nat → Bool
  | 0, _ => false
  | fuel + 1, nodes =>
    let size (a : Nat) : Nat := childOffset layers + 8 * 2 ^ (((s.standingNat kernel a 2).getD 0) / 2 ^ 8 % 16)
    let below (a : Nat) : List Nat :=
      ((s.standing kernel 66 (a + childOffset layers) (size a - childOffset layers)).elim [] fun bs =>
        numbers 8 (bs.length / 8) bs).filter fun e => decide (1 < e)
    !nodes.isEmpty && (nodes.any (fun a => s.unsure (s.standingNat kernel a 2) fun _ => hitsRange va n a (size a)) || s.treeMeets kernel layers va n fuel (nodes.flatMap below))

/-- The tree of the KV space that a descriptor names: no deeper than a sequence of 65,536 tokens is (07 R236). -/
def State.treeOf (s : State) (kernel : Bool) (dva va n : Nat) : Bool :=
  s.unsure ((s.standing kernel 2 dva 64).bind fun bs => s.standingSpace kernel (KvHead.ofBytes bs).ksva) fun ks =>
    s.treeMeets kernel ks.layers va n 1025 [ks.tree]

/-- What an insertion record names (07 R253): the token list, the lists of nodes and slots, and the new nodes. -/
def State.insertMeets (s : State) (kernel : Bool) (irva layers va n : Nat) : Bool :=
  hitsRange va n irva 64 || s.unsure (s.standing kernel 2 irva 64) fun bs =>
    let ne := fieldLE bs 12 2
    let nodes := fieldLE bs 24 8
    hitsRange va n (fieldLE bs 16 8 + 4 * fieldLE bs 8 4) (256 * ne) || hitsRange va n nodes (8 * ne)
      || hitsRange va n (fieldLE bs 32 8) (4 * ne * layers)
      || (List.range ne).any fun e => s.unsure (s.standingNat kernel (nodes + 8 * e) 8) fun a =>
           hitsRange va n a (childOffset layers + 64)

/-- Layers of the KV space that a descriptor names; 1 where it cannot be read. -/
def State.layersOf (s : State) (kernel : Bool) (dva : Nat) : Nat :=
  ((s.standing kernel 2 dva 64).bind fun bs => s.standingSpace kernel (KvHead.ofBytes bs).ksva).elim 1 (·.layers)

/-- An enqueued command is going to access one of the `n` bytes at `va` under this name. -/
def State.cmdMeets (s : State) (k : CmdRec) (va n : Nat) : Bool :=
  let c := k.cmd
  let a1 := wordBits c.w1 0 56
  let a2 := wordBits c.w2 0 56
  let hd (lo : Nat) (w : Word) (f : Handle → Bool) : Bool := s.handleMeets k (wordBits w lo 10) f
  let layers (dva count : Nat) : Bool := (List.range count).any fun l => s.headMeets k.kernel (dva + 64 * l) va n
  match c.w0.toNat % 256 with
  | 0x00 | 0x01 | 0x02 | 0x03 => hd 0 c.w1 fun h => if h.packed then s.packedMeets k h va n else regionMeets c h va n
  | 0x04 =>
    hd 0 c.w3 fun src => hd 16 c.w3 fun dst =>
      let own := c.w0.getLsbD 27
      !src.packed && src.fmt == dst.fmt
        && (tensorMeets src dst (if own then a2 else dst.base) va n || tensorMeets src src (if own then a1 else src.base) va n)
  | 0x05 => c.w0.getLsbD 27 && hitsRange va n a2 (wordBits c.w3 0 32)
  | 0x06 | 0x07 => s.indexMeets c va n
  | 0x08 => hitsRange va n (s.ctx.ctl.htbase.toNat * 128 + 128 * wordBits c.w1 0 10) 128
  | 0x0A => hitsRange va n a1 (128 * (wordBits c.w1 56 6 + 1))
  | 0x0C | 0x0D =>
    hitsRange va n a1 (128 * ((s.dev.blocks.filter fun b => b.asid == s.ctx.asid && b.va == a1).map (·.nl)).foldr max 1)
  | 0x0E | 0x0F => hitsRange va n a2 (wordBits c.w3 0 25) || hitsRange va n a1 (wordBits c.w3 0 25)
  | 0x11 =>
    let t := s.tile (wordBits c.w1 0 8)
    t.dirty && (List.range (t.rows.toNat + 1)).any fun i => hitsRange va n (t.rowVa i) t.width.toNat
  | 0x12 => hitsRange va n a1 (wordBits c.w2 0 32)
  | 0x40 => s.headMeets k.kernel a1 va n
  | 0x41 => s.headMeets k.kernel a1 va n
      || (s.unsure (s.standing k.kernel 2 a1 64) fun bs =>
           let h := KvHead.ofBytes bs
           hitsRange va n a2 (((s.standingSpace k.kernel h.ksva).map (·.pslot)).getD 0 * 2 ^ (h.slog + 1)))
  | 0x42 => layers a1 (wordBits c.w3 0 8 + 1)
  | 0x43 => layers a1 (wordBits c.w3 0 8 + 1) || layers a2 (wordBits c.w3 0 8 + 1)
  | 0x44 =>
    hitsRange va n a1 (4 * wordBits c.w0 32 32) || hitsRange va n (wordBits c.w3 0 56) 64
      || layers a2 (s.layersOf k.kernel a2) || s.treeOf k.kernel a2 va n
  | 0x45 =>
    s.insertMeets k.kernel a1 (s.layersOf k.kernel a2) va n || layers a2 (s.layersOf k.kernel a2)
      || s.treeOf k.kernel a2 va n
  | 0x46 =>
    if c.w0.getLsbD 27 then hitsRange va n a1 (4 * wordBits c.w0 32 32) || s.spaceMeets k.kernel a2 va n
    else layers a1 (wordBits c.w3 0 8 + 1)
  | 0x47 => hitsRange va n a1 64
  | 0x48 => hitsRange va n a2 64
  | _ => false

end Sys2Proof.Machine
end

