-- ==== Sys2Proof/Machine/Ops.lean ====
section
/-!
DEFINITION. The named operations over the state: places, registers, the live mask, taking a trap and returning from one
(08 R286 to R290), the courses of poison (13 R409 to R414), physical reads and writes, REDs, the iteration commit
(04 R126 to R128), and how an instruction of the stream ends: it retires, traps or stalls.
-/
namespace Sys2Proof.Machine

/-- What `exec` answers. -/
abbrev Outcome := Host.Outcome State Fault Refusal

/-! ## Places -/

/-- Number of the core, the context in the core and the cluster in focus (08 R285). -/
def State.coreNum (s : State) : Nat := s.here / 4
def State.ctxNum (s : State) : Nat := s.here % 4
def State.cluNum (s : State) : Nat := s.here / 64

/-- The core, as it was built, that goes by number `k`: the spare core of cluster u, which is 168 + u, once it has taken the number
(13 R427). Its arrays' records are its own (13 R423). -/
def ClusterSt.hwCore (c : ClusterSt) (k : Nat) : Nat := if c.spared == some (k % 16) then 168 + k / 16 else k

/-- Every context, core and cluster, those in focus in their places. -/
def State.allCtxs (s : State) : List Ctx := s.ctxs.set s.here s.ctx
def State.allCores (s : State) : List CoreSt := s.cores.set s.coreNum s.core
def State.allClus (s : State) : List ClusterSt := s.clus.set s.cluNum s.clu

/-- Bring another place into focus; the images it leaves are parked. -/
def State.focus (s : State) (p : Nat) : State :=
  if p = s.here then s
  else
    let cs := s.allCtxs
    let ks := s.allCores
    let us := s.allClus
    { s with here := p, ctx := cs.getD p Ctx.vacant, core := ks.getD (p / 4) CoreSt.blank,
             clu := us.getD (p / 64) ClusterSt.blank, ctxs := cs.set p Ctx.vacant,
             cores := ks.set (p / 4) CoreSt.blank, clus := us.set (p / 64) ClusterSt.blank }

/-- A change made at another place. -/
def State.atPlace (s : State) (p : Nat) (f : State → State) : State := (f (s.focus p)).focus s.here

/-- The slices of the block cache that serve the place in focus: those of its partition's clusters (10 R328). -/
def State.cap (s : State) : Slices := slicesOf s.allClus s.clu.part

/-- A turn put at the end of the agenda. -/
def State.queue (s : State) (t : Turn) : State := { s with turns := s.turns ++ [t] }

/-- A step of its own left to do at the place in focus, once. -/
def State.later (s : State) (e : Ev) : State := if s.turns.contains (.own s.here e) then s else s.queue (.own s.here e)

/-- A fresh value of the counter of free values. -/
def State.bump (s : State) : State := { s with tick := s.tick + 1 }

/-! ## Registers -/

/-- s[n]: s0 reads as zero (01 R20). -/
def Ctx.reg (c : Ctx) (n : BitVec 5) : Word := if n = 0 then 0 else c.regs.get n.toFin

/-- The poison bit of s[n]: s0's is clear (01 R20). -/
def Ctx.regPoison (c : Ctx) (n : BitVec 5) : Bool := n != 0 && c.pois.getLsbD n.toNat

/-- A bit of a word set or cleared. -/
def putBit {w : Nat} (x : BitVec w) (k : Nat) (b : Bool) : BitVec w :=
  if b then x ||| BitVec.ofNat w (2 ^ k) else x &&& ~~~(BitVec.ofNat w (2 ^ k))

/-- s[n] := v with its poison; a write to s0 is discarded, including its poison (01 R20). -/
def Ctx.setReg (c : Ctx) (n : BitVec 5) (v : Word) (p : Bool) : Ctx :=
  if n = 0 then c
  else { c with regs := c.regs.set n.toNat v n.isLt, pois := putBit c.pois n.toNat p,
                lastLoad := c.lastLoad.filter fun x => x.1 != n.toNat }

def State.reg (s : State) (n : BitVec 5) : Word := s.ctx.reg n
def State.regPoison (s : State) (n : BitVec 5) : Bool := s.ctx.regPoison n
def State.setReg (s : State) (n : BitVec 5) (v : Word) (p : Bool) : State := { s with ctx := s.ctx.setReg n v p }

/-- The program counter moved. -/
def State.setPc (s : State) (pc : Word) : State := { s with ctx := { s.ctx with pc := pc } }

/-- The context's state changed (01 R18). -/
def State.setStatus (s : State) (st : CtxStatus) : State := { s with ctx := { s.ctx with status := st } }

/-- The control registers changed. -/
def State.setCtl (s : State) (f : Ctl → Ctl) : State := { s with ctx := { s.ctx with ctl := f s.ctx.ctl } }

/-- The loop unit changed. -/
def State.setLoop (s : State) (f : LoopUnit → LoopUnit) : State := { s with ctx := { s.ctx with loop := f s.ctx.loop } }

/-- Kernel mode (01 R19). -/
def State.kernel (s : State) : Bool := s.ctx.ctl.kernel

/-- A ring of the context. -/
def Ctx.ring (c : Ctx) : Ring → RingSt
  | .ri => c.ri
  | .ro => c.ro
  | .mx => c.mx

/-- A ring changed. -/
def Ctx.setRing (c : Ctx) (r : Ring) (x : RingSt) : Ctx :=
  match r with
  | .ri => { c with ri := x }
  | .ro => { c with ro := x }
  | .mx => { c with mx := x }

def State.ring (s : State) (r : Ring) : RingSt := s.ctx.ring r
def State.updRing (s : State) (r : Ring) (f : RingSt → RingSt) : State := { s with ctx := s.ctx.setRing r (f (s.ctx.ring r)) }

/-- The number of a ring: 0 RI, 1 RO, 2 MX (03 R97). -/
def ringCode : Ring → Nat
  | .ri => 0
  | .ro => 1
  | .mx => 2

/-- The innermost open level is a LOOP.S (04 R122: at most one is, and it is the innermost). -/
def State.inLoopS (s : State) : Bool := s.ctx.loop.levels.any (·.isS)

/-- A LOOP.S level is open and the context is in task mode: stores are held, the iteration is not committed (04 R128). -/
def State.holding (s : State) : Bool := s.inLoopS && !s.kernel

/-- The place runs a prologue (12 R396). -/
def State.onWorker (s : State) : Bool := decide (640 ≤ s.here)

/-! ## Cause codes (08 R291, 04 R147, 06 R232) -/

def causeIllegalOpcode : BitVec 10 := 0x001
def causeIllegalField : BitVec 10 := 0x002
def causeIllegalGroup : BitVec 10 := 0x003
def causeGroupRange : BitVec 10 := 0x004
def causePrivileged : BitVec 10 := 0x005
def causeMisalignedPc : BitVec 10 := 0x006
def causeIllegalCsr : BitVec 10 := 0x007
def causePoisonConsumed : BitVec 10 := 0x180
def causeMisalignedData : BitVec 10 := 0x181
def causeAtomRegion : BitVec 10 := 0x182
def causeLoopNest : BitVec 10 := 0x260
def causeLoopStoreOverflow : BitVec 10 := 0x261
def causeLoopAtom : BitVec 10 := 0x262
def causeSafePointOverdue : BitVec 10 := 0x380

/-! ## How an instruction of the stream ends -/

/-- An instruction that does not retire: it traps with a cause, an information field and TVAL in a state that keeps
what stays done (08 R287), or it stalls. -/
inductive Stop where
  | trap (s : State) (cause : BitVec 10) (info : BitVec 22) (tval : Word)
  | stall (s : State)

/-- The course of an instruction of the stream. -/
abbrev Course := Except Stop State

/-- The instruction word as TVAL (03 R92, 04 R147). -/
def State.irVal (s : State) : Word := s.ir.setWidth 64

/-- The information of a trap on a lane of a VATOM: the lane number stands above the cause's own (05 R186). -/
def laneInfo (lane : Nat) (info : BitVec 22) : BitVec 22 := BitVec.ofNat 22 (lane * 2 ^ 16 + info.toNat % 2 ^ 16)

/-- A trap whose TVAL is the instruction word. -/
def State.trapWord (s : State) (cause : BitVec 10) (info : Nat) : Except Stop α :=
  .error (.trap s cause (BitVec.ofNat 22 info) s.irVal)

/-- A trap with a TVAL of its own. -/
def State.trapVal (s : State) (cause : BitVec 10) (info : Nat) (v : Word) : Except Stop α :=
  .error (.trap s cause (BitVec.ofNat 22 info) v)

/-- POISON_CONSUMED when a register is poisoned (01 R22). -/
def State.needClean (s : State) (n : BitVec 5) : Except Stop Unit :=
  if s.regPoison n then s.trapWord causePoisonConsumed n.toNat else .ok ()

/-! ## Physical reads and writes -/

/-- A read within one line: the state after it, the bytes, poison. -/
def State.readPhys (s : State) (pa n : Nat) (leaf : BitVec 64) : State × List Byte × Bool :=
  let (d, bs, p) := s.dev.readLine s.cap pa n leaf
  ({ s with dev := d }, bs, p)

/-- A load of the scalar pipe within one line: through the core's scalar data cache (10 R330). -/
def State.loadPhys (s : State) (pa n : Nat) (leaf : BitVec 64) : State × List Byte × Bool :=
  let (d, bs, p) := s.dev.loadLine s.coreNum s.cap pa n leaf
  ({ s with dev := d }, bs, p)

/-- A write to a queue descriptor: that of a BOUND queue is reported to the sluice, and the next scan looks at every queue
(12 R382). -/
def State.reportKick (s : State) (pa : Nat) : State :=
  if s.dev.inQueueTable pa then
    let q := (pa - s.dev.cfg.qtbase.toNat) / 64
    let s1 := if s.dev.sluice.queues.any fun x => x.q == q && x.state == .bound then s.later (.kickReport q) else s
    s1.later .queueScan
  else s

/-- A write of bytes; one that finds its pool memory gone is dropped and entered as an error of kind 3 (14 R444). -/
def State.writePhys (s : State) (pa : Nat) (bs : List Byte) (leaf : BitVec 64) (p : Bool) (va : Word) : State :=
  if s.dev.poolGone pa then s.errorEntry 3 va
  else { s with dev := s.dev.writeSpan s.cap leaf p bs.length pa bs }.reportKick pa

/-- A doubleword read through the context's address space with task-mode rights, if it can be read and is clean. -/
def State.readDword (s : State) (va : Nat) : State × Option Word :=
  match s.translate false va .read with
  | (s1, .ok pa leaf) =>
    let (s2, bs, p) := s1.readPhys pa 8 leaf
    (s2, if p then none else some (BitVec.ofNat 64 (leNat bs)))
  | (s1, _) => (s1, none)

/-- LMTBASE + 8k (08 R277). -/
def State.liveMaskVa (s : State) (k : Nat) : Nat := s.ctx.ctl.lmtbase.toNat * 8 + 8 * k

/-- Live-mask entry k: SMASK and VMASK, if it can be read (08 R277). -/
def State.liveMask (s : State) (k : Nat) : State × Option (BitVec 32 × BitVec 8) :=
  match s.readDword (s.liveMaskVa k) with
  | (s1, some w) => (s1, some (w.extractLsb' 0 32, w.extractLsb' 32 8))
  | (s1, none) => (s1, none)

/-! ## Ends of a task -/

/-- Completion statuses (12 R388). -/
def stDone : BitVec 8 := 0x01
def stEmpty : BitVec 8 := 0x02
def stCancelled : BitVec 8 := 0x03
def stAdmitRefused : BitVec 8 := 0x04
def stCountRange : BitVec 8 := 0x05
def stBadPacket : BitVec 8 := 0x06
def stTaskFailed : BitVec 8 := 0x07
def stPoisoned : BitVec 8 := 0x08
def stPrologueFault : BitVec 8 := 0x09
def stNoFit : BitVec 8 := 0x0A
def stMemoryError : BitVec 8 := 0x0B
def stResumeRefused : BitVec 8 := 0x0C
def stPrivilege : BitVec 8 := 0x0D

/-- Issue stops and the task ends: TASK_END does the rest (08 R273, R288; 13 R410). -/
def State.killTask (s : State) (status : BitVec 8) (cause : BitVec 10) (info : BitVec 22) (addr : Word) : State :=
  ({ s with ctx := { s.ctx with status := .stalled, ending := some (.killed status cause info addr) } }).later .taskEnd

/-! ## Poison consumed in task mode (13 R409 to R414) -/

/-- The iteration's commands of a ring that have issued, from the ring's write count at the checkpoint on: they are the
first of them, so RPTR has passed them and no other (13 R414). -/
def RingSt.issuedSince (x : RingSt) (w : BitVec 16) : BitVec 16 := if (x.rptr - w).toNat < 2 ^ 15 then x.rptr - w else 0

/-- Step 2 of a rollback (13 R414): what the iteration enqueued and has not issued is withdrawn, each write pointer
falls to the checkpoint plus what has issued, and no signal of the iteration fires. -/
def State.withdraw (s : State) : State :=
  match s.ctx.loop.ckpt with
  | none => s
  | some k =>
    let ring (r : Ring) (w : BitVec 16) (x : RingSt) : RingSt :=
      let gone := s.ctx.cmds.any fun c => c.ring == r && c.uncommitted && c.stage == .queued && c.count == x.rptr
      { x with wptr := w + x.issuedSince w,
               popped := if gone then none else x.popped, headPast2 := if gone then false else x.headPast2 }
    let cmds := (s.ctx.cmds.filter fun c => !(c.uncommitted && c.stage == .queued)).map fun c =>
      if c.uncommitted then { c with dropSignal := true } else c
    { s with ctx := { s.ctx with cmds := cmds, ri := ring .ri k.riW s.ctx.ri, ro := ring .ro k.roW s.ctx.ro,
                                 mx := ring .mx k.mxW s.ctx.mx } }

/-- A rollback begins: the consuming instruction has no effect, steps 1 and 2 are made, and the loop unit waits for the
iteration's issued commands (13 R414). -/
def State.beginRollback (s : State) : State :=
  ((s.withdraw.setStatus .stalled).setLoop fun l => { l with rolling := true }).later .rollbackResume

/-- A task killed by poison: the first failure, and an entry of kind 3 when the register consumed was last written by a
load of a poisoned line (13 R410). -/
def State.poisonKill (s : State) (info : BitVec 22) : State :=
  let s1 :=
    match s.ctx.lastLoad.find? fun x => x.1 == info.toNat with
    | some x => s.errorEntry 3 x.2
    | none => s
  s1.killTask stPoisoned causePoisonConsumed info s.ctx.pc

/-- POISON_CONSUMED by the stream in task mode (13 R409). -/
def State.poisonCourse (s : State) (info : BitVec 22) : State :=
  if s.inLoopS && !s.ctx.loop.unrecoverable && !s.ctx.loop.retried then s.beginRollback else s.poisonKill info

/-! ## Traps -/

/-- LIVEM's masks as of a trap (08 R285): those of the entry of the last SAFEPT, or all ones if it cannot be read. -/
def State.captureLive (s : State) : State :=
  if s.ctx.ctl.lmValid then
    match s.liveMask s.ctx.ctl.lmIdx.toNat with
    | (s1, some (sm, vm)) => s1.setCtl fun c => { c with lmSmask := sm, lmVmask := vm }
    | (s1, none) => s1.setCtl fun c => { c with lmSmask := BitVec.allOnes 32, lmVmask := BitVec.allOnes 8 }
  else s

/-- TVEC as an address. -/
def State.tvecAddr (s : State) : Word := s.ctx.ctl.tvec.setWidth 64 <<< 2

/-- Trap entry (08 R287): TCAUSE, TVAL, TPC and LIVEM are set, the mode becomes kernel, and the PC goes to TVEC. -/
def State.enterTrap (s : State) (cause : BitVec 10) (info : BitVec 22) (tval tpc : Word) : State :=
  let s1 := s.captureLive
  let s2 := s1.setCtl fun c =>
    { c with tcode := cause, tinfo := info, tval := tval, tpc := tpc.extractLsb' 2 62, kernel := true }
  { s2 with ctx := { s2.ctx with status := .active, pc := s2.tvecAddr } }

/-- Taking a trap, with the address TPC gets (08 R286 to R288; 13 R409, R421; 12 R398): a prologue ends; a trap in kernel
mode, or with TVEC 0, ends the task; poison in task mode takes its own course; else the trap is entered. -/
def State.takeTrapAt (s : State) (cause : BitVec 10) (info : BitVec 22) (tval tpc : Word) : State :=
  if s.onWorker then s.killTask stPrologueFault cause info s.ctx.pc
  else if s.kernel then
    s.killTask (if cause = causePoisonConsumed then stPoisoned else stTaskFailed) cause info s.ctx.pc
  else if cause = causePoisonConsumed then s.poisonCourse info
  else if s.ctx.ctl.tvec = 0 then s.killTask stTaskFailed cause info s.ctx.pc
  else s.enterTrap cause info tval tpc

/-- An instruction issued is counted: in task mode from the last safe point (01 R56), on a worker for the prologue
(12 R398). -/
def State.countIssue (s : State) : State :=
  if s.kernel then s
  else
    let job := s.ctx.job.map fun j => { j with issued := j.issued + if j.prologue then 1 else 0 }
    { s with ctx := { s.ctx with sinceSafe := s.ctx.sinceSafe + 1, job := job } }

/-- Taking a trap of the instruction at PC (08 R286), which has issued. -/
def State.takeTrap (s : State) (cause : BitVec 10) (info : BitVec 22) (tval : Word) : State :=
  s.countIssue.takeTrapAt cause info tval s.ctx.pc

/-- Return from a trap (08 R289): task mode, and the PC from TPC. -/
def State.returnFromTrap (s : State) : State :=
  (s.setCtl fun c => { c with kernel := false }).setPc (s.ctx.ctl.tpc.setWidth 64 <<< 2)

/-- The ring whose engine fault is delivered next: RI, then RO, then MX (06 R198). -/
def Ctx.pendingFault (c : Ctx) : Option Ring :=
  if c.ri.pend then some .ri else if c.ro.pend then some .ro else if c.mx.pend then some .mx else none

/-- Deliver a ring's engine fault as a trap of the context (06 R198); with TVEC 0 the task ends (08 R288). -/
def State.deliverFault (s : State) (r : Ring) : State :=
  let x := s.ring r
  let info := BitVec.ofNat 22 (ringCode r * 2 ^ 20 + x.fsIdx.toNat)
  let tval : Word := match r with
    | .mx => 0
    | _ => x.fa.setWidth 64
  let s1 := s.updRing r fun y => { y with pend := false }
  if s.ctx.ctl.tvec = 0 then s1.killTask stTaskFailed x.fsCause info s.ctx.pc
  else s1.enterTrap x.fsCause info tval s.ctx.pc

/-! ## Stalling -/

/-- The context halts for a pre-emption (13 R417), its moves on the crossbar complete; `k` is the live-mask entry of the SAFEPT it halts at (08 R276). -/
def State.halt (s : State) (k : Option (BitVec 12)) : State :=
  ({ s with ctx := { s.ctx with status := .halted, haltIdx := k, ctl := { s.ctx.ctl with xc := 0 } } }).later .haltComplete

/-- A context that cannot issue its next instruction (01 R18, 06 R198, 13 R417): in task mode a pending engine fault is
delivered there, or a pending pre-emption halts it outside LOOP.S; else it is STALLED until its turn comes again. A VATOM
in flight has issued, so no fault is delivered at it. -/
def State.stallOn (s : State) : State :=
  if s.kernel then s.setStatus .stalled
  else
    match (if s.ctx.vatom.isSome then none else s.ctx.pendingFault) with
    | some r => s.deliverFault r
    | none => if s.ctx.ctl.preq && !s.inLoopS then s.halt none else s.setStatus .stalled

/-! ## REDs and atomics at their place -/

/-- A `w`-bit value as a signed integer. -/
def toSigned (w v : Nat) : Int := if 2 ^ (w - 1) ≤ v % 2 ^ w then ((v % 2 ^ w : Nat) : Int) - 2 ^ w else ((v % 2 ^ w : Nat) : Int)

/-- An integer as a `w`-bit pattern. -/
def ofSigned (w : Nat) (i : Int) : Nat := (i % 2 ^ w).toNat

/-- The new value at the location (04 R141). -/
def atomNew (op : AtomOp) (w old opnd nw : Nat) : Nat :=
  match op with
  | .swap => opnd
  | .cas => if old = opnd then nw else old
  | .add => (old + opnd) % 2 ^ w
  | .and => old &&& opnd
  | .or => old ||| opnd
  | .xor => old ^^^ opnd
  | .min => if toSigned w opnd < toSigned w old then opnd else old
  | .max => if toSigned w old < toSigned w opnd then opnd else old
  | .minn => if opnd < old then opnd else old
  | .maxn => if old < opnd then opnd else old
  | .fadd => fmtF32.round .nearestEven .arith ((fmtF32.decode old).add false (fmtF32.decode opnd))

/-- The op code of an atomic in a packet (03 R95, 14 R449). -/
def AtomOp.code : AtomOp → BitVec 4
  | .swap => 0
  | .cas => 1
  | .add => 2
  | .and => 3
  | .or => 4
  | .xor => 5
  | .min => 6
  | .max => 7
  | .minn => 8
  | .maxn => 9
  | .fadd => 10

/-- Read, compute and write as one action at a location (04 R142, R145): the state after it, the old value, and whether
the line was poisoned, in which case nothing is written. A write by a poisoned operand poisons the line. -/
def State.atomAt (s : State) (op : AtomOp) (pa size : Nat) (leaf : BitVec 64) (opnd nw : Nat) (pOpnd pNw : Bool)
    (va : Word) : State × Nat × Bool :=
  let n := 2 ^ size
  let (s1, bs, p) := s.readPhys pa n leaf
  let old := leNat bs
  if p then (s1, old, true)
  else
    let w := 8 * n
    let o := opnd % 2 ^ w
    if op = .cas ∧ old ≠ o ∧ !pOpnd then (s1, old, false)
    else
      let new := if op = .cas ∧ pOpnd then nw % 2 ^ w else atomNew op w old o (nw % 2 ^ w)
      (s1.writePhys pa (leBytes n new) leaf (pOpnd || pNw) va, old, false)

/-- The newest request of the context given its place among the accesses posted, counted from 1. -/
def State.placeRequest (s : State) (seq : Nat) : State :=
  { s with ctx := { s.ctx with peer := s.ctx.peer.modify (s.ctx.peer.length - 1) fun w => { w with seq := seq + 1 } } }

/-- The packet that takes a posted access to the peer that holds its place (14 R448, R449). -/
def Posted.packet (r : Posted) : GPacket :=
  let g : GPacket := match r.op with
    | none => { gBlank with type := gWrite }
    | some o => { gBlank with
        type := if r.vlane then gAtom else gRed, op := o.code, size := BitVec.ofNat 2 r.size, scope := r.scope }
  { g with len := BitVec.ofNat 9 (2 ^ r.size), off := peerOff r.pa, status := if r.poison then 3 else 0,
           payload := leBytes (2 ^ r.size) r.data.toNat }

/-- A posted access that goes to a peer can be sent now (14 R451). -/
def State.maySend (s : State) (r : Posted) : Bool :=
  residency r.pa != 3 || s.dev.peerGone (peerOf r.pa) || s.dev.maySend (peerOf r.pa) r.cls r.packet

/-- A posted access performs (04 R135, R144, R145): at its location, or as a packet to the peer that holds it (14 R448).
What cannot be done is entered as an error of the launch (04 R144, 14 R456). -/
def State.performPosted (s : State) (r : Posted) : State :=
  if residency r.pa = 3 then
    if s.dev.peerGone (peerOf r.pa) then s.errorEntry (if r.op.isSome && !r.vlane then 1 else 3) r.va
    else (s.requestAt (peerOf r.pa) r.cls 3 r.packet r.va).1.placeRequest r.seq
  else
    match r.op with
    | none => s.writePhys r.pa (leBytes (2 ^ r.size) r.data.toNat) r.leaf r.poison r.va
    | some o =>
      let (s1, _, p) := s.atomAt o r.pa r.size r.leaf r.data.toNat 0 r.poison false r.va
      if p then s1.errorEntry 3 r.va else s1

/-! ## Order in the context (06 R194, 09 R298 to R301) -/

/-- Commands with memory accesses still to perform, which take a place in the order of their class: every rake, KV and
prefix command but UNBIND, BWAIT, MIGRATE, MARK and FILL with M = 0, which make none (06 R209, R211, R214, R217). -/
def CmdRec.hasAccesses (c : CmdRec) : Bool :=
  let o := c.cmd.w0.toNat % 256
  (c.stage == .queued || c.stage == .issued || c.stage == .halted || c.stage == .deferred) && (c.ring != .mx || o == 0x48)
    && o != 0x09 && o != 0x0B && o != 0x10 && o != 0x13 && (o != 0x05 || c.cmd.w0.getLsbD 27)

/-- CLASS of a command's accesses (03 R98, 09 R293). -/
def CmdRec.cls (c : CmdRec) : BitVec 4 := c.cmd.w0.extractLsb' 20 4

/-- SCOPE of a command (03 R98). -/
def CmdRec.scope (c : CmdRec) : BitVec 3 := c.cmd.w0.extractLsb' 24 3

/-- A set of classes with one member. -/
def oneClass (c : BitVec 4) : BitVec 16 := BitVec.ofNat 16 (2 ^ c.toNat)

/-- Commands enqueued before place `before`, in the classes of `mask`, whose accesses have not all performed (06 R194,
09 R298); those of a halted ring are among them. -/
def Ctx.olderCmds (c : Ctx) (mask : BitVec 16) (before : Nat) : List CmdRec :=
  c.cmds.filter fun k => k.hasAccesses && decide (k.seq < before) && mask.getLsbD k.cls.toNat

/-- Writes and REDs sent to peers, in the classes of `mask`, that no acknowledgement has answered (14 R454); of those that
were posted, the ones before place `posts`. -/
def Ctx.unacked (c : Ctx) (mask : BitVec 16) (posts : Nat) : Bool :=
  c.peer.any fun w => w.kind == 3 && w.data.isNone && mask.getLsbD w.cls.toNat && decide (w.seq ≤ posts)

/-- Two accesses touch a common byte. -/
def Posted.touches (p : Posted) (pa n : Nat) : Bool := decide (p.pa < pa + n) && decide (pa < p.pa + 2 ^ p.size)

/-- A command enqueued before place `before` has an access to one of these bytes still to make (04 R137, 09 R296, R299). -/
def State.touching (s : State) (before va n : Nat) : Bool :=
  let older := s.ctx.cmds.filter fun k => k.hasAccesses && decide (k.seq < before)
  !older.isEmpty && (older.any (fun k => s.cmdMeets k va n)
    || (s.otherNames va).any fun v => older.any fun k => s.cmdMeets k v n)

/-- A posted access may perform: the earlier accesses of its class have (09 R298), those of every class for a release
(09 R301), and every earlier access to its bytes (04 R137); one to a peer can be sent (14 R451), and one to a pool module has a
head to go to (14 R447). `earlier` are those posted
before it and still pending: stores that an iteration holds are not among them, also where a handler's store comes after them
(04 R131; log entry 76). -/
def State.mayPerform (s : State) (earlier : List Posted) (r : Posted) : Bool :=
  let mask := if r.rel then BitVec.allOnes 16 else oneClass r.cls
  (s.ctx.olderCmds mask r.before).isEmpty && !s.ctx.unacked mask r.seq && !s.touching r.before r.va.toNat (2 ^ r.size)
    && s.maySend r && !s.dev.headless r.pa && earlier.all fun e => !r.rel && e.cls != r.cls && !e.touches r.pa (2 ^ r.size)

/-- Every posted access that may perform does, in program order. -/
def State.drain (s : State) : State :=
  s.ctx.posted.foldl
    (fun x r =>
      if x.mayPerform x.ctx.posted r then x.performPosted r
      else { x with ctx := { x.ctx with posted := x.ctx.posted ++ [r] } })
    { s with ctx := { s.ctx with posted := [] } }

/-- An access retires and performs as soon as it may. -/
def State.post (s : State) (r : Posted) : State := { s with ctx := { s.ctx with posted := s.ctx.posted ++ [r] } }

/-- The next place among the accesses that the context posts. -/
def State.nextPost (s : State) : State := { s with ctx := { s.ctx with postSeq := s.ctx.postSeq + 1 } }

/-- The accesses of the context in the classes of `mask` that stand before a place in program order have performed: those
of the first `before` commands, and of the first `posts` accesses posted. An access has performed here once it has done so
at every scope, so an order asked for at a narrower scope is met too (log entry 63). -/
def State.quietTo (s : State) (mask : BitVec 16) (before posts : Nat) : Bool :=
  (s.ctx.olderCmds mask before).isEmpty && !s.ctx.unacked mask posts
    && s.ctx.posted.all fun r => !mask.getLsbD r.cls.toNat || decide (posts ≤ r.seq)

/-- The earlier accesses of the context in the classes of `mask` have performed. -/
def State.quiet (s : State) (mask : BitVec 16) (before : Nat) : Bool := s.quietTo mask before s.ctx.postSeq

/-- A read, or an atomic, has to wait: an earlier access of its class, or one to its bytes, has not performed (06 R194,
09 R298, 04 R137). -/
def State.classBlocked (s : State) (cls : BitVec 4) (va : Word) (pa n : Nat) : Bool :=
  !s.quiet (oneClass cls) s.ctx.cmdSeq || s.touching s.ctx.cmdSeq va.toNat n
    || s.ctx.posted.any fun r => r.touches pa n

/-! ## Tokens and semaphores (01 R43 to R46) -/

/-- A semaphore selector's unit (01 R45, R46). -/
inductive Selector where
  | none
  | fifo (k : Nat)
  | sem (k : Nat)
  | psem (k : Nat)
  | bad
  deriving DecidableEq, Repr

/-- What a selector names (03 R102, 01 R43). -/
def selectorOf (v : Nat) : Selector :=
  if v = 0 then .none
  else if v ≤ 10 then .fifo (v - 1)
  else if v < 16 then .bad
  else if v < 48 then .sem (v - 16)
  else .psem (v - 48)

def State.fifoCount (s : State) (k : Nat) : Nat := s.ctx.fifos.toList.getD k 0
def State.semVal (s : State) (k : Nat) : Nat := (s.core.sems.toList.getD k 0).toNat
def State.psemVal (s : State) (k : Nat) : Nat := (s.clu.psems.toList.getD k 0).toNat

def State.setFifo (s : State) (k n : Nat) : State := { s with ctx := { s.ctx with fifos := updAt s.ctx.fifos k fun _ => n } }
def State.setSem (s : State) (k n : Nat) : State := { s with core := { s.core with sems := updAt s.core.sems k fun _ => BitVec.ofNat 16 n } }
def State.setPsem (s : State) (k n : Nat) : State := { s with clu := { s.clu with psems := updAt s.clu.psems k fun _ => BitVec.ofNat 16 n } }

/-- A wait taken, if it can be: a token popped or a semaphore decremented, as one action (01 R44). -/
def State.take (s : State) (sel : Selector) : Option (State × Option Take) :=
  match sel with
  | .fifo k => if s.fifoCount k = 0 then none else some (s.setFifo k (s.fifoCount k - 1), some (.fifo k))
  | .sem k => if s.semVal k = 0 then none else some (s.setSem k (s.semVal k - 1), some (.sem k))
  | .psem k => if s.psemVal k = 0 then none else some (s.setPsem k (s.psemVal k - 1), some (.psem k))
  | _ => some (s, none)

/-- What a signal does (01 R44, R46): done; held by a FIFO of 8 or more; past 0xFFFF. -/
inductive Signalled where
  | done (s : State)
  | full
  | overflow

/-- A signal given: a token pushed or a semaphore incremented (01 R44, R46). -/
def State.give (s : State) (sel : Selector) : Signalled :=
  match sel with
  | .fifo k => if 8 ≤ s.fifoCount k then .full else .done (s.setFifo k (s.fifoCount k + 1))
  | .sem k => if s.semVal k = 0xFFFF then .overflow else .done (s.setSem k (s.semVal k + 1))
  | .psem k => if s.psemVal k = 0xFFFF then .overflow else .done (s.setPsem k (s.psemVal k + 1))
  | _ => .done s

/-- A wait given back: never refused; a semaphore stays at 0xFFFF (13 R413). -/
def State.giveBack (s : State) (t : Take) : State :=
  match t with
  | .fifo k => s.setFifo k (s.fifoCount k + 1)
  | .sem k => s.setSem k (min 0xFFFF (s.semVal k + 1))
  | .psem k => s.setPsem k (min 0xFFFF (s.psemVal k + 1))

/-- The task's pond-1 group has more than one member: PONDID.P1N (01 R52). -/
def State.inGroup (s : State) : Bool := s.ctx.ctl.pondid.extractLsb' 6 6 != 0

/-! ## The iteration commit (04 R126 to R128) -/

/-- A checkpoint of the context (13 R411). -/
def Ctx.checkpoint (c : Ctx) : Checkpoint :=
  { regs := c.regs, pois := c.pois, masks := c.masks, sg := c.sg, vrb := c.ctl.vrb, levels := c.loop.levels,
    fmode := c.ctl.fmode, vqfmt := c.ctl.vqfmt, enqst := c.ctl.enqst, riW := c.ri.wptr, roW := c.ro.wptr,
    mxW := c.mx.wptr, lastLoad := c.lastLoad }

/-- The iteration's checkpoint taken, with an empty journal and nothing taken yet (13 R411, R413, R414). -/
def State.takeCheckpoint (s : State) : State :=
  s.setLoop fun l => { l with ckpt := some s.ctx.checkpoint, journal := [], unrecoverable := false, retried := false,
                              taken := [] }

/-- The scratchpad address of the slot that a write count names (01 R39). -/
def RingSt.slotAddr (x : RingSt) (idx : BitVec 16) : Nat := 32 * x.base.toNat + 32 * (idx.toNat % 2 ^ x.log.toNat)

/-- The command in a slot (01 R39). -/
def State.slotCmd (s : State) (r : Ring) (idx : BitVec 16) : Cmd :=
  let w (k : Nat) := BitVec.ofNat 64 (s.core.spad.readLE ((s.ring r).slotAddr idx + 8 * k) 8)
  { w0 := w 0, w1 := w 1, w2 := w 2, w3 := w 3 }

/-- A command of which nothing has been done. -/
def CmdWork.none : CmdWork := { targets := [], readers := [], progress := 0, words := [], elems := [], log := [], binds := [] }

/-- A command put at its place in program order. -/
def insertCmd (k : CmdRec) : List CmdRec → List CmdRec
  | [] => [k]
  | x :: t => if k.seq < x.seq then k :: x :: t else x :: insertCmd k t

/-- A command becomes visible to its ring (06 R189, 04 R128): it stands at WPTR, which advances. -/
def State.publish (s : State) (r : Ring) (kernel uncommitted : Bool) (seq : Nat) : State :=
  let w := (s.ring r).wptr
  let k : CmdRec := { ring := r, count := w, cmd := s.slotCmd r w, kernel := kernel, uncommitted := uncommitted,
                      dropSignal := false, seq := seq, stage := .queued, work := CmdWork.none }
  ({ s with ctx := { s.ctx with cmds := insertCmd k s.ctx.cmds } }.updRing r fun x => { x with wptr := w + 1 }).queue
    (.engine s.here r)

/-- One held entry released (04 R128): a store or RED is posted, a command becomes visible to its ring. -/
def State.releaseEntry (s : State) (h : Held) : State :=
  match h with
  | .post r => s.post r
  | .roCommand seq => s.publish .ro false false seq
  | _ => s

/-- Entries that the commit leaves to be carried out when what is before them has performed (08 R268, R279). -/
def Held.waits : Held → Bool
  | .toks _ _ _ | .sems _ _ _ _ | .fence _ _ _ => true
  | _ => false

/-- A push or an increment that the commit leaves to be performed. -/
def Held.pushes : Held → Bool
  | .toks _ _ _ | .sems _ _ _ _ => true
  | _ => false

/-- An increment past 0xFFFF, whose trap is to come. -/
def Held.overflows : Held → Bool
  | .overflow _ _ => true
  | _ => false

/-- CommitIteration (04 R126, R128; 13 R412): held entries are released in program order, the iteration's commands are
committed, and the commit is a safe point (01 R56). -/
def State.commitIteration (s : State) : State :=
  let held := s.ctx.loop.held
  let s1 := (held.foldl (fun x h => x.releaseEntry h) s).drain
  let cmds := s1.ctx.cmds.map fun c => { c with uncommitted := false }
  let s2 := { s1 with ctx := { s1.ctx with cmds := cmds, sinceSafe := 0 } }
  s2.setLoop fun l => { l with held := [], heldRo := 0, ckpt := none, journal := [], unrecoverable := false,
                               retried := false, taken := [], release := l.release ++ held.filter Held.waits }

/-- sg0's physical predicate set (04 R126): the one VRB names. -/
def State.setSg0 (s : State) (b : Bool) : State :=
  { s with ctx := { s.ctx with sg := putBit s.ctx.sg s.ctx.ctl.vrb.toNat b } }

/-- The open levels changed. -/
def State.setLevels (s : State) (ls : List Level) : State := s.setLoop fun l => { l with levels := ls }

/-- The end of a body whose last word is at `e` (04 R126); levels that share their last word end together. -/
def State.endOfBody : Nat → Word → State → State
  | 0, e, s => s.setPc (e + 4)
  | k + 1, e, s =>
    let next (x : State) : State :=
      match x.ctx.loop.levels with
      | lv :: _ => if lv.stop = e then State.endOfBody k e x else x.setPc (e + 4)
      | [] => x.setPc (e + 4)
    match s.ctx.loop.levels with
    | [] => s.setPc (e + 4)
    | lv :: rest =>
      if lv.isS then
        let s1 := s.commitIteration
        let vrb := BitVec.ofNat 4 ((s1.ctx.ctl.vrb.toNat + (2 ^ lv.rlog - 1)) % 2 ^ lv.rlog)
        let s2 := s1.setCtl fun c => { c with vrb := vrb }
        if lv.count ≠ 0 then
          (((s2.setSg0 true).setLevels ({ lv with count := lv.count - 1, iter := lv.iter + 1 } :: rest)).takeCheckpoint).setPc
            lv.start
        else if lv.epi ≠ 0 then
          (((s2.setSg0 false).setLevels ({ lv with epi := lv.epi - 1, iter := lv.iter + 1 } :: rest)).takeCheckpoint).setPc
            lv.start
        else next ((s2.setLevels rest).setCtl fun c => { c with vrb := 0 })
      else if lv.count ≠ 0 then
        (s.setLevels ({ lv with count := lv.count - 1, iter := lv.iter + 1 } :: rest)).setPc lv.start
      else next (s.setLevels rest)

/-- Close the levels that a taken branch to `target` leaves (04 R127): a LOOP.S commits first, without rotation. -/
def State.leaveLevels (target : Word) : Nat → State → State
  | 0, s => s
  | k + 1, s =>
    match s.ctx.loop.levels with
    | [] => s
    | lv :: rest =>
      let outer := (lv :: rest).any fun l => decide (target < l.start) || decide (l.stop < target)
      if !outer then s
      else if lv.isS then
        State.leaveLevels target k ((s.commitIteration.setLevels rest).setCtl fun c => { c with vrb := 0 })
      else State.leaveLevels target k (s.setLevels rest)

/-- What carrying out the rest of a commit comes to. -/
inductive Released where
  | done (s : State)
  | wait (s : State)
  | overflow (s : State) (word : InstrWord) (sel : BitVec 6)

/-- The entries that a commit left, changed. -/
def State.setRelease (s : State) (f : List Held → List Held) : State := s.setLoop fun l => { l with release := f l.release }

/-- The pushes and increments that a commit left, in program order (08 R268): each waits for the accesses before it, a push also for
room; an increment past 0xFFFF leaves the semaphore, and its trap for the end of the commit. Whether all are made. -/
def State.carryPushes : Nat → State → State × Bool
  | 0, s => (s, false)
  | k + 1, s =>
    match s.ctx.loop.release.find? Held.pushes with
    | none => (s, true)
    | some h =>
      let pop (x : State) : State := x.setRelease fun l => l.erase h
      match h with
      | .toks sel before posts =>
        if !s.quietTo 0xFFFF before posts then (s, false)
        else
          match s.give (selectorOf sel.toNat) with
          | .done s1 => State.carryPushes k (pop s1)
          | _ => (s, false)
      | .sems sel word before posts =>
        if !s.quietTo 0xFFFF before posts then (s, false)
        else
          match s.give (selectorOf sel.toNat) with
          | .done s1 => State.carryPushes k (pop s1)
          | .full => (s, false)
          | .overflow => State.carryPushes k ((pop s).setRelease fun l => l ++ [.overflow sel word])
      | _ => (s, false)

/-- What a FENCE of the iteration orders has performed (08 R279): the released entries, and the earlier accesses of the classes it
covers. Commands that the iteration enqueued behind it on another ring than RO are neither. -/
def State.fencePassed (s : State) (h : Held) : Bool :=
  match h with
  | .fence mask _ before =>
    !s.ctx.unacked mask s.ctx.postSeq && (s.ctx.posted.all fun r => !mask.getLsbD r.cls.toNat)
      && (s.ctx.olderCmds mask s.ctx.cmdSeq).all fun k => decide (before ≤ k.seq) && (k.ring != .ro || k.kernel)
  | _ => true

/-- Carry out what a commit left (08 R268, R279): the pushes and increments, which no FENCE of the iteration holds back; then the
fences take effect; then the overflows trap, one after the other. -/
def State.carryRelease (s : State) : Released :=
  match s.drain.carryPushes 256 with
  | (s1, false) => .wait s1
  | (s1, true) =>
    if !s1.ctx.loop.release.all s1.fencePassed then .wait s1
    else
      match s1.ctx.loop.release.filter Held.overflows with
      | .overflow sel word :: rest => .overflow (s1.setRelease fun _ => rest) word sel
      | _ => .done (s1.setRelease fun _ => [])

def causeSemOverflow : BitVec 10 := 0x214

/-- A safe point reached in task mode (01 R56, 06 R198, 13 R417): a pending engine fault is delivered; else a pending
pre-emption halts the context. -/
def State.safePoint (s : State) : State :=
  match s.ctx.pendingFault with
  | some r => s.deliverFault r
  | none => if s.ctx.ctl.preq then s.halt none else s

/-- After a commit: its waiting entries are carried out as far as they can be, then the commit is a safe point. -/
def State.afterCommit (s : State) : State :=
  match s.carryRelease with
  | .done s1 => s1.safePoint
  | .wait s1 => s1.stallOn
  | .overflow s1 word sel => s1.takeTrapAt causeSemOverflow (sel.setWidth 22) (word.setWidth 64) s1.ctx.pc

/-! ## Retiring -/

/-- The word at PC is the last of the innermost open body, in task mode (04 R126, R131). -/
def State.atBodyEnd (s : State) : Bool :=
  !s.kernel &&
    match s.ctx.loop.levels with
    | lv :: _ => lv.stop == s.ctx.pc
    | [] => false

/-- An instruction that completes without a taken branch: the PC moves on, or the body ends (03 R84, 04 R126). -/
def State.retire (s : State) : State :=
  let s1 := s.countIssue
  if s1.atBodyEnd then
    let wasS := s1.inLoopS
    let s2 := State.endOfBody 5 s1.ctx.pc s1
    if wasS then s2.afterCommit else s2
  else s1.setPc (s1.ctx.pc + 4)

/-- A taken branch or jump (04 R127): the levels it leaves close, then the PC is its target. -/
def State.jump (s : State) (target : Word) (closes : Bool) : State :=
  let s1 := s.countIssue
  if closes && !s1.kernel then
    let wasS := s1.inLoopS
    let s2 := (State.leaveLevels target 5 s1).setPc target
    if wasS && !s2.inLoopS then s2.afterCommit else s2
  else s1.setPc target

/-- The end of an instruction whose course is known: it retires, traps or stalls. -/
def finish (c : Course) : Outcome :=
  match c with
  | .ok s => .next s.retire
  | .error (.trap s cause info tval) => .next (s.takeTrap cause info tval)
  | .error (.stall s) => .next s.stallOn

/-- The end of an instruction that has set the PC itself. -/
def finishAt (c : Course) : Outcome :=
  match c with
  | .ok s => .next s
  | .error (.trap s cause info tval) => .next (s.takeTrap cause info tval)
  | .error (.stall s) => .next s.stallOn

end Sys2Proof.Machine
end

