-- ==== Sys2Proof/Machine/Operands.lean ====
section
/-!
DEFINITION. Operand forms of the stream: integers of a type (04 R109), immediates (03 R88), effective addresses
(04 R133), and the register fields of vector instructions.
-/
namespace Sys2Proof.Machine

/-- The width of type field T.W (04 R109). -/
def intWidth (w : BitVec 2) : Nat := 8 * 2 ^ w.toNat

/-- The low `n` bits of a register as an operand: two's complement when T.U = 0, unsigned when T.U = 1 (04 R109). -/
def intOperand (n : Nat) (u : BitVec 1) (v : Word) : Int :=
  if u = 0 then toSigned n v.toNat else ((v.toNat % 2 ^ n : Nat) : Int)

/-- Limits of an integer type (02 R58). -/
def intMin (n : Nat) (u : BitVec 1) : Int := if u = 0 then -(2 ^ (n - 1)) else 0
def intMax (n : Nat) (u : BitVec 1) : Int := if u = 0 then 2 ^ (n - 1) - 1 else 2 ^ n - 1

/-- A value brought into the range of its type (02 R58). -/
def clampInt (n : Nat) (u : BitVec 1) (x : Int) : Int :=
  if x < intMin n u then intMin n u else if intMax n u < x then intMax n u else x

/-- The low `n` bits of a result, widened to a register (04 R109). -/
def widen (n : Nat) (u : BitVec 1) (x : Int) : Word :=
  if u = 0 then BitVec.ofInt 64 (toSigned n (ofSigned n x)) else BitVec.ofNat 64 (ofSigned n x)

/-- A signed field of a word (03 R88). -/
def signed {n : Nat} (f : BitVec n) : Word := f.signExtend 64

/-- The target of a relative branch: `off` words from the PC (04 R118, R119). -/
def State.relTarget {n : Nat} (s : State) (off : BitVec n) : Word := s.ctx.pc + (signed off <<< 2)

/-- The address of a MEM operand (04 R133): the offset is an unsigned count of elements (03 R88). -/
def State.memAddr (s : State) (a : BitVec 5) (z : BitVec 2) (o : BitVec 10) : Word :=
  s.reg a + (o.setWidth 64 <<< z.toNat)

/-- The address of a MEM-X operand (04 R133). -/
def State.memXAddr (s : State) (a b : BitVec 5) (z : BitVec 2) : Word := s.reg a + (s.reg b <<< z.toNat)

/-- POISON_CONSUMED with the lower number when either register is poisoned (04 R118, R135). -/
def State.needClean2 (s : State) (a b : BitVec 5) : Except Stop Unit :=
  if s.regPoison a && (!s.regPoison b || decide (a ≤ b)) then s.trapWord causePoisonConsumed a.toNat
  else s.needClean b

end Sys2Proof.Machine
end

