-- ==== Sys2Proof/Machine/Flags.lean ====
section
/-!
DEFINITION. Conditions. The RN960 has no status flags: a comparison writes a register (04 R116) and a branch compares
two registers (04 R118); the poison of a result stands beside its value (01 R22, 04 R111).
-/
namespace Sys2Proof.Machine

/-- The conditions of CMP (04 R116), on the operands of R109. -/
inductive CmpCond where
  | eq | ne | lt | le | gt | ge
  deriving DecidableEq, Repr

/-- Whether a CMP condition holds. -/
def CmpCond.holds (c : CmpCond) (x y : Int) : Bool :=
  match c with
  | .eq => decide (x = y)
  | .ne => decide (x ≠ y)
  | .lt => decide (x < y)
  | .le => decide (x ≤ y)
  | .gt => decide (y < x)
  | .ge => decide (y ≤ x)

/-- The conditions of BR (03 R95, 04 R118). -/
inductive BrCond where
  | eq | ne | lt | ge | ltn | gen | tst | tstz
  deriving DecidableEq, Repr

/-- Whether a branch condition holds on all 64 bits. -/
def BrCond.holds (c : BrCond) (x y : Word) : Bool :=
  match c with
  | .eq => x == y
  | .ne => x != y
  | .lt => x.slt y
  | .ge => !x.slt y
  | .ltn => x.ult y
  | .gen => !x.ult y
  | .tst => x &&& y != 0
  | .tstz => x &&& y == 0

/-- The poison of a result that reads two registers (04 R111). -/
def State.poison2 (s : State) (a b : BitVec 5) : Bool := s.regPoison a || s.regPoison b

end Sys2Proof.Machine
end

