-- ==== Sys2Proof/Machine/LoadStore.lean ====
section
/-!
DEFINITION. Scalar loads and stores (04 R133 to R139) and the accesses they share with the other instructions of the
stream: translation with its traps, reads with the forwarding of held stores (04 R129), and posted writes.
-/
namespace Sys2Proof.Machine

/-- An access of the stream translated (10 R343): a fault traps with TVAL the address; a migrating node or page makes
the context wait. -/
def State.access (s : State) (va : Word) (k : Kind) : Except Stop (State × Nat × BitVec 64) :=
  match s.translate s.kernel va.toNat k with
  | (s1, .ok pa leaf) => .ok (s1, pa, leaf)
  | (s1, .fault c info) => .error (.trap s1 c info va)
  | (s1, .busy _) =>
    .error (.stall { s1 with ctx := { s1.ctx with
      busy := some { ring := none, lane := none, va := va, kind := k.code, kernel := s.kernel, cmd := 0, fa := 0, cursor := [] } } })
  | (s1, .migrating _ _) => .error (.stall s1)

/-- The address of an access of 2^z bytes is a multiple of its size (04 R134). -/
def State.aligned (s : State) (va : Word) (z : Nat) : Except Stop Unit :=
  if va.toNat % 2 ^ z = 0 then .ok () else s.trapVal causeMisalignedData z va

/-- One byte with the held stores of the task laid over it, oldest first (04 R129). -/
def overlayByte (held : List Held) (pa : Nat) (b : Byte) : Byte :=
  held.foldl
    (fun x h =>
      match h with
      | .post p =>
        if p.op.isNone && decide (p.pa ≤ pa) && decide (pa < p.pa + 2 ^ p.size) then
          (leBytes (2 ^ p.size) p.data.toNat).getD (pa - p.pa) x
        else x
      | _ => x) b

/-- A held store of poisoned data gives the bytes read from it its poison (04 R129, R138). -/
def overlayPoison (held : List Held) (pa n : Nat) : Bool :=
  held.any fun h =>
    match h with
    | .post p => p.op.isNone && p.poison && p.touches pa n
    | _ => false

/-- The STATUS of a CAS request whose new value is poisoned and whose compare value is not; 3 says that the operand, or the
compare value, is (04 R145): what a request's STATUS says is the model's own (log entry 48). -/
def gNewPoisoned : BitVec 3 := 2

/-- A peer's answer to the request of the stream at a physical address: asked once the request may go (14 R451), and taken
once it is there; until then the context waits. An answer with a status other than OK is poison (14 R449, R456, R457). -/
def State.peerAnswer (s : State) (kind dst pa : Nat) (cls : BitVec 4) (g : GPacket) :
    Except Stop (State × List Byte × BitVec 3) :=
  match s.ctx.peer.find? fun w => w.kind == kind && w.key == pa with
  | none => .error (.stall (if s.dev.maySend dst cls g then (s.request dst cls kind g).1 else s))
  | some w =>
    match w.data with
    | none => .error (.stall s)
    | some bs => .ok ({ s with ctx := { s.ctx with peer := s.ctx.peer.filter fun x => x.tag != w.tag } }, bs, w.status)

/-- A read of peer memory (14 R448). -/
def State.peerRead (s : State) (pa n : Nat) (cls : BitVec 4) (scope : BitVec 3) : Except Stop (State × List Byte × Bool) :=
  if s.dev.peerGone (peerOf pa) then .ok (s.bump, leBytes n (Config.freeWord s.tick).toNat, true)
  else
    match s.peerAnswer 0 (peerOf pa) pa cls { gBlank with
        type := gRead, off := peerOff pa, rlen := BitVec.ofNat 9 n, scope := scope } with
    | .error e => .error e
    | .ok (s1, bs, st) =>
      if bs.length = n then .ok (s1, bs, st != 0)
      else .ok (s1.bump, leBytes n (Config.freeWord s1.tick).toNat, true)

/-- The bytes at a physical address as the stream reads them, through the core's scalar data cache (04 R129, R135, R137):
after the accesses it has to follow, with the held stores laid over. -/
def State.streamRead (s : State) (va : Word) (pa n : Nat) (leaf : BitVec 64) (cls : BitVec 4) (scope : BitVec 3) :
    Except Stop (State × List Byte × Bool) :=
  let s1 := s.drain
  if s1.classBlocked cls va pa n then .error (.stall s1)
  else
    match (if residency pa = 3 then s1.peerRead pa n cls scope
           else
             let (s2, bs, p) := s1.loadPhys pa n leaf
             .ok (s2, bs, p)) with
    | .error e => .error e
    | .ok (s2, bs, p) =>
      let held := s2.ctx.loop.held
      .ok (s2, bs.zipIdx.map (fun x => overlayByte held (pa + x.2) x.1), p || overlayPoison held pa n)

/-- A loaded value extended to a register (04 R133). -/
def extendLoad (sext : Bool) (n : Nat) (bs : List Byte) : Word :=
  if sext then BitVec.ofInt 64 (toSigned (8 * n) (leNat bs)) else BitVec.ofNat 64 (leNat bs)

/-- s[d] := a loaded value; a poisoned one is remembered with its address (13 R410). -/
def State.setLoaded (s : State) (d : BitVec 5) (v : Word) (p : Bool) (va : Word) : State :=
  let s1 := s.setReg d v p
  if p && d != 0 then { s1 with ctx := { s1.ctx with lastLoad := (d.toNat, va) :: s1.ctx.lastLoad } } else s1

/-- A load (04 R135). -/
def State.load (s : State) (d : BitVec 5) (va : Word) (z : BitVec 2) (c : BitVec 4) (scope : BitVec 3) (sext : Bool) :
    Course := do
  s.aligned va z.toNat
  let (s1, pa, leaf) ← s.access va .read
  let n := 2 ^ z.toNat
  let (s2, bs, p) ← s1.streamRead va pa n leaf c scope
  pure (s2.setLoaded d (extendLoad sext n bs) p va)

/-- Entries the iteration store buffer holds (04 R128): TOKS, SEMS and FENCE take none (08 R268, R279). -/
def LoopUnit.storeCount (l : LoopUnit) : Nat := (l.held.filter fun h => !h.waits).length

/-- Room in the iteration store buffer (04 R128). -/
def State.holdOrTrap (s : State) : Except Stop Unit :=
  if s.holding && decide (64 ≤ s.ctx.loop.storeCount) then s.trapWord causeLoopStoreOverflow 64 else .ok ()

/-- An entry put at the end of the iteration store buffer. -/
def State.hold (s : State) (h : Held) : State := s.setLoop fun l => { l with held := l.held ++ [h] }

/-- A translated store or RED: held inside LOOP.S, else posted (04 R128, R144); one to a peer that cannot be sent stalls the
instruction (14 R451). -/
def State.holdOrPost (s : State) (r : Posted) : Course :=
  if s.holding then .ok (s.hold (.post r)).nextPost
  else if s.maySend r then .ok (s.post r).nextPost
  else .error (.stall s.drain)

/-- A store (04 R135, R138). -/
def State.store (s : State) (d : BitVec 5) (va : Word) (z : BitVec 2) (c : BitVec 4) (scope : BitVec 3) (rel : Bool) :
    Course := do
  s.aligned va z.toNat
  s.holdOrTrap
  let (s1, pa, leaf) ← s.access va .write
  let s2 ← s1.holdOrPost { pa := pa, leaf := leaf, va := va, size := z.toNat, op := none, data := s1.reg d,
                           poison := s1.regPoison d, cls := c, scope := scope, vlane := false, rel := rel,
                           before := s1.ctx.cmdSeq, seq := s1.ctx.postSeq }
  pure s2.drain

/-- Scope codes (03 R95). -/
def scopeContext : BitVec 3 := 0
def scopeDevice : BitVec 3 := 3
def scopePool : BitVec 3 := 4

/-- A MEM load: its base must be clean (04 R135). -/
def State.loadMem (s : State) (d a : BitVec 5) (c : BitVec 4) (z : BitVec 2) (o : BitVec 10) (scope : BitVec 3)
    (sext : Bool) : Course :=
  match s.needClean a with
  | .error e => .error e
  | .ok _ => s.load d (s.memAddr a z o) z c scope sext

/-- A MEM store. -/
def State.storeMem (s : State) (d a : BitVec 5) (c : BitVec 4) (z : BitVec 2) (o : BitVec 10) (scope : BitVec 3)
    (rel : Bool) : Course :=
  match s.needClean a with
  | .error e => .error e
  | .ok _ => s.store d (s.memAddr a z o) z c scope rel

/-- A MEM-X load: base and index must be clean (04 R135). -/
def State.loadMemX (s : State) (d a : BitVec 5) (c : BitVec 4) (z : BitVec 2) (b : BitVec 5) (sext : Bool) : Course :=
  match s.needClean2 a b with
  | .error e => .error e
  | .ok _ => s.load d (s.memXAddr a b z) z c scopeContext sext

/-- LD.N (04 R133). -/
def execLdN (d a : BitVec 5) (c : BitVec 4) (z : BitVec 2) (o : BitVec 10) (s : State) : Outcome :=
  finish (s.loadMem d a c z o scopeContext false)

/-- LD.I (04 R133). -/
def execLdI (d a : BitVec 5) (c : BitVec 4) (z : BitVec 2) (o : BitVec 10) (s : State) : Outcome :=
  finish (s.loadMem d a c z o scopeContext true)

/-- ST (04 R133). -/
def execSt (d a : BitVec 5) (c : BitVec 4) (z : BitVec 2) (o : BitVec 10) (s : State) : Outcome :=
  finish (s.storeMem d a c z o scopeContext false)

/-- LDX.N (04 R133). -/
def execLdxN (d a : BitVec 5) (c : BitVec 4) (z : BitVec 2) (b : BitVec 5) (s : State) : Outcome :=
  finish (s.loadMemX d a c z b false)

/-- LDX.I (04 R133). -/
def execLdxI (d a : BitVec 5) (c : BitVec 4) (z : BitVec 2) (b : BitVec 5) (s : State) : Outcome :=
  finish (s.loadMemX d a c z b true)

/-- STX (04 R133). -/
def execStx (d a : BitVec 5) (c : BitVec 4) (z : BitVec 2) (b : BitVec 5) (s : State) : Outcome :=
  finish
    (match s.needClean2 a b with
     | .error e => .error e
     | .ok _ => s.store d (s.memXAddr a b z) z c scopeContext false)

/-- LD.ACQ: the stream makes no later access before the load has performed (04 R136). -/
def execLdAcq (d a : BitVec 5) (c : BitVec 4) (z : BitVec 2) (o : BitVec 10) (s : State) : Outcome :=
  finish (s.loadMem d a c z o scopeDevice false)

/-- ST.REL: the store performs after every earlier access of the task (04 R136). -/
def execStRel (d a : BitVec 5) (c : BitVec 4) (z : BitVec 2) (o : BitVec 10) (s : State) : Outcome :=
  finish (s.storeMem d a c z o scopeDevice true)

end Sys2Proof.Machine
end

