-- ==== Sys2Proof/Machine/Atomic.lean ====
section
/-!
DEFINITION. Scalar atomics and REDs (04 R140 to R146).
-/
namespace Sys2Proof.Machine

/-- An atomic on a page of this kind is executed somewhere (04 R143): not in host memory, not in an SF region, and in a
BI region only with a block cache. -/
def State.atomicHome (s : State) (pa : Nat) (leaf : BitVec 64) : Bool :=
  match residency pa with
  | 0 | 1 | 3 => true
  | 2 => leafPmode leaf == 0 && !s.cap.isEmpty
  | _ => false

/-- The tests and the translation of an atomic, up to its home (04 R142). -/
def State.atomAccess (s : State) (a : BitVec 5) (size : Nat) (ret : Bool) :
    Except Stop (State × Nat × BitVec 64) := do
  s.needClean a
  let va := s.reg a
  s.aligned va size
  if ret && s.holding then s.trapWord causeLoopAtom 0
  let (s1, pa, leaf) ← s.access va .atomic
  if s1.atomicHome pa leaf then pure (s1, pa, leaf) else s1.trapVal causeAtomRegion (residency pa) va

/-- A returning atomic at its home, after the accesses it follows: those of its class, and with .rel all (04 R146). -/
def State.atomValue (s : State) (op : AtomOp) (pa size : Nat) (leaf : BitVec 64) (d a : BitVec 5) (c : BitVec 4)
    (scope : BitVec 3) (rel : Bool) : Except Stop (State × Nat × Bool) :=
  let s1 := s.drain
  let n := 2 ^ size
  let nw := s1.reg (d + 1)
  if s1.classBlocked c (s1.reg a) pa n || (rel && !s1.quiet (BitVec.allOnes 16) s1.ctx.cmdSeq) then .error (.stall s1)
  else if residency pa = 3 then
    if s1.dev.peerGone (peerOf pa) then .ok (s1.bump, (Config.freeWord s1.tick).toNat % 2 ^ (8 * n), true)
    else
      match s1.peerAnswer 1 (peerOf pa) pa c { gBlank with
          type := gAtom, ret := true, op := op.code, size := BitVec.ofNat 2 size, off := peerOff pa, scope := scope,
          len := BitVec.ofNat 9 (if op = .cas then 2 * n else n),
          status := if s1.regPoison d then 3 else if op == .cas && s1.regPoison (d + 1) then gNewPoisoned else 0,
          payload := leBytes n (s1.reg d).toNat ++ if op = .cas then leBytes n nw.toNat else [] } with
      | .error e => .error e
      | .ok (s2, bs, st) =>
        if bs.length = n then .ok (s2, leNat bs, st != 0)
        else .ok (s2.bump, (Config.freeWord s2.tick).toNat % 2 ^ (8 * n), true)
  else
    .ok (s1.atomAt op pa size leaf (s1.reg d).toNat nw.toNat (s1.regPoison d) (op == .cas && s1.regPoison (d + 1)) (s1.reg a))

/-- ATOM (04 R142): the old value goes to s[d], poisoned if the line was. -/
def State.atom (s : State) (op : AtomOp) (sext : Bool) (d a : BitVec 5) (c : BitVec 4) (size : Nat) (p : BitVec 3)
    (r : BitVec 2) : Course := do
  let (s1, pa, leaf) ← s.atomAccess a size true
  let (s2, old, poisoned) ← s1.atomValue op pa size leaf d a c p (r.getLsbD 1)
  let w := 8 * 2 ^ size
  pure (s2.setReg d (if sext then BitVec.ofInt 64 (toSigned w old) else BitVec.ofNat 64 old) poisoned)

/-- RED (04 R142, R144): held inside LOOP.S, else retired with its performing left to RED_PERFORM. -/
def State.red (s : State) (op : AtomOp) (d a : BitVec 5) (c : BitVec 4) (size : Nat) (p : BitVec 3) (r : BitVec 1) :
    Course := do
  let (s1, pa, leaf) ← s.atomAccess a size false
  s1.holdOrTrap
  let s2 ← s1.holdOrPost { pa := pa, leaf := leaf, va := s1.reg a, size := size, op := some op, data := s1.reg d,
                           poison := s1.regPoison d, cls := c, scope := p, vlane := false, rel := r == 1,
                           before := s1.ctx.cmdSeq, seq := s1.ctx.postSeq }
  pure (if s.holding then s2 else s2.later .redPerform)

/-- The size code of a one-bit size field: 2 or 3 (03 R95). -/
def atomSize (z : BitVec 1) : Nat := 2 + z.toNat

/-- ATOM.SWAP (04 R141, R142). -/
def execAtomSwap (d a : BitVec 5) (c : BitVec 4) (z : BitVec 1) (p : BitVec 3) (r : BitVec 2) (s : State) : Outcome :=
  finish (s.atom .swap false d a c (atomSize z) p r)

/-- ATOM.CAS: d names a pair, so it is even (04 R140, R141). -/
def execAtomCas (d a : BitVec 5) (c : BitVec 4) (z : BitVec 1) (p : BitVec 3) (r : BitVec 2) (s : State) : Outcome :=
  if d.toNat % 2 = 1 then finish (s.trapWord causeIllegalGroup d.toNat)
  else finish (s.atom .cas false d a c (atomSize z) p r)

/-- ATOM.ADD (04 R141, R142). -/
def execAtomAdd (d a : BitVec 5) (c : BitVec 4) (z : BitVec 1) (p : BitVec 3) (r : BitVec 2) (s : State) : Outcome :=
  finish (s.atom .add false d a c (atomSize z) p r)

/-- ATOM.AND (04 R141, R142). -/
def execAtomAnd (d a : BitVec 5) (c : BitVec 4) (z : BitVec 1) (p : BitVec 3) (r : BitVec 2) (s : State) : Outcome :=
  finish (s.atom .and false d a c (atomSize z) p r)

/-- ATOM.OR (04 R141, R142). -/
def execAtomOr (d a : BitVec 5) (c : BitVec 4) (z : BitVec 1) (p : BitVec 3) (r : BitVec 2) (s : State) : Outcome :=
  finish (s.atom .or false d a c (atomSize z) p r)

/-- ATOM.XOR (04 R141, R142). -/
def execAtomXor (d a : BitVec 5) (c : BitVec 4) (z : BitVec 1) (p : BitVec 3) (r : BitVec 2) (s : State) : Outcome :=
  finish (s.atom .xor false d a c (atomSize z) p r)

/-- ATOM.MIN (04 R141, R142). -/
def execAtomMin (d a : BitVec 5) (c : BitVec 4) (z : BitVec 1) (p : BitVec 3) (r : BitVec 2) (s : State) : Outcome :=
  finish (s.atom .min true d a c (atomSize z) p r)

/-- ATOM.MAX (04 R141, R142). -/
def execAtomMax (d a : BitVec 5) (c : BitVec 4) (z : BitVec 1) (p : BitVec 3) (r : BitVec 2) (s : State) : Outcome :=
  finish (s.atom .max true d a c (atomSize z) p r)

/-- ATOM.MINN (04 R141, R142). -/
def execAtomMinn (d a : BitVec 5) (c : BitVec 4) (z : BitVec 1) (p : BitVec 3) (r : BitVec 2) (s : State) : Outcome :=
  finish (s.atom .minn false d a c (atomSize z) p r)

/-- ATOM.MAXN (04 R141, R142). -/
def execAtomMaxn (d a : BitVec 5) (c : BitVec 4) (z : BitVec 1) (p : BitVec 3) (r : BitVec 2) (s : State) : Outcome :=
  finish (s.atom .maxn false d a c (atomSize z) p r)

/-- ATOM.FADD: binary32 (04 R141). -/
def execAtomFadd (d a : BitVec 5) (c : BitVec 4) (p : BitVec 3) (r : BitVec 2) (s : State) : Outcome :=
  finish (s.atom .fadd false d a c 2 p r)

/-- RED.ADD (04 R141, R144). -/
def execRedAdd (d a : BitVec 5) (c : BitVec 4) (z : BitVec 1) (p : BitVec 3) (r : BitVec 1) (s : State) : Outcome :=
  finish (s.red .add d a c (atomSize z) p r)

/-- RED.AND (04 R141, R144). -/
def execRedAnd (d a : BitVec 5) (c : BitVec 4) (z : BitVec 1) (p : BitVec 3) (r : BitVec 1) (s : State) : Outcome :=
  finish (s.red .and d a c (atomSize z) p r)

/-- RED.OR (04 R141, R144). -/
def execRedOr (d a : BitVec 5) (c : BitVec 4) (z : BitVec 1) (p : BitVec 3) (r : BitVec 1) (s : State) : Outcome :=
  finish (s.red .or d a c (atomSize z) p r)

/-- RED.XOR (04 R141, R144). -/
def execRedXor (d a : BitVec 5) (c : BitVec 4) (z : BitVec 1) (p : BitVec 3) (r : BitVec 1) (s : State) : Outcome :=
  finish (s.red .xor d a c (atomSize z) p r)

/-- RED.MIN (04 R141, R144). -/
def execRedMin (d a : BitVec 5) (c : BitVec 4) (z : BitVec 1) (p : BitVec 3) (r : BitVec 1) (s : State) : Outcome :=
  finish (s.red .min d a c (atomSize z) p r)

/-- RED.MAX (04 R141, R144). -/
def execRedMax (d a : BitVec 5) (c : BitVec 4) (z : BitVec 1) (p : BitVec 3) (r : BitVec 1) (s : State) : Outcome :=
  finish (s.red .max d a c (atomSize z) p r)

/-- RED.MINN (04 R141, R144). -/
def execRedMinn (d a : BitVec 5) (c : BitVec 4) (z : BitVec 1) (p : BitVec 3) (r : BitVec 1) (s : State) : Outcome :=
  finish (s.red .minn d a c (atomSize z) p r)

/-- RED.MAXN (04 R141, R144). -/
def execRedMaxn (d a : BitVec 5) (c : BitVec 4) (z : BitVec 1) (p : BitVec 3) (r : BitVec 1) (s : State) : Outcome :=
  finish (s.red .maxn d a c (atomSize z) p r)

/-- RED.FADD: binary32 (04 R141, R144). -/
def execRedFadd (d a : BitVec 5) (c : BitVec 4) (p : BitVec 3) (r : BitVec 1) (s : State) : Outcome :=
  finish (s.red .fadd d a c 2 p r)

/-- RED_PERFORM (04 R144): what the context has posted performs, in its class order. -/
def execRedPerform (s : State) : Outcome := .next s.drain

end Sys2Proof.Machine
end

