-- ==== Sys2Proof/Machine/Branch.lean ====
section
/-!
DEFINITION. Branches, jumps and the loop instructions (04 R118 to R127).
-/
namespace Sys2Proof.Machine

/-- The next word's address. -/
def State.link (s : State) : Word := s.ctx.pc + 4

/-- A conditional branch (04 R118): POISON_CONSUMED for a poisoned operand, else the target or the next word. -/
def State.branch (s : State) (c : BrCond) (a b : BitVec 5) (o : BitVec 13) : Outcome :=
  match s.needClean2 a b with
  | .error e => finish (.error e)
  | .ok _ => if c.holds (s.reg a) (s.reg b) then .next (s.jump (s.relTarget o) true) else finish (.ok s)

/-- BEQ (04 R118). -/
def execBeq (a b : BitVec 5) (o : BitVec 13) (s : State) : Outcome := s.branch .eq a b o

/-- BNE (04 R118). -/
def execBne (a b : BitVec 5) (o : BitVec 13) (s : State) : Outcome := s.branch .ne a b o

/-- BLT (04 R118). -/
def execBlt (a b : BitVec 5) (o : BitVec 13) (s : State) : Outcome := s.branch .lt a b o

/-- BGE (04 R118). -/
def execBge (a b : BitVec 5) (o : BitVec 13) (s : State) : Outcome := s.branch .ge a b o

/-- BLTN: unsigned (04 R118). -/
def execBltn (a b : BitVec 5) (o : BitVec 13) (s : State) : Outcome := s.branch .ltn a b o

/-- BGEN: unsigned (04 R118). -/
def execBgen (a b : BitVec 5) (o : BitVec 13) (s : State) : Outcome := s.branch .gen a b o

/-- BTST (04 R118). -/
def execBtst (a b : BitVec 5) (o : BitVec 13) (s : State) : Outcome := s.branch .tst a b o

/-- BTSTZ (04 R118). -/
def execBtstz (a b : BitVec 5) (o : BitVec 13) (s : State) : Outcome := s.branch .tstz a b o

/-- J (04 R119). -/
def execJ (o : BitVec 26) (s : State) : Outcome := .next (s.jump (s.relTarget o) true)

/-- JL: s31 gets the next word's address, clean; it closes no loop level (04 R119, R127). -/
def execJl (o : BitVec 26) (s : State) : Outcome := .next ((s.setReg 31 s.link false).jump (s.relTarget o) false)

/-- The target of JR and JLR: clean and a multiple of 4 (04 R120). -/
def State.target (s : State) (a : BitVec 5) : Except Stop Word :=
  match s.needClean a with
  | .error e => .error e
  | .ok _ => if (s.reg a).toNat % 4 = 0 then .ok (s.reg a) else s.trapVal causeMisalignedPc 0 (s.reg a)

/-- JR (04 R120). -/
def execJr (a : BitVec 5) (s : State) : Outcome :=
  match s.target a with
  | .error e => finish (.error e)
  | .ok t => .next (s.jump t true)

/-- JLR: the target is read before s[d] is written (04 R120); it closes no loop level (04 R127). -/
def execJlr (d a : BitVec 5) (s : State) : Outcome :=
  match s.target a with
  | .error e => finish (.error e)
  | .ok t => .next ((s.setReg d s.link false).jump t false)

/-- Open levels (04 R123). -/
def State.depth (s : State) : Nat := s.ctx.loop.levels.length

/-- The address of a body's last word (04 R122). -/
def State.bodyEnd (s : State) (l : BitVec 12) : Word := s.ctx.pc + (l.setWidth 64 <<< 2)

/-- The body would extend past the innermost open level's end; with none open there is no bound (04 R124). -/
def State.pastInnermost (s : State) (l : BitVec 12) : Bool :=
  match s.ctx.loop.levels with
  | [] => false
  | lv :: _ => decide (lv.stop < s.bodyEnd l)

/-- The tests that LOOP and LOOP.S share (04 R124, R125). -/
def State.loopGuard (s : State) (a : BitVec 5) (l : BitVec 12) : Except Stop Unit :=
  match s.needClean a with
  | .error e => .error e
  | .ok _ =>
    if s.kernel || s.depth == 4 || s.inLoopS || s.pastInnermost l then s.trapWord causeLoopNest s.depth else .ok ()

/-- A loop instruction issued, with the PC at the body or past it. -/
def State.loopTo (s : State) (pc : Word) : State := s.countIssue.setPc pc

/-- LOOP (04 R124): a count of 0 skips the body. -/
def execLoop (a : BitVec 5) (l : BitVec 12) (s : State) : Outcome :=
  match s.loopGuard a l with
  | .error e => finish (.error e)
  | .ok _ =>
    if s.reg a = 0 then .next (s.loopTo (s.bodyEnd l + 4))
    else
      .next ((s.setLevels ({ isS := false, start := s.link, stop := s.bodyEnd l, count := s.reg a - 1, epi := 0,
                             iter := 0, rlog := 0, nst := 0 } :: s.ctx.loop.levels)).loopTo s.link)

/-- Groups of four vector registers allocated to the context (01 R25, 08 R276). -/
def State.groups (s : State) : Nat := s.ctx.ctl.vCount.toNat

/-- The first ρ physical stage predicates: 1 for the first, 0 for the others (04 R125). -/
def openSg (sg : BitVec 16) (rho : Nat) : BitVec 16 :=
  ((List.range rho).foldl (fun x j => putBit x j false) sg) ||| 1

/-- LOOP.S (04 R125): needs an allocation that reaches v(15 + ρ); opens the level with its first checkpoint (13 R411). -/
def execLoopS (r : BitVec 3) (a : BitVec 5) (n : BitVec 4) (l : BitVec 12) (s : State) : Outcome :=
  let rho := 2 ^ r.toNat
  match s.loopGuard a l with
  | .error e => finish (.error e)
  | .ok _ =>
    if s.groups * 4 < 16 + rho then finish (s.trapWord causeGroupRange (15 + rho))
    else if s.reg a = 0 then .next (s.loopTo (s.bodyEnd l + 4))
    else
      let s1 := s.setLevels ({ isS := true, start := s.link, stop := s.bodyEnd l, count := s.reg a - 1, epi := n.toNat,
                               iter := 0, rlog := r.toNat, nst := n.toNat } :: s.ctx.loop.levels)
      let s2 := s1.setCtl fun c => { c with vrb := 0 }
      let s3 := { s2 with ctx := { s2.ctx with sg := openSg s2.ctx.sg rho } }
      .next ((s3.loopTo s.link).takeCheckpoint)

end Sys2Proof.Machine
end

