-- ==== Sys2Proof/Machine/Reach.lean ====
section
/-!
DEFINITION. Accesses to ranges of virtual addresses, as the rake and the tile unit make them (06 R206, 10 R350): a range
is cut into pieces of one 128-byte line, each translated on its own. A byte is read with its line's poison beside it.
-/
namespace Sys2Proof.Machine

/-- A piece of a range: `n` bytes of one line; with `past` its line is to be allocated in no cache (06 R207: NA). -/
structure Piece where
  va : Nat
  pa : Nat
  n : Nat
  leaf : BitVec 64
  past : Bool
  deriving DecidableEq, Repr

/-- Why a range could not be reached: a translation fault at an address, a walk that waits at a migrating node, or
something else that has to happen first. -/
inductive Hitch where
  | fault (cause : BitVec 10) (info : BitVec 22) (va : Nat)
  | busy (va : Nat)
  | wait
  deriving DecidableEq, Repr

/-- A byte and whether it carries poison. -/
abbrev Marked := Byte × Bool

/-- The virtual address that the rake computes, modulo 2⁶⁴ (06 R206). -/
def wrapVa (a : Int) : Nat := (a % 2 ^ 64).toNat

/-- What translates an address of an access. -/
abbrev Resolver := State → Nat → Kind → State × Translated

/-- Translation under the mode of the access's instruction, or of its command's ENQ (10 R343). -/
def plainly (kernel : Bool) : Resolver := fun s va k => s.translate kernel va k

/-- The command is a KVGROW whose move has begun (07 R246). -/
def State.moves (s : State) (k : CmdRec) : Bool :=
  k.cmd.w0.toNat % 256 == 0x41 && s.ctx.cmds.any fun c => c.seq == k.seq && !c.work.words.isEmpty

/-- Translation of a command's own accesses. What a KVGROW copies and commits is not forwarded: it makes the move (07 R246,
R247). -/
def CmdRec.plain (k : CmdRec) : Resolver := fun s va kd =>
  if s.moves k then onHead (s.translateIn s.ctx.asid s.ctx.root (!k.kernel) va kd) else plainly k.kernel s va kd

/-- The pieces of a range, translated in order. -/
def State.piecesBy (s : State) (rv : Resolver) (k : Kind) : Nat → Nat → Nat → State × Except Hitch (List Piece)
  | 0, _, _ => (s, .ok [])
  | fuel + 1, va, n =>
    if n = 0 then (s, .ok [])
    else
      let len := min n (128 - va % 128)
      match rv s va k with
      | (s1, .ok pa leaf) =>
        match s1.piecesBy rv k fuel ((va + len) % 2 ^ 64) (n - len) with
        | (s2, .ok ps) => (s2, .ok ({ va := va, pa := pa, n := len, leaf := leaf, past := false } :: ps))
        | (s2, .error e) => (s2, .error e)
      | (s1, .fault c info) => (s1, .error (.fault c info va))
      | (s1, .busy _) => (s1, .error (.busy va))
      | (s1, .migrating _ _) => (s1, .error .wait)

/-- Bytes of the longest packed record (02 R71). -/
def longestRecord : Nat := 34

/-- An access of a packed record or less that crosses a line of one peer goes as one packet, so that it is made whole
(09 R293, R320). -/
def wholeAtPeer (ps : List Piece) : List Piece :=
  match ps with
  | [p, q] =>
    if residency p.pa = 3 ∧ p.pa + p.n = q.pa ∧ p.n + q.n ≤ longestRecord then [{ p with n := p.n + q.n }] else ps
  | _ => ps

/-- The pieces of a range of `n` bytes. -/
def State.rangeBy (s : State) (rv : Resolver) (k : Kind) (va n : Nat) : State × Except Hitch (List Piece) :=
  match s.piecesBy rv k (n / 128 + 2) (va % 2 ^ 64) n with
  | (s1, .ok ps) => (s1, .ok (wholeAtPeer ps))
  | r => r

/-- The pieces of a range of `n` bytes of the context's address space. -/
def State.range (s : State) (kernel : Bool) (k : Kind) (va n : Nat) : State × Except Hitch (List Piece) :=
  s.rangeBy (plainly kernel) k va n

/-- An older access to bytes of a piece has not performed: one of a command enqueued before place `seq`, or one posted by then (04
R137, 06 R194). -/
def State.heldBefore (s : State) (seq : Nat) (p : Piece) : Bool :=
  s.touching seq p.va p.n || s.ctx.posted.any fun r => decide (r.before ≤ seq) && r.touches p.pa p.n

/-- The answer kept for a peer read of a ring (0 RI, 1 RO): its tag kind. -/
def readKind (who : Nat) : Nat := 4 + who

/-- The request is a ring's read of a piece: of its place and its length. -/
def PeerWait.reads (w : PeerWait) (who : Nat) (p : Piece) : Bool :=
  w.kind == readKind who && w.key == p.pa && w.va == BitVec.ofNat 64 p.n

/-- Ask peers for the pieces they hold and that have not been asked for, as far as the requests may go (14 R451); whether
every answer is there (14 R448). -/
def State.askPieces (s : State) (who : Nat) (cls : BitVec 4) (scope : BitVec 3) : List Piece → State × Bool
  | [] => (s, true)
  | p :: ps =>
    if residency p.pa = 3 && !s.dev.peerGone (peerOf p.pa) then
      match s.ctx.peer.find? fun w => w.reads who p with
      | none =>
        let g := { gBlank with type := gRead, off := peerOff p.pa, rlen := BitVec.ofNat 9 p.n, scope := scope }
        if s.dev.maySend (peerOf p.pa) cls g then
          (((s.requestAt (peerOf p.pa) cls (readKind who) g (BitVec.ofNat 64 p.n)).1.askPieces who cls scope ps).1, false)
        else (s, false)
      | some w =>
        let (s1, r) := s.askPieces who cls scope ps
        (s1, r && w.data.isSome)
    else s.askPieces who cls scope ps

/-- The bytes of a piece, with the poison of its line; a peer that brings no data gives poison (14 R456, R457). -/
def State.readPiece (s : State) (who : Nat) (p : Piece) : State × List Marked :=
  if residency p.pa = 3 then
    let ans := s.ctx.peer.find? fun w => w.reads who p
    match ans with
    | some w =>
      match w.data with
      | some bs =>
        if bs.length = p.n then (s, bs.map fun b => (b, w.status != 0))
        else (s, List.replicate p.n (BitVec.ofNat 8 (Config.freeWord s.tick).toNat, true))
      | none => (s, List.replicate p.n (BitVec.ofNat 8 (Config.freeWord s.tick).toNat, true))
    | none => (s, List.replicate p.n (BitVec.ofNat 8 (Config.freeWord s.tick).toNat, true))
  else
    let (d, bs, q) := s.dev.readLine (if p.past then [] else s.cap) p.pa p.n p.leaf
    ({ s with dev := d }, bs.map fun b => (b, q))

/-- The bytes of pieces, in order. -/
def State.readPieces (s : State) (who : Nat) : List Piece → State × List Marked
  | [] => (s, [])
  | p :: ps =>
    let (s1, xs) := s.readPiece who p
    let (s2, ys) := s1.readPieces who ps
    (s2, xs ++ ys)

/-- Peer answers that have been used are let go. -/
def State.dropAnswers (s : State) (who : Nat) (ps : List Piece) : State :=
  { s with ctx := { s.ctx with peer := s.ctx.peer.filter fun w => !ps.any (w.reads who) } }

/-- Translated pieces read, once every peer that holds one has answered; the answers are kept. -/
def State.seeAll (s : State) (who : Nat) (cls : BitVec 4) (scope : BitVec 3) (ps : List Piece) :
    State × Except Hitch (List Marked) :=
  match s.askPieces who cls scope ps with
  | (s1, false) => (s1, .error .wait)
  | (s1, true) =>
    let (s2, bs) := s1.readPieces who ps
    (s2.bump, .ok bs)

/-- Translated pieces read, and the answers let go. -/
def State.readAll (s : State) (who : Nat) (cls : BitVec 4) (scope : BitVec 3) (ps : List Piece) :
    State × Except Hitch (List Marked) :=
  match s.askPieces who cls scope ps with
  | (s1, false) => (s1, .error .wait)
  | (s1, true) =>
    let (s2, bs) := s1.readPieces who ps
    ((s2.dropAnswers who ps).bump, .ok bs)

/-- Every answer to a ring's reads let go. -/
def State.dropRing (s : State) (who : Nat) : State :=
  { s with ctx := { s.ctx with peer := s.ctx.peer.filter fun w => w.kind != readKind who || w.data.isNone } }

/-- A range read: `who` names the ring or stream that reads. -/
def State.readRange (s : State) (who : Nat) (kernel : Bool) (cls : BitVec 4) (scope : BitVec 3) (va n : Nat) :
    State × Except Hitch (List Marked) :=
  match s.range kernel .read va n with
  | (s1, .error e) => (s1, .error e)
  | (s1, .ok ps) => s1.readAll who cls scope ps

/-- A range read at a place in program order: it waits for older accesses to its bytes. -/
def State.readRangeAt (s : State) (seq who : Nat) (kernel : Bool) (cls : BitVec 4) (scope : BitVec 3) (va n : Nat) :
    State × Except Hitch (List Marked) :=
  match s.range kernel .read va n with
  | (s1, .error e) => (s1, .error e)
  | (s1, .ok ps) => if ps.any (s1.heldBefore seq) then (s1, .error .wait) else s1.readAll who cls scope ps

/-- A piece written; a peer write goes as a packet, if it may be sent now (14 R451), and one that cannot be done is entered
as an error of kind 3 (14 R444, R448, R456). The piece poisons its line when one of its bytes is marked (06 R207). -/
def State.writePiece (s : State) (cls : BitVec 4) (scope : BitVec 3) (p : Piece) (bs : List Marked) : Option State :=
  let bytes := bs.map (·.1)
  let poison := bs.any (·.2)
  let va := BitVec.ofNat 64 p.va
  if residency p.pa = 3 then
    let g := { gBlank with
      type := gWrite, len := BitVec.ofNat 9 p.n, off := peerOff p.pa, scope := scope,
      status := if poison then 3 else 0, payload := bytes }
    if s.dev.peerGone (peerOf p.pa) then some (s.errorEntry 3 va)
    else if s.dev.maySend (peerOf p.pa) cls g then some (s.requestAt (peerOf p.pa) cls 3 g va).1
    else none
  else if p.past && !s.dev.poolGone p.pa then
    some ({ s with dev := s.dev.writePast p.pa bytes p.leaf poison }.reportKick p.pa)
  else some (s.writePhys p.pa bytes p.leaf poison va)

/-- Pieces written in order; none if a packet of theirs may not be sent yet. -/
def State.writePieces (s : State) (cls : BitVec 4) (scope : BitVec 3) : List Piece → List Marked → Option State
  | [], _ => some s
  | p :: ps, bs =>
    match s.writePiece cls scope p (bs.take p.n) with
    | none => none
    | some s1 => s1.writePieces cls scope ps (bs.drop p.n)

/-- Translated pieces written as one: all of them, or none while a packet of theirs waits to be sent (14 R451). -/
def State.writeAll (s : State) (cls : BitVec 4) (scope : BitVec 3) (ps : List Piece) (bs : List Marked) :
    State × Except Hitch Unit :=
  match s.writePieces cls scope ps bs with
  | some s1 => (s1, .ok ())
  | none => (s, .error .wait)

/-- A range written: every piece is translated before any is written. -/
def State.writeRange (s : State) (kernel : Bool) (cls : BitVec 4) (scope : BitVec 3) (va : Nat) (bs : List Marked) :
    State × Except Hitch Unit :=
  match s.range kernel .write va bs.length with
  | (s1, .error e) => (s1, .error e)
  | (s1, .ok ps) => s1.writeAll cls scope ps bs

/-- The same at a place in program order. -/
def State.writeRangeAt (s : State) (seq : Nat) (kernel : Bool) (cls : BitVec 4) (scope : BitVec 3) (va : Nat) (bs : List Marked) :
    State × Except Hitch Unit :=
  match s.range kernel .write va bs.length with
  | (s1, .error e) => (s1, .error e)
  | (s1, .ok ps) => if ps.any (s1.heldBefore seq) then (s1, .error .wait) else s1.writeAll cls scope ps bs

/-- A block of the stream as a trap or a stall. -/
def State.blocked (s : State) (b : Hitch) (k : Kind) : Stop :=
  match b with
  | .fault c info va => .trap s c info (BitVec.ofNat 64 va)
  | .busy va =>
    .stall { s with ctx := { s.ctx with
      busy := some { ring := none, lane := none, va := BitVec.ofNat 64 va, kind := k.code, kernel := s.kernel, cmd := 0, fa := 0,
                     cursor := [] } } }
  | .wait => .stall s

/-- A range the stream reads in class 0 at device scope. -/
def State.streamRange (s : State) (cls : BitVec 4) (scope : BitVec 3) (va n : Nat) :
    Except Stop (State × List Marked) :=
  match s.readRange 3 s.kernel cls scope va n with
  | (s1, .ok bs) => .ok (s1, bs)
  | (s1, .error b) => .error (s1.blocked b .read)

end Sys2Proof.Machine
end

