-- ==== Sys2Proof/Machine/Vector.lean ====
section
/-!
DEFINITION. What the vector instructions share (05 R148 to R153, R499): registers of the allocation, format tags and the
conversion of operands, masks and merge reads, poison by tag, and the undo journal of LOOP.S (13 R411).
-/
namespace Sys2Proof.Machine

/-! ## Tags and lanes (01 R26, 02 R67) -/

def tagVoid : BitVec 4 := 0x0
def tagF32 : BitVec 4 := 0x1
def tagBf16 : BitVec 4 := 0x2
def tagF16 : BitVec 4 := 0x3
def tagI32 : BitVec 4 := 0x4
def tagI16 : BitVec 4 := 0x5
def tagI8 : BitVec 4 := 0x6
def tagE4m3 : BitVec 4 := 0x7
def tagE5m2 : BitVec 4 := 0x8
def tagMask : BitVec 4 := 0x9
def tagPoison : BitVec 4 := 0xE

/-- Lanes of an element by tag (02 R67). -/
def tagLanes (t : BitVec 4) : Nat :=
  match t.toNat with
  | 2 | 3 | 5 => 2
  | 6 | 7 | 8 => 4
  | _ => 1

/-- The floating-point format of a tag. -/
def tagFmt (t : BitVec 4) : Option Fmt :=
  match t.toNat with
  | 1 => some fmtF32
  | 2 => some fmtBf16
  | 3 => some fmtF16
  | 7 => some fmtE4m3
  | 8 => some fmtE5m2
  | _ => none

/-- Lane `j` of an element of `n` lanes (02 R67). -/
def laneOf (n j : Nat) (x : Elem) : Nat := x.toNat / 2 ^ (32 / n * j) % 2 ^ (32 / n)

/-- An element from its lanes, lane 0 first. -/
def joinLanes (n : Nat) (ls : List Nat) : Elem :=
  BitVec.ofNat 32 (ls.foldr (fun x acc => x % 2 ^ (32 / n) + 2 ^ (32 / n) * acc) 0)

/-- The arithmetic modes of FMODE (01 R31). -/
structure Modes where
  rm : Rm
  ftz : Bool
  sat : Bool
  tagTrap : Bool
  deriving DecidableEq, Repr

/-- The modes in force. -/
def State.modes (s : State) : Modes :=
  let f := s.ctx.ctl.fmode
  { rm := rmOf (f.extractLsb' 3 2).toNat, ftz := f.getLsbD 5, sat := f.getLsbD 6, tagTrap := f.getLsbD 7 }

/-- A lane's value: a floating-point value or an integer. -/
inductive LaneVal where
  | f (x : FVal)
  | i (n : Int)
  deriving DecidableEq, Repr

/-- The value of a lane's bits under a tag (02 R67): integer tags read as signed, MASK as 0 or 1, VOID as 0; binary32
subnormals are flushed under FTZ (02 R65). Of a MASK element bit 0 alone is looked at (log entry 67). -/
def laneVal (m : Modes) (t : BitVec 4) (b : Nat) : LaneVal :=
  match tagFmt t with
  | some g => .f (g.decode (if t = tagF32 then flushF32 m.ftz b else b))
  | none =>
    if t = tagVoid then .i 0
    else if t = tagMask then .i ((b % 2 : Nat) : Int)
    else .i (toSigned (32 / tagLanes t) b)

/-- A lane's value in a tag (02 R64 step 4, R65, R66, R67). -/
def laneBitsOf (m : Modes) (t : BitVec 4) (v : LaneVal) : Nat :=
  match tagFmt t with
  | some g =>
    let b := g.round m.rm (.conv m.sat) (match v with
      | .f x => x
      | .i n => FVal.ofInt n)
    if t = tagF32 then flushF32 m.ftz b else b
  | none =>
    if t = tagVoid then 0
    else if t = tagMask then
      match v with
      | .f x => if x.isZero then 0 else 1
      | .i n => if n = 0 then 0 else 1
    else
      let w := 32 / tagLanes t
      match v with
      | .f x => ofSigned w (x.toInt m.rm (-(2 ^ (w - 1))) (2 ^ (w - 1) - 1))
      | .i n => ofSigned w (clampInt w 0 n)

/-- One lane converted. -/
def convLane (m : Modes) (src dst : BitVec 4) (b : Nat) : Nat :=
  if src = dst then b else laneBitsOf m dst (laneVal m src b)

/-- One element converted: lane j takes lane j mod L of the source (02 R67). -/
def convElem (m : Modes) (src dst : BitVec 4) (x : Elem) : Elem :=
  joinLanes (tagLanes dst)
    ((List.range (tagLanes dst)).map fun j => convLane m src dst (laneOf (tagLanes src) (j % tagLanes src) x))

/-- A register's contents read in a tag (01 R26, 05 R499): a POISON source, and any source for a POISON result, is taken
unconverted. -/
def convData (m : Modes) (src dst : BitVec 4) (d : List Elem) : List Elem :=
  if src = dst ∨ src = tagPoison ∨ dst = tagPoison then d else d.map (convElem m src dst)

/-! ## Registers of the allocation -/

/-- The rotation count ρ of the open LOOP.S level, if one is open (01 R29). -/
def State.rho (s : State) : Option Nat := (s.ctx.loop.levels.find? (·.isS)).map fun l => 2 ^ l.rlog

/-- A register in the rotating set (01 R29). -/
def State.rotates (s : State) (n : BitVec 5) : Bool :=
  match s.rho with
  | some r => decide (16 ≤ n.toNat) && decide (n.toNat < 16 + r)
  | none => false

/-- The physical register that vn names (01 R25, R29). -/
def State.vphys (s : State) (n : BitVec 5) : Nat :=
  let k :=
    match s.rho with
    | some r => if s.rotates n then 16 + (n.toNat - 16 + s.ctx.ctl.vrb.toNat) % r else n.toNat
    | none => n.toNat
  4 * s.ctx.ctl.vBase.toNat + k

/-- The contents of vn. -/
def State.vreg (s : State) (n : BitVec 5) : VReg := s.core.vregs.toList.getD (s.vphys n) VReg.gated

/-- The tag of vn. -/
def State.vtag (s : State) (n : BitVec 5) : BitVec 4 := (s.vreg n).tag

/-- The elements of vn; VOID reads as zero (01 R26). -/
def VReg.image (v : VReg) : List Elem := if v.tag = tagVoid then v.data.map fun _ => 0 else v.data

/-- GROUP_RANGE for the first register named that is at or beyond v(4k) (01 R25, 03 R92). -/
def State.needRegs (s : State) (ns : List (BitVec 5)) : Except Stop Unit :=
  match ns.find? fun n => decide (4 * s.ctx.ctl.vCount.toNat ≤ n.toNat) with
  | some n => s.trapWord causeGroupRange n.toNat
  | none => .ok ()

/-- A physical register replaced. -/
def State.setVphys (s : State) (k : Nat) (v : VReg) : State :=
  { s with core := { s.core with vregs := updAt s.core.vregs k fun _ => v } }

/-- References wake a DROWSY register (01 R27, 05 R180). -/
def State.wake (s : State) (ns : List (BitVec 5)) : State :=
  ns.foldl (fun x n =>
    let k := x.vphys n
    let v := x.core.vregs.toList.getD k VReg.gated
    if v.power = .drowsy then x.setVphys k { v with power := .active } else x) s

/-- The slots of the rollback shadow, of 4 KiB each (13 R411). -/
def shadowSlots : Nat := 8

/-- A journal entry made in task mode inside LOOP.S; a ninth makes the iteration unrecoverable (13 R411, R415). -/
def State.journal (s : State) (u : Undo) : State :=
  if !s.holding then s
  else
    s.setLoop fun l =>
      if shadowSlots ≤ l.journal.length then { l with unrecoverable := true } else { l with journal := u :: l.journal }

/-- The iteration has saved a physical register already. -/
def LoopUnit.saved (l : LoopUnit) (k : Nat) : Bool :=
  l.journal.any fun u =>
    match u with
    | .vreg p _ _ => p == k
    | _ => false

/-- A vector register saved before the iteration's first write to it, outside the rotating set (13 R411). -/
def State.journalReg (s : State) (n : BitVec 5) : State :=
  let k := s.vphys n
  if s.rotates n || s.ctx.loop.saved k then s
  else s.journal (.vreg k (s.vreg n).data (s.vreg n).tag)

/-- vn := elements with a tag. -/
def State.putVreg (s : State) (n : BitVec 5) (d : List Elem) (t : BitVec 4) : State :=
  let s1 := s.journalReg n
  s1.setVphys (s1.vphys n) { data := d, tag := t, power := .active }

/-! ## Masks -/

/-- Element mask m: m0 reads as all ones (01 R30). -/
def State.mask (s : State) (m : BitVec 3) : BitVec 1024 := if m = 0 then BitVec.allOnes 1024 else s.ctx.masks.get m.toFin

/-- An element mask written; m0 discards it (01 R30). -/
def State.setMask (s : State) (m : BitVec 3) (v : BitVec 1024) : State :=
  if m = 0 then s else { s with ctx := { s.ctx with masks := s.ctx.masks.set m.toNat v m.isLt } }

/-- Elements chosen by a mask: `a` where the bit is 1, else `b`. -/
def chooseElems (m : BitVec 1024) (a b : List Elem) : List Elem :=
  (List.zipWith (fun x y => (x, y)) a b).zipIdx.map fun p => if m.getLsbD p.2 then p.1.1 else p.1.2

/-! ## Sources and results -/

/-- A checked source (05 R150): its elements in the tag expected, and whether it is POISON. Under TAGTRAP a VOID source
traps TAG_VOID and any other tag TAG_MISMATCH, but POISON never does (05 R499). -/
def State.vsrc (s : State) (n : BitVec 5) (want : BitVec 4) : Except Stop (List Elem × Bool) :=
  let v := s.vreg n
  if s.modes.tagTrap && v.tag == tagVoid then s.trapWord 0x081 (32 + n.toNat)
  else if s.modes.tagTrap && v.tag != want && v.tag != tagPoison then
    s.trapWord 0x080 (want.toNat * 2 ^ 10 + v.tag.toNat * 2 ^ 6 + 32 + n.toNat)
  else .ok (convData s.modes v.tag want v.image, v.tag == tagPoison)

/-- The source of VCVT, VCVT.P or MFROMV (05 R150): any tag, but VOID traps under TAGTRAP. -/
def State.needValue (s : State) (n : BitVec 5) : Except Stop Unit :=
  if s.modes.tagTrap && s.vtag n == tagVoid then s.trapWord 0x081 (32 + n.toNat) else .ok ()

/-- An unmasked result (05 R152): POISON when a source read for it was. -/
def State.vwrite (s : State) (d : BitVec 5) (out : List Elem) (t : BitVec 4) (poison : Bool) : State :=
  s.putVreg d out (if poison then tagPoison else t)

/-- A masked result (05 R151): elements that the mask leaves out keep vd's contents read in the result's tag; with m0
nothing of vd is read. -/
def State.vwriteMasked (s : State) (d : BitVec 5) (m : BitVec 3) (out : List Elem) (t : BitVec 4) (poison : Bool) : State :=
  if m = 0 then s.vwrite d out t poison
  else
    let v := s.vreg d
    let p := poison || v.tag == tagPoison
    s.vwrite d (chooseElems (s.mask m) out (convData s.modes v.tag t v.image)) t p

end Sys2Proof.Machine
end

