-- ==== Sys2Proof/Machine/VectorArith.lean ====
section
/-!
DEFINITION. Element-wise arithmetic and reductions of the vector pipe (05 R153 to R158).
-/
namespace Sys2Proof.Machine

/-- A lane of a floating-point source as a value (05 R154): binary32 subnormals are flushed under FTZ. -/
def floatIn (m : Modes) (t : BitVec 4) (g : Fmt) (b : Nat) : FVal :=
  g.decode (if t = tagF32 then flushF32 m.ftz b else b)

/-- A floating-point result (05 R154): RoundTo with the overflow of IEEE 754, flushed under FTZ for binary32. -/
def floatOut (m : Modes) (t : BitVec 4) (g : Fmt) (x : FVal) : Nat :=
  let b := g.round m.rm .arith x
  if t = tagF32 then flushF32 m.ftz b else b

/-- Element-wise on one, two or three elements, lane by lane (05 R153). -/
def laneMap (n : Nat) (f : Nat → Nat → Nat → Nat) (x y z : Elem) : Elem :=
  joinLanes n ((List.range n).map fun j => f (laneOf n j x) (laneOf n j y) (laneOf n j z))

/-- A compare: 1 only when the condition holds in every lane of the element (05 R153, R155). -/
def laneAll (n : Nat) (f : Nat → Nat → Bool) (x y : Elem) : Elem :=
  if (List.range n).all fun j => f (laneOf n j x) (laneOf n j y) then 1 else 0

/-- The format of a floating-point major's tag. -/
def floatFmt (t : BitVec 4) : Fmt := (tagFmt t).getD fmtF32

/-- Three lists of elements combined. -/
def zip3 (f : Elem → Elem → Elem → Elem) (a b c : List Elem) : List Elem :=
  List.zipWith (fun p z => f p.1 p.2 z) (a.zip b) c

/-- An element-wise instruction with two sources in the major's tag (05 R151, R152). `sources` says that vd is read as a
source too. -/
def State.vector2 (s : State) (t : BitVec 4) (d a b : BitVec 5) (m : BitVec 3) (f : Nat → Nat → Nat → Nat) : Course := do
  s.needRegs [d, a, b]
  let (x, p) ← s.vsrc a t
  let (y, q) ← s.vsrc b t
  pure ((s.wake [d, a, b]).vwriteMasked d m (zip3 (laneMap (tagLanes t) f) x y y) t (p || q))

/-- As `vector2`, with vd read as a third source (05 R151). -/
def State.vector3 (s : State) (t : BitVec 4) (d a b : BitVec 5) (m : BitVec 3) (f : Nat → Nat → Nat → Nat) : Course := do
  s.needRegs [d, a, b]
  let (x, p) ← s.vsrc a t
  let (y, q) ← s.vsrc b t
  let (z, r) ← s.vsrc d t
  let out := zip3 (laneMap (tagLanes t) f) x y z
  pure ((s.wake [d, a, b]).vwrite d (chooseElems (s.mask m) out z) t (p || q || r))

/-- An element-wise instruction with one source. -/
def State.vector1 (s : State) (t : BitVec 4) (d a : BitVec 5) (m : BitVec 3) (f : Nat → Nat) : Course := do
  s.needRegs [d, a]
  let (x, p) ← s.vsrc a t
  pure ((s.wake [d, a]).vwriteMasked d m (x.map fun e => laneMap (tagLanes t) (fun v _ _ => f v) e e e) t p)

/-- A compare (05 R155): the result is tagged MASK. -/
def State.vcompare (s : State) (t : BitVec 4) (d a b : BitVec 5) (m : BitVec 3) (f : Nat → Nat → Bool) : Course := do
  s.needRegs [d, a, b]
  let (x, p) ← s.vsrc a t
  let (y, q) ← s.vsrc b t
  pure ((s.wake [d, a, b]).vwriteMasked d m (List.zipWith (laneAll (tagLanes t) f) x y) tagMask (p || q))

/-- The sources of a reduction along the row through an element, or along its column (05 R158). -/
def reduceLine (axis : BitVec 2) (xs : List Elem) (e : Nat) : List Elem :=
  if axis = 1 then (xs.drop (e / 64 * 64)).take 64
  else (List.range 16).map fun r => xs.getD (64 * r + e % 64) 0

/-- Every element of a reduction (05 R158, 02 R78): the tree over its row (6 levels) or its column (4), lane by lane. -/
def reduceAll (n : Nat) (axis : BitVec 2) (op : Nat → Nat → Nat) (xs : List Elem) : List Elem :=
  let levels := if axis = 1 then 6 else 4
  let one (e : Nat) : Elem :=
    let line := reduceLine axis xs e
    joinLanes n ((List.range n).map fun j => (treeReduce op levels (line.map fun x => laneOf n j x)).headD 0)
  let lines := (List.range (if axis = 1 then 16 else 64)).map fun k => one (if axis = 1 then 64 * k else k)
  (List.range 1024).map fun e => lines.getD (if axis = 1 then e / 64 else e % 64) 0

/-- A reduction (05 R158): elements that the mask leaves out enter as the identity; every element is written. -/
def State.vreduce (s : State) (t : BitVec 4) (d a : BitVec 5) (m : BitVec 3) (x : BitVec 2) (ident : Nat)
    (op : Nat → Nat → Nat) : Course := do
  s.needRegs [d, a]
  let (xs, p) ← s.vsrc a t
  let n := tagLanes t
  let idents := xs.map fun _ => joinLanes n (List.replicate n ident)
  pure ((s.wake [d, a]).vwrite d (reduceAll n x op (chooseElems (s.mask m) xs idents)) t p)

/-- A floating-point operation on lane bits. -/
def State.fop (s : State) (t : BitVec 4) (op : FVal → FVal → FVal → FVal) (x y z : Nat) : Nat :=
  let g := floatFmt t
  floatOut s.modes t g (op (floatIn s.modes t g x) (floatIn s.modes t g y) (floatIn s.modes t g z))

/-- A floating-point comparison on lane bits. -/
def State.fcmp (s : State) (t : BitVec 4) (op : FVal → FVal → Bool) (x y : Nat) : Bool :=
  let g := floatFmt t
  op (floatIn s.modes t g x) (floatIn s.modes t g y)

/-- Rounding toward −∞, where an exact zero sum is −0 (05 R154). -/
def State.roundsDown (s : State) : Bool := s.modes.rm == .down

/-- Lane width of an integer tag (05 R156). -/
def intLane (t : BitVec 4) : Nat := 32 / tagLanes t

/-- An exact integer result modulo 2^w (05 R156). -/
def wrapLane (t : BitVec 4) (x : Int) : Nat := ofSigned (intLane t) x

/-- The lane as a signed integer. -/
def sLane (t : BitVec 4) (x : Nat) : Int := toSigned (intLane t) x

/-- The shift amount of a lane (05 R157). -/
def laneShift (t : BitVec 4) (y : Nat) : Nat := y % intLane t

/-- VADD.F32 (05 R154). -/
def execVaddF32 (d a b : BitVec 5) (m : BitVec 3) (s : State) : Outcome :=
  finish (s.vector2 tagF32 d a b m (s.fop tagF32 fun x y _ => x.add s.roundsDown y))

/-- VSUB.F32 (05 R154). -/
def execVsubF32 (d a b : BitVec 5) (m : BitVec 3) (s : State) : Outcome :=
  finish (s.vector2 tagF32 d a b m (s.fop tagF32 fun x y _ => x.add s.roundsDown y.neg))

/-- VMUL.F32 (05 R154). -/
def execVmulF32 (d a b : BitVec 5) (m : BitVec 3) (s : State) : Outcome :=
  finish (s.vector2 tagF32 d a b m (s.fop tagF32 fun x y _ => x.mul y))

/-- VFMA.F32 (05 R154). -/
def execVfmaF32 (d a b : BitVec 5) (m : BitVec 3) (s : State) : Outcome :=
  finish (s.vector3 tagF32 d a b m (s.fop tagF32 fun x y z => z.add s.roundsDown (x.mul y)))

/-- VMIN.F32 (05 R154). -/
def execVminF32 (d a b : BitVec 5) (m : BitVec 3) (s : State) : Outcome :=
  finish (s.vector2 tagF32 d a b m (s.fop tagF32 fun x y _ => x.min y))

/-- VMAX.F32 (05 R154). -/
def execVmaxF32 (d a b : BitVec 5) (m : BitVec 3) (s : State) : Outcome :=
  finish (s.vector2 tagF32 d a b m (s.fop tagF32 fun x y _ => x.max y))

/-- VABS.F32 (05 R154). -/
def execVabsF32 (d a : BitVec 5) (m : BitVec 3) (s : State) : Outcome :=
  finish (s.vector1 tagF32 d a m fun x => s.fop tagF32 (fun v _ _ => v.abs) x x x)

/-- VNEG.F32 (05 R154). -/
def execVnegF32 (d a : BitVec 5) (m : BitVec 3) (s : State) : Outcome :=
  finish (s.vector1 tagF32 d a m fun x => s.fop tagF32 (fun v _ _ => v.neg) x x x)

/-- VCMP.EQ.F32 (05 R155). -/
def execVcmpEqF32 (d a b : BitVec 5) (m : BitVec 3) (s : State) : Outcome :=
  finish (s.vcompare tagF32 d a b m (s.fcmp tagF32 fun x y => x.eq y))

/-- VCMP.NE.F32 (05 R155). -/
def execVcmpNeF32 (d a b : BitVec 5) (m : BitVec 3) (s : State) : Outcome :=
  finish (s.vcompare tagF32 d a b m (s.fcmp tagF32 fun x y => !x.eq y))

/-- VCMP.LT.F32 (05 R155). -/
def execVcmpLtF32 (d a b : BitVec 5) (m : BitVec 3) (s : State) : Outcome :=
  finish (s.vcompare tagF32 d a b m (s.fcmp tagF32 fun x y => x.lt y))

/-- VCMP.LE.F32 (05 R155). -/
def execVcmpLeF32 (d a b : BitVec 5) (m : BitVec 3) (s : State) : Outcome :=
  finish (s.vcompare tagF32 d a b m (s.fcmp tagF32 fun x y => x.lt y || x.eq y))

/-- VRED.SUM.F32 (05 R158). -/
def execVredSumF32 (d a : BitVec 5) (m : BitVec 3) (x : BitVec 2) (s : State) : Outcome :=
  finish (s.vreduce tagF32 d a m x ((floatFmt tagF32).zeroBits true) fun p q => s.fop tagF32 (fun v w _ => v.add s.roundsDown w) p q q)

/-- VRED.MAX.F32 (05 R158). -/
def execVredMaxF32 (d a : BitVec 5) (m : BitVec 3) (x : BitVec 2) (s : State) : Outcome :=
  finish (s.vreduce tagF32 d a m x ((floatFmt tagF32).zeroBits true + (floatFmt tagF32).infBits) fun p q => s.fop tagF32 (fun v w _ => v.max w) p q q)

/-- VRED.MIN.F32 (05 R158). -/
def execVredMinF32 (d a : BitVec 5) (m : BitVec 3) (x : BitVec 2) (s : State) : Outcome :=
  finish (s.vreduce tagF32 d a m x (floatFmt tagF32).infBits fun p q => s.fop tagF32 (fun v w _ => v.min w) p q q)

/-- VADD.BF16 (05 R154). -/
def execVaddBf16 (d a b : BitVec 5) (m : BitVec 3) (s : State) : Outcome :=
  finish (s.vector2 tagBf16 d a b m (s.fop tagBf16 fun x y _ => x.add s.roundsDown y))

/-- VSUB.BF16 (05 R154). -/
def execVsubBf16 (d a b : BitVec 5) (m : BitVec 3) (s : State) : Outcome :=
  finish (s.vector2 tagBf16 d a b m (s.fop tagBf16 fun x y _ => x.add s.roundsDown y.neg))

/-- VMUL.BF16 (05 R154). -/
def execVmulBf16 (d a b : BitVec 5) (m : BitVec 3) (s : State) : Outcome :=
  finish (s.vector2 tagBf16 d a b m (s.fop tagBf16 fun x y _ => x.mul y))

/-- VFMA.BF16 (05 R154). -/
def execVfmaBf16 (d a b : BitVec 5) (m : BitVec 3) (s : State) : Outcome :=
  finish (s.vector3 tagBf16 d a b m (s.fop tagBf16 fun x y z => z.add s.roundsDown (x.mul y)))

/-- VMIN.BF16 (05 R154). -/
def execVminBf16 (d a b : BitVec 5) (m : BitVec 3) (s : State) : Outcome :=
  finish (s.vector2 tagBf16 d a b m (s.fop tagBf16 fun x y _ => x.min y))

/-- VMAX.BF16 (05 R154). -/
def execVmaxBf16 (d a b : BitVec 5) (m : BitVec 3) (s : State) : Outcome :=
  finish (s.vector2 tagBf16 d a b m (s.fop tagBf16 fun x y _ => x.max y))

/-- VABS.BF16 (05 R154). -/
def execVabsBf16 (d a : BitVec 5) (m : BitVec 3) (s : State) : Outcome :=
  finish (s.vector1 tagBf16 d a m fun x => s.fop tagBf16 (fun v _ _ => v.abs) x x x)

/-- VNEG.BF16 (05 R154). -/
def execVnegBf16 (d a : BitVec 5) (m : BitVec 3) (s : State) : Outcome :=
  finish (s.vector1 tagBf16 d a m fun x => s.fop tagBf16 (fun v _ _ => v.neg) x x x)

/-- VCMP.EQ.BF16 (05 R155). -/
def execVcmpEqBf16 (d a b : BitVec 5) (m : BitVec 3) (s : State) : Outcome :=
  finish (s.vcompare tagBf16 d a b m (s.fcmp tagBf16 fun x y => x.eq y))

/-- VCMP.NE.BF16 (05 R155). -/
def execVcmpNeBf16 (d a b : BitVec 5) (m : BitVec 3) (s : State) : Outcome :=
  finish (s.vcompare tagBf16 d a b m (s.fcmp tagBf16 fun x y => !x.eq y))

/-- VCMP.LT.BF16 (05 R155). -/
def execVcmpLtBf16 (d a b : BitVec 5) (m : BitVec 3) (s : State) : Outcome :=
  finish (s.vcompare tagBf16 d a b m (s.fcmp tagBf16 fun x y => x.lt y))

/-- VCMP.LE.BF16 (05 R155). -/
def execVcmpLeBf16 (d a b : BitVec 5) (m : BitVec 3) (s : State) : Outcome :=
  finish (s.vcompare tagBf16 d a b m (s.fcmp tagBf16 fun x y => x.lt y || x.eq y))

/-- VRED.SUM.BF16 (05 R158). -/
def execVredSumBf16 (d a : BitVec 5) (m : BitVec 3) (x : BitVec 2) (s : State) : Outcome :=
  finish (s.vreduce tagBf16 d a m x ((floatFmt tagBf16).zeroBits true) fun p q => s.fop tagBf16 (fun v w _ => v.add s.roundsDown w) p q q)

/-- VRED.MAX.BF16 (05 R158). -/
def execVredMaxBf16 (d a : BitVec 5) (m : BitVec 3) (x : BitVec 2) (s : State) : Outcome :=
  finish (s.vreduce tagBf16 d a m x ((floatFmt tagBf16).zeroBits true + (floatFmt tagBf16).infBits) fun p q => s.fop tagBf16 (fun v w _ => v.max w) p q q)

/-- VRED.MIN.BF16 (05 R158). -/
def execVredMinBf16 (d a : BitVec 5) (m : BitVec 3) (x : BitVec 2) (s : State) : Outcome :=
  finish (s.vreduce tagBf16 d a m x (floatFmt tagBf16).infBits fun p q => s.fop tagBf16 (fun v w _ => v.min w) p q q)

/-- VADD.F16 (05 R154). -/
def execVaddF16 (d a b : BitVec 5) (m : BitVec 3) (s : State) : Outcome :=
  finish (s.vector2 tagF16 d a b m (s.fop tagF16 fun x y _ => x.add s.roundsDown y))

/-- VSUB.F16 (05 R154). -/
def execVsubF16 (d a b : BitVec 5) (m : BitVec 3) (s : State) : Outcome :=
  finish (s.vector2 tagF16 d a b m (s.fop tagF16 fun x y _ => x.add s.roundsDown y.neg))

/-- VMUL.F16 (05 R154). -/
def execVmulF16 (d a b : BitVec 5) (m : BitVec 3) (s : State) : Outcome :=
  finish (s.vector2 tagF16 d a b m (s.fop tagF16 fun x y _ => x.mul y))

/-- VFMA.F16 (05 R154). -/
def execVfmaF16 (d a b : BitVec 5) (m : BitVec 3) (s : State) : Outcome :=
  finish (s.vector3 tagF16 d a b m (s.fop tagF16 fun x y z => z.add s.roundsDown (x.mul y)))

/-- VMIN.F16 (05 R154). -/
def execVminF16 (d a b : BitVec 5) (m : BitVec 3) (s : State) : Outcome :=
  finish (s.vector2 tagF16 d a b m (s.fop tagF16 fun x y _ => x.min y))

/-- VMAX.F16 (05 R154). -/
def execVmaxF16 (d a b : BitVec 5) (m : BitVec 3) (s : State) : Outcome :=
  finish (s.vector2 tagF16 d a b m (s.fop tagF16 fun x y _ => x.max y))

/-- VABS.F16 (05 R154). -/
def execVabsF16 (d a : BitVec 5) (m : BitVec 3) (s : State) : Outcome :=
  finish (s.vector1 tagF16 d a m fun x => s.fop tagF16 (fun v _ _ => v.abs) x x x)

/-- VNEG.F16 (05 R154). -/
def execVnegF16 (d a : BitVec 5) (m : BitVec 3) (s : State) : Outcome :=
  finish (s.vector1 tagF16 d a m fun x => s.fop tagF16 (fun v _ _ => v.neg) x x x)

/-- VCMP.EQ.F16 (05 R155). -/
def execVcmpEqF16 (d a b : BitVec 5) (m : BitVec 3) (s : State) : Outcome :=
  finish (s.vcompare tagF16 d a b m (s.fcmp tagF16 fun x y => x.eq y))

/-- VCMP.NE.F16 (05 R155). -/
def execVcmpNeF16 (d a b : BitVec 5) (m : BitVec 3) (s : State) : Outcome :=
  finish (s.vcompare tagF16 d a b m (s.fcmp tagF16 fun x y => !x.eq y))

/-- VCMP.LT.F16 (05 R155). -/
def execVcmpLtF16 (d a b : BitVec 5) (m : BitVec 3) (s : State) : Outcome :=
  finish (s.vcompare tagF16 d a b m (s.fcmp tagF16 fun x y => x.lt y))

/-- VCMP.LE.F16 (05 R155). -/
def execVcmpLeF16 (d a b : BitVec 5) (m : BitVec 3) (s : State) : Outcome :=
  finish (s.vcompare tagF16 d a b m (s.fcmp tagF16 fun x y => x.lt y || x.eq y))

/-- VRED.SUM.F16 (05 R158). -/
def execVredSumF16 (d a : BitVec 5) (m : BitVec 3) (x : BitVec 2) (s : State) : Outcome :=
  finish (s.vreduce tagF16 d a m x ((floatFmt tagF16).zeroBits true) fun p q => s.fop tagF16 (fun v w _ => v.add s.roundsDown w) p q q)

/-- VRED.MAX.F16 (05 R158). -/
def execVredMaxF16 (d a : BitVec 5) (m : BitVec 3) (x : BitVec 2) (s : State) : Outcome :=
  finish (s.vreduce tagF16 d a m x ((floatFmt tagF16).zeroBits true + (floatFmt tagF16).infBits) fun p q => s.fop tagF16 (fun v w _ => v.max w) p q q)

/-- VRED.MIN.F16 (05 R158). -/
def execVredMinF16 (d a : BitVec 5) (m : BitVec 3) (x : BitVec 2) (s : State) : Outcome :=
  finish (s.vreduce tagF16 d a m x (floatFmt tagF16).infBits fun p q => s.fop tagF16 (fun v w _ => v.min w) p q q)

/-- VADD.I32 (05 R156). -/
def execVaddI32 (d a b : BitVec 5) (m : BitVec 3) (s : State) : Outcome :=
  finish (s.vector2 tagI32 d a b m fun x y _ => wrapLane tagI32 (x + y))

/-- VSUB.I32 (05 R156). -/
def execVsubI32 (d a b : BitVec 5) (m : BitVec 3) (s : State) : Outcome :=
  finish (s.vector2 tagI32 d a b m fun x y _ => wrapLane tagI32 ((x : Int) - y))

/-- VMUL.I32 (05 R156). -/
def execVmulI32 (d a b : BitVec 5) (m : BitVec 3) (s : State) : Outcome :=
  finish (s.vector2 tagI32 d a b m fun x y _ => wrapLane tagI32 (x * y))

/-- VMAD.I32 (05 R156). -/
def execVmadI32 (d a b : BitVec 5) (m : BitVec 3) (s : State) : Outcome :=
  finish (s.vector3 tagI32 d a b m fun x y z => wrapLane tagI32 (z + x * y))

/-- VMIN.I32 (05 R156). -/
def execVminI32 (d a b : BitVec 5) (m : BitVec 3) (s : State) : Outcome :=
  finish (s.vector2 tagI32 d a b m fun x y _ => if sLane tagI32 y < sLane tagI32 x then y else x)

/-- VMAX.I32 (05 R156). -/
def execVmaxI32 (d a b : BitVec 5) (m : BitVec 3) (s : State) : Outcome :=
  finish (s.vector2 tagI32 d a b m fun x y _ => if sLane tagI32 x < sLane tagI32 y then y else x)

/-- VMINN.I32 (05 R156). -/
def execVminnI32 (d a b : BitVec 5) (m : BitVec 3) (s : State) : Outcome :=
  finish (s.vector2 tagI32 d a b m fun x y _ => if y < x then y else x)

/-- VMAXN.I32 (05 R156). -/
def execVmaxnI32 (d a b : BitVec 5) (m : BitVec 3) (s : State) : Outcome :=
  finish (s.vector2 tagI32 d a b m fun x y _ => if x < y then y else x)

/-- VCMP.EQ.I32 (05 R156). -/
def execVcmpEqI32 (d a b : BitVec 5) (m : BitVec 3) (s : State) : Outcome :=
  finish (s.vcompare tagI32 d a b m fun x y => x == y)

/-- VCMP.NE.I32 (05 R156). -/
def execVcmpNeI32 (d a b : BitVec 5) (m : BitVec 3) (s : State) : Outcome :=
  finish (s.vcompare tagI32 d a b m fun x y => x != y)

/-- VCMP.LT.I32 (05 R156). -/
def execVcmpLtI32 (d a b : BitVec 5) (m : BitVec 3) (s : State) : Outcome :=
  finish (s.vcompare tagI32 d a b m fun x y => decide (sLane tagI32 x < sLane tagI32 y))

/-- VCMP.LE.I32 (05 R156). -/
def execVcmpLeI32 (d a b : BitVec 5) (m : BitVec 3) (s : State) : Outcome :=
  finish (s.vcompare tagI32 d a b m fun x y => decide (sLane tagI32 x ≤ sLane tagI32 y))

/-- VCMP.LTN.I32 (05 R156). -/
def execVcmpLtnI32 (d a b : BitVec 5) (m : BitVec 3) (s : State) : Outcome :=
  finish (s.vcompare tagI32 d a b m fun x y => decide (x < y))

/-- VCMP.LEN.I32 (05 R156). -/
def execVcmpLenI32 (d a b : BitVec 5) (m : BitVec 3) (s : State) : Outcome :=
  finish (s.vcompare tagI32 d a b m fun x y => decide (x ≤ y))

/-- VABS.I32 (05 R156). -/
def execVabsI32 (d a : BitVec 5) (m : BitVec 3) (s : State) : Outcome :=
  finish (s.vector1 tagI32 d a m fun x => wrapLane tagI32 (sLane tagI32 x).natAbs)

/-- VNEG.I32 (05 R156). -/
def execVnegI32 (d a : BitVec 5) (m : BitVec 3) (s : State) : Outcome :=
  finish (s.vector1 tagI32 d a m fun x => wrapLane tagI32 (-(sLane tagI32 x)))

/-- VRED.SUM.I32 (05 R158). -/
def execVredSumI32 (d a : BitVec 5) (m : BitVec 3) (x : BitVec 2) (s : State) : Outcome :=
  finish (s.vreduce tagI32 d a m x 0 fun p q => wrapLane tagI32 (p + q))

/-- VRED.MAX.I32 (05 R158). -/
def execVredMaxI32 (d a : BitVec 5) (m : BitVec 3) (x : BitVec 2) (s : State) : Outcome :=
  finish (s.vreduce tagI32 d a m x (2 ^ (intLane tagI32 - 1)) fun p q => if sLane tagI32 p < sLane tagI32 q then q else p)

/-- VRED.MIN.I32 (05 R158). -/
def execVredMinI32 (d a : BitVec 5) (m : BitVec 3) (x : BitVec 2) (s : State) : Outcome :=
  finish (s.vreduce tagI32 d a m x (2 ^ (intLane tagI32 - 1) - 1) fun p q => if sLane tagI32 q < sLane tagI32 p then q else p)

/-- VAND.I32 (05 R156). -/
def execVandI32 (d a b : BitVec 5) (m : BitVec 3) (s : State) : Outcome :=
  finish (s.vector2 tagI32 d a b m fun x y _ => x &&& y)

/-- VOR.I32 (05 R156). -/
def execVorI32 (d a b : BitVec 5) (m : BitVec 3) (s : State) : Outcome :=
  finish (s.vector2 tagI32 d a b m fun x y _ => x ||| y)

/-- VXOR.I32 (05 R156). -/
def execVxorI32 (d a b : BitVec 5) (m : BitVec 3) (s : State) : Outcome :=
  finish (s.vector2 tagI32 d a b m fun x y _ => x ^^^ y)

/-- VSHL.I32 (05 R156, R157). -/
def execVshlI32 (d a b : BitVec 5) (m : BitVec 3) (s : State) : Outcome :=
  finish (s.vector2 tagI32 d a b m fun x y _ => wrapLane tagI32 (x * 2 ^ laneShift tagI32 y))

/-- VSHR.I32 (05 R156, R157). -/
def execVshrI32 (d a b : BitVec 5) (m : BitVec 3) (s : State) : Outcome :=
  finish (s.vector2 tagI32 d a b m fun x y _ => x / 2 ^ laneShift tagI32 y)

/-- VSRA.I32 (05 R156, R157). -/
def execVsraI32 (d a b : BitVec 5) (m : BitVec 3) (s : State) : Outcome :=
  finish (s.vector2 tagI32 d a b m fun x y _ => wrapLane tagI32 (sLane tagI32 x / 2 ^ laneShift tagI32 y))

/-- VADD.SAT.I32 (05 R156). -/
def execVaddSatI32 (d a b : BitVec 5) (m : BitVec 3) (s : State) : Outcome :=
  finish (s.vector2 tagI32 d a b m fun x y _ => wrapLane tagI32 (clampInt (intLane tagI32) 0 (sLane tagI32 x + sLane tagI32 y)))

/-- VSUB.SAT.I32 (05 R156). -/
def execVsubSatI32 (d a b : BitVec 5) (m : BitVec 3) (s : State) : Outcome :=
  finish (s.vector2 tagI32 d a b m fun x y _ => wrapLane tagI32 (clampInt (intLane tagI32) 0 (sLane tagI32 x - sLane tagI32 y)))

/-- VADDN.SAT.I32 (05 R156). -/
def execVaddnSatI32 (d a b : BitVec 5) (m : BitVec 3) (s : State) : Outcome :=
  finish (s.vector2 tagI32 d a b m fun x y _ => wrapLane tagI32 (clampInt (intLane tagI32) 1 (x + y)))

/-- VSUBN.SAT.I32 (05 R156). -/
def execVsubnSatI32 (d a b : BitVec 5) (m : BitVec 3) (s : State) : Outcome :=
  finish (s.vector2 tagI32 d a b m fun x y _ => wrapLane tagI32 (clampInt (intLane tagI32) 1 ((x : Int) - y)))

/-- VADD.I16 (05 R156). -/
def execVaddI16 (d a b : BitVec 5) (m : BitVec 3) (s : State) : Outcome :=
  finish (s.vector2 tagI16 d a b m fun x y _ => wrapLane tagI16 (x + y))

/-- VSUB.I16 (05 R156). -/
def execVsubI16 (d a b : BitVec 5) (m : BitVec 3) (s : State) : Outcome :=
  finish (s.vector2 tagI16 d a b m fun x y _ => wrapLane tagI16 ((x : Int) - y))

/-- VMUL.I16 (05 R156). -/
def execVmulI16 (d a b : BitVec 5) (m : BitVec 3) (s : State) : Outcome :=
  finish (s.vector2 tagI16 d a b m fun x y _ => wrapLane tagI16 (x * y))

/-- VMAD.I16 (05 R156). -/
def execVmadI16 (d a b : BitVec 5) (m : BitVec 3) (s : State) : Outcome :=
  finish (s.vector3 tagI16 d a b m fun x y z => wrapLane tagI16 (z + x * y))

/-- VMIN.I16 (05 R156). -/
def execVminI16 (d a b : BitVec 5) (m : BitVec 3) (s : State) : Outcome :=
  finish (s.vector2 tagI16 d a b m fun x y _ => if sLane tagI16 y < sLane tagI16 x then y else x)

/-- VMAX.I16 (05 R156). -/
def execVmaxI16 (d a b : BitVec 5) (m : BitVec 3) (s : State) : Outcome :=
  finish (s.vector2 tagI16 d a b m fun x y _ => if sLane tagI16 x < sLane tagI16 y then y else x)

/-- VMINN.I16 (05 R156). -/
def execVminnI16 (d a b : BitVec 5) (m : BitVec 3) (s : State) : Outcome :=
  finish (s.vector2 tagI16 d a b m fun x y _ => if y < x then y else x)

/-- VMAXN.I16 (05 R156). -/
def execVmaxnI16 (d a b : BitVec 5) (m : BitVec 3) (s : State) : Outcome :=
  finish (s.vector2 tagI16 d a b m fun x y _ => if x < y then y else x)

/-- VCMP.EQ.I16 (05 R156). -/
def execVcmpEqI16 (d a b : BitVec 5) (m : BitVec 3) (s : State) : Outcome :=
  finish (s.vcompare tagI16 d a b m fun x y => x == y)

/-- VCMP.NE.I16 (05 R156). -/
def execVcmpNeI16 (d a b : BitVec 5) (m : BitVec 3) (s : State) : Outcome :=
  finish (s.vcompare tagI16 d a b m fun x y => x != y)

/-- VCMP.LT.I16 (05 R156). -/
def execVcmpLtI16 (d a b : BitVec 5) (m : BitVec 3) (s : State) : Outcome :=
  finish (s.vcompare tagI16 d a b m fun x y => decide (sLane tagI16 x < sLane tagI16 y))

/-- VCMP.LE.I16 (05 R156). -/
def execVcmpLeI16 (d a b : BitVec 5) (m : BitVec 3) (s : State) : Outcome :=
  finish (s.vcompare tagI16 d a b m fun x y => decide (sLane tagI16 x ≤ sLane tagI16 y))

/-- VCMP.LTN.I16 (05 R156). -/
def execVcmpLtnI16 (d a b : BitVec 5) (m : BitVec 3) (s : State) : Outcome :=
  finish (s.vcompare tagI16 d a b m fun x y => decide (x < y))

/-- VCMP.LEN.I16 (05 R156). -/
def execVcmpLenI16 (d a b : BitVec 5) (m : BitVec 3) (s : State) : Outcome :=
  finish (s.vcompare tagI16 d a b m fun x y => decide (x ≤ y))

/-- VABS.I16 (05 R156). -/
def execVabsI16 (d a : BitVec 5) (m : BitVec 3) (s : State) : Outcome :=
  finish (s.vector1 tagI16 d a m fun x => wrapLane tagI16 (sLane tagI16 x).natAbs)

/-- VNEG.I16 (05 R156). -/
def execVnegI16 (d a : BitVec 5) (m : BitVec 3) (s : State) : Outcome :=
  finish (s.vector1 tagI16 d a m fun x => wrapLane tagI16 (-(sLane tagI16 x)))

/-- VRED.SUM.I16 (05 R158). -/
def execVredSumI16 (d a : BitVec 5) (m : BitVec 3) (x : BitVec 2) (s : State) : Outcome :=
  finish (s.vreduce tagI16 d a m x 0 fun p q => wrapLane tagI16 (p + q))

/-- VRED.MAX.I16 (05 R158). -/
def execVredMaxI16 (d a : BitVec 5) (m : BitVec 3) (x : BitVec 2) (s : State) : Outcome :=
  finish (s.vreduce tagI16 d a m x (2 ^ (intLane tagI16 - 1)) fun p q => if sLane tagI16 p < sLane tagI16 q then q else p)

/-- VRED.MIN.I16 (05 R158). -/
def execVredMinI16 (d a : BitVec 5) (m : BitVec 3) (x : BitVec 2) (s : State) : Outcome :=
  finish (s.vreduce tagI16 d a m x (2 ^ (intLane tagI16 - 1) - 1) fun p q => if sLane tagI16 q < sLane tagI16 p then q else p)

/-- VAND.I16 (05 R156). -/
def execVandI16 (d a b : BitVec 5) (m : BitVec 3) (s : State) : Outcome :=
  finish (s.vector2 tagI16 d a b m fun x y _ => x &&& y)

/-- VOR.I16 (05 R156). -/
def execVorI16 (d a b : BitVec 5) (m : BitVec 3) (s : State) : Outcome :=
  finish (s.vector2 tagI16 d a b m fun x y _ => x ||| y)

/-- VXOR.I16 (05 R156). -/
def execVxorI16 (d a b : BitVec 5) (m : BitVec 3) (s : State) : Outcome :=
  finish (s.vector2 tagI16 d a b m fun x y _ => x ^^^ y)

/-- VSHL.I16 (05 R156, R157). -/
def execVshlI16 (d a b : BitVec 5) (m : BitVec 3) (s : State) : Outcome :=
  finish (s.vector2 tagI16 d a b m fun x y _ => wrapLane tagI16 (x * 2 ^ laneShift tagI16 y))

/-- VSHR.I16 (05 R156, R157). -/
def execVshrI16 (d a b : BitVec 5) (m : BitVec 3) (s : State) : Outcome :=
  finish (s.vector2 tagI16 d a b m fun x y _ => x / 2 ^ laneShift tagI16 y)

/-- VSRA.I16 (05 R156, R157). -/
def execVsraI16 (d a b : BitVec 5) (m : BitVec 3) (s : State) : Outcome :=
  finish (s.vector2 tagI16 d a b m fun x y _ => wrapLane tagI16 (sLane tagI16 x / 2 ^ laneShift tagI16 y))

/-- VADD.SAT.I16 (05 R156). -/
def execVaddSatI16 (d a b : BitVec 5) (m : BitVec 3) (s : State) : Outcome :=
  finish (s.vector2 tagI16 d a b m fun x y _ => wrapLane tagI16 (clampInt (intLane tagI16) 0 (sLane tagI16 x + sLane tagI16 y)))

/-- VSUB.SAT.I16 (05 R156). -/
def execVsubSatI16 (d a b : BitVec 5) (m : BitVec 3) (s : State) : Outcome :=
  finish (s.vector2 tagI16 d a b m fun x y _ => wrapLane tagI16 (clampInt (intLane tagI16) 0 (sLane tagI16 x - sLane tagI16 y)))

/-- VADDN.SAT.I16 (05 R156). -/
def execVaddnSatI16 (d a b : BitVec 5) (m : BitVec 3) (s : State) : Outcome :=
  finish (s.vector2 tagI16 d a b m fun x y _ => wrapLane tagI16 (clampInt (intLane tagI16) 1 (x + y)))

/-- VSUBN.SAT.I16 (05 R156). -/
def execVsubnSatI16 (d a b : BitVec 5) (m : BitVec 3) (s : State) : Outcome :=
  finish (s.vector2 tagI16 d a b m fun x y _ => wrapLane tagI16 (clampInt (intLane tagI16) 1 ((x : Int) - y)))

/-- VADD.I8 (05 R156). -/
def execVaddI8 (d a b : BitVec 5) (m : BitVec 3) (s : State) : Outcome :=
  finish (s.vector2 tagI8 d a b m fun x y _ => wrapLane tagI8 (x + y))

/-- VSUB.I8 (05 R156). -/
def execVsubI8 (d a b : BitVec 5) (m : BitVec 3) (s : State) : Outcome :=
  finish (s.vector2 tagI8 d a b m fun x y _ => wrapLane tagI8 ((x : Int) - y))

/-- VMUL.I8 (05 R156). -/
def execVmulI8 (d a b : BitVec 5) (m : BitVec 3) (s : State) : Outcome :=
  finish (s.vector2 tagI8 d a b m fun x y _ => wrapLane tagI8 (x * y))

/-- VMAD.I8 (05 R156). -/
def execVmadI8 (d a b : BitVec 5) (m : BitVec 3) (s : State) : Outcome :=
  finish (s.vector3 tagI8 d a b m fun x y z => wrapLane tagI8 (z + x * y))

/-- VMIN.I8 (05 R156). -/
def execVminI8 (d a b : BitVec 5) (m : BitVec 3) (s : State) : Outcome :=
  finish (s.vector2 tagI8 d a b m fun x y _ => if sLane tagI8 y < sLane tagI8 x then y else x)

/-- VMAX.I8 (05 R156). -/
def execVmaxI8 (d a b : BitVec 5) (m : BitVec 3) (s : State) : Outcome :=
  finish (s.vector2 tagI8 d a b m fun x y _ => if sLane tagI8 x < sLane tagI8 y then y else x)

/-- VMINN.I8 (05 R156). -/
def execVminnI8 (d a b : BitVec 5) (m : BitVec 3) (s : State) : Outcome :=
  finish (s.vector2 tagI8 d a b m fun x y _ => if y < x then y else x)

/-- VMAXN.I8 (05 R156). -/
def execVmaxnI8 (d a b : BitVec 5) (m : BitVec 3) (s : State) : Outcome :=
  finish (s.vector2 tagI8 d a b m fun x y _ => if x < y then y else x)

/-- VCMP.EQ.I8 (05 R156). -/
def execVcmpEqI8 (d a b : BitVec 5) (m : BitVec 3) (s : State) : Outcome :=
  finish (s.vcompare tagI8 d a b m fun x y => x == y)

/-- VCMP.NE.I8 (05 R156). -/
def execVcmpNeI8 (d a b : BitVec 5) (m : BitVec 3) (s : State) : Outcome :=
  finish (s.vcompare tagI8 d a b m fun x y => x != y)

/-- VCMP.LT.I8 (05 R156). -/
def execVcmpLtI8 (d a b : BitVec 5) (m : BitVec 3) (s : State) : Outcome :=
  finish (s.vcompare tagI8 d a b m fun x y => decide (sLane tagI8 x < sLane tagI8 y))

/-- VCMP.LE.I8 (05 R156). -/
def execVcmpLeI8 (d a b : BitVec 5) (m : BitVec 3) (s : State) : Outcome :=
  finish (s.vcompare tagI8 d a b m fun x y => decide (sLane tagI8 x ≤ sLane tagI8 y))

/-- VCMP.LTN.I8 (05 R156). -/
def execVcmpLtnI8 (d a b : BitVec 5) (m : BitVec 3) (s : State) : Outcome :=
  finish (s.vcompare tagI8 d a b m fun x y => decide (x < y))

/-- VCMP.LEN.I8 (05 R156). -/
def execVcmpLenI8 (d a b : BitVec 5) (m : BitVec 3) (s : State) : Outcome :=
  finish (s.vcompare tagI8 d a b m fun x y => decide (x ≤ y))

/-- VABS.I8 (05 R156). -/
def execVabsI8 (d a : BitVec 5) (m : BitVec 3) (s : State) : Outcome :=
  finish (s.vector1 tagI8 d a m fun x => wrapLane tagI8 (sLane tagI8 x).natAbs)

/-- VNEG.I8 (05 R156). -/
def execVnegI8 (d a : BitVec 5) (m : BitVec 3) (s : State) : Outcome :=
  finish (s.vector1 tagI8 d a m fun x => wrapLane tagI8 (-(sLane tagI8 x)))

/-- VRED.SUM.I8 (05 R158). -/
def execVredSumI8 (d a : BitVec 5) (m : BitVec 3) (x : BitVec 2) (s : State) : Outcome :=
  finish (s.vreduce tagI8 d a m x 0 fun p q => wrapLane tagI8 (p + q))

/-- VRED.MAX.I8 (05 R158). -/
def execVredMaxI8 (d a : BitVec 5) (m : BitVec 3) (x : BitVec 2) (s : State) : Outcome :=
  finish (s.vreduce tagI8 d a m x (2 ^ (intLane tagI8 - 1)) fun p q => if sLane tagI8 p < sLane tagI8 q then q else p)

/-- VRED.MIN.I8 (05 R158). -/
def execVredMinI8 (d a : BitVec 5) (m : BitVec 3) (x : BitVec 2) (s : State) : Outcome :=
  finish (s.vreduce tagI8 d a m x (2 ^ (intLane tagI8 - 1) - 1) fun p q => if sLane tagI8 q < sLane tagI8 p then q else p)

/-- VAND.I8 (05 R156). -/
def execVandI8 (d a b : BitVec 5) (m : BitVec 3) (s : State) : Outcome :=
  finish (s.vector2 tagI8 d a b m fun x y _ => x &&& y)

/-- VOR.I8 (05 R156). -/
def execVorI8 (d a b : BitVec 5) (m : BitVec 3) (s : State) : Outcome :=
  finish (s.vector2 tagI8 d a b m fun x y _ => x ||| y)

/-- VXOR.I8 (05 R156). -/
def execVxorI8 (d a b : BitVec 5) (m : BitVec 3) (s : State) : Outcome :=
  finish (s.vector2 tagI8 d a b m fun x y _ => x ^^^ y)

/-- VSHL.I8 (05 R156, R157). -/
def execVshlI8 (d a b : BitVec 5) (m : BitVec 3) (s : State) : Outcome :=
  finish (s.vector2 tagI8 d a b m fun x y _ => wrapLane tagI8 (x * 2 ^ laneShift tagI8 y))

/-- VSHR.I8 (05 R156, R157). -/
def execVshrI8 (d a b : BitVec 5) (m : BitVec 3) (s : State) : Outcome :=
  finish (s.vector2 tagI8 d a b m fun x y _ => x / 2 ^ laneShift tagI8 y)

/-- VSRA.I8 (05 R156, R157). -/
def execVsraI8 (d a b : BitVec 5) (m : BitVec 3) (s : State) : Outcome :=
  finish (s.vector2 tagI8 d a b m fun x y _ => wrapLane tagI8 (sLane tagI8 x / 2 ^ laneShift tagI8 y))

/-- VADD.SAT.I8 (05 R156). -/
def execVaddSatI8 (d a b : BitVec 5) (m : BitVec 3) (s : State) : Outcome :=
  finish (s.vector2 tagI8 d a b m fun x y _ => wrapLane tagI8 (clampInt (intLane tagI8) 0 (sLane tagI8 x + sLane tagI8 y)))

/-- VSUB.SAT.I8 (05 R156). -/
def execVsubSatI8 (d a b : BitVec 5) (m : BitVec 3) (s : State) : Outcome :=
  finish (s.vector2 tagI8 d a b m fun x y _ => wrapLane tagI8 (clampInt (intLane tagI8) 0 (sLane tagI8 x - sLane tagI8 y)))

/-- VADDN.SAT.I8 (05 R156). -/
def execVaddnSatI8 (d a b : BitVec 5) (m : BitVec 3) (s : State) : Outcome :=
  finish (s.vector2 tagI8 d a b m fun x y _ => wrapLane tagI8 (clampInt (intLane tagI8) 1 (x + y)))

/-- VSUBN.SAT.I8 (05 R156). -/
def execVsubnSatI8 (d a b : BitVec 5) (m : BitVec 3) (s : State) : Outcome :=
  finish (s.vector2 tagI8 d a b m fun x y _ => wrapLane tagI8 (clampInt (intLane tagI8) 1 ((x : Int) - y)))

end Sys2Proof.Machine
end

