-- ==== Sys2Proof/Machine/VectorMove.lean ====
section
/-!
DEFINITION. Conversions, special functions, axis operations, moves and element masks of the vector pipe (05 R159 to R165).
-/
namespace Sys2Proof.Machine

/-- VCVT (05 R159). -/
def State.vcvt (s : State) (t : BitVec 4) (d a : BitVec 5) (m : BitVec 3) : Course := do
  s.needRegs [d, a]
  s.needValue a
  let v := s.vreg a
  pure ((s.wake [d, a]).vwriteMasked d m (convData s.modes v.tag t v.image) t (v.tag == tagPoison))

/-- The lane of VCVT.P (05 R160): packing takes the low half of the lanes from va and the rest from vb; otherwise the
upper lanes of va. -/
def packLane (m : Modes) (src dst : BitVec 4) (x y : Elem) (j : Nat) : Nat :=
  let lt := tagLanes dst
  let ls := tagLanes src
  if ls < lt then convLane m src dst (laneOf ls (j % (lt / 2) % ls) (if j < lt / 2 then x else y))
  else convLane m src dst (laneOf ls ((j + lt) % ls) x)

/-- VCVT.P (05 R160, R499): a VOID va gives zeros, a POISON va is copied; vb is read only when packing, in va's tag. -/
def State.vcvtP (s : State) (t : BitVec 4) (d a b : BitVec 5) (m : BitVec 3) : Course := do
  s.needRegs [d, a, b]
  s.needValue a
  let v := s.vreg a
  let w := s.vreg b
  let packs := decide (tagLanes v.tag < tagLanes t)
  let s1 := s.wake [d, a, b]
  if v.tag == tagVoid || v.tag == tagPoison then
    pure (s1.vwriteMasked d m v.image t (v.tag == tagPoison))
  else
    let y := convData s.modes w.tag v.tag w.image
    let n := tagLanes t
    let out := List.zipWith (fun p q => joinLanes n ((List.range n).map (packLane s.modes v.tag t p q))) v.image y
    pure (s1.vwriteMasked d m out t (packs && w.tag == tagPoison))

/-- A special function on F32 lanes (05 R161): RoundTo of the exact value under FMODE. -/
def State.special (s : State) (d a : BitVec 5) (m : BitVec 3) (f : FVal → FVal) : Course :=
  s.vector1 tagF32 d a m fun x => s.fop tagF32 (fun v _ _ => f v) x x x

/-- Elements moved along an axis, unchanged, with va's tag (05 R162): `f` gives the source of element (row, column). -/
def State.vaxis (s : State) (d a : BitVec 5) (f : Nat → Nat → Nat) : Course := do
  s.needRegs [d, a]
  let v := s.vreg a
  pure ((s.wake [d, a]).vwrite d ((List.range 1024).map fun e => v.image.getD (f (e / 64) (e % 64)) 0) v.tag false)

/-- An element mask written from two others (05 R164). -/
def State.maskOp (s : State) (d a b : BitVec 3) (f : BitVec 1024 → BitVec 1024 → BitVec 1024) : State :=
  s.setMask d (f (s.mask a) (s.mask b))

/-- The image of VSPLAT (05 R163). -/
def splatImage (t : BitVec 4) (v : Word) : Elem :=
  if t = tagMask then (if v = 0 then 0 else 1)
  else joinLanes (tagLanes t) (List.replicate (tagLanes t) (v.toNat % 2 ^ (32 / tagLanes t)))

/-- VSPLAT (05 R163): a poisoned scalar makes the result POISON (05 R152). -/
def State.vsplat (s : State) (t : BitVec 4) (d a : BitVec 5) (m : BitVec 3) : Course := do
  s.needRegs [d]
  pure ((s.wake [d]).vwriteMasked d m (List.replicate 1024 (splatImage t (s.reg a))) t (s.regPoison a))

/-- Bits counted (05 R164). -/
def countMask (m : BitVec 1024) : Nat := ((List.range 1024).filter fun e => m.getLsbD e).length

/-- A mask from the elements that are not zero. An element tagged MASK may hold other bits than bit 0 (VSETE writes them):
here any of them counts, while a conversion from MASK looks at bit 0 (log entry 67). -/
def maskOfElems (xs : List Elem) : BitVec 1024 :=
  BitVec.ofNat 1024 (xs.foldr (fun x acc => (if x = 0 then 0 else 1) + 2 * acc) 0)

/-- VCVT.F32 (05 R159). -/
def execVcvtF32 (d a : BitVec 5) (m : BitVec 3) (s : State) : Outcome :=
  finish (s.vcvt tagF32 d a m)

/-- VCVT.BF16 (05 R159). -/
def execVcvtBf16 (d a : BitVec 5) (m : BitVec 3) (s : State) : Outcome :=
  finish (s.vcvt tagBf16 d a m)

/-- VCVT.F16 (05 R159). -/
def execVcvtF16 (d a : BitVec 5) (m : BitVec 3) (s : State) : Outcome :=
  finish (s.vcvt tagF16 d a m)

/-- VCVT.I32 (05 R159). -/
def execVcvtI32 (d a : BitVec 5) (m : BitVec 3) (s : State) : Outcome :=
  finish (s.vcvt tagI32 d a m)

/-- VCVT.I16 (05 R159). -/
def execVcvtI16 (d a : BitVec 5) (m : BitVec 3) (s : State) : Outcome :=
  finish (s.vcvt tagI16 d a m)

/-- VCVT.I8 (05 R159). -/
def execVcvtI8 (d a : BitVec 5) (m : BitVec 3) (s : State) : Outcome :=
  finish (s.vcvt tagI8 d a m)

/-- VCVT.E4M3 (05 R159). -/
def execVcvtE4m3 (d a : BitVec 5) (m : BitVec 3) (s : State) : Outcome :=
  finish (s.vcvt tagE4m3 d a m)

/-- VCVT.E5M2 (05 R159). -/
def execVcvtE5m2 (d a : BitVec 5) (m : BitVec 3) (s : State) : Outcome :=
  finish (s.vcvt tagE5m2 d a m)

/-- VCVT.P.F32 (05 R160). -/
def execVcvtPF32 (d a b : BitVec 5) (m : BitVec 3) (s : State) : Outcome :=
  finish (s.vcvtP tagF32 d a b m)

/-- VCVT.P.BF16 (05 R160). -/
def execVcvtPBf16 (d a b : BitVec 5) (m : BitVec 3) (s : State) : Outcome :=
  finish (s.vcvtP tagBf16 d a b m)

/-- VCVT.P.F16 (05 R160). -/
def execVcvtPF16 (d a b : BitVec 5) (m : BitVec 3) (s : State) : Outcome :=
  finish (s.vcvtP tagF16 d a b m)

/-- VCVT.P.I32 (05 R160). -/
def execVcvtPI32 (d a b : BitVec 5) (m : BitVec 3) (s : State) : Outcome :=
  finish (s.vcvtP tagI32 d a b m)

/-- VCVT.P.I16 (05 R160). -/
def execVcvtPI16 (d a b : BitVec 5) (m : BitVec 3) (s : State) : Outcome :=
  finish (s.vcvtP tagI16 d a b m)

/-- VCVT.P.I8 (05 R160). -/
def execVcvtPI8 (d a b : BitVec 5) (m : BitVec 3) (s : State) : Outcome :=
  finish (s.vcvtP tagI8 d a b m)

/-- VCVT.P.E4M3 (05 R160). -/
def execVcvtPE4m3 (d a b : BitVec 5) (m : BitVec 3) (s : State) : Outcome :=
  finish (s.vcvtP tagE4m3 d a b m)

/-- VCVT.P.E5M2 (05 R160). -/
def execVcvtPE5m2 (d a b : BitVec 5) (m : BitVec 3) (s : State) : Outcome :=
  finish (s.vcvtP tagE5m2 d a b m)

/-- VROT (05 R162). -/
def execVrot (d a : BitVec 5) (k : BitVec 6) (x : BitVec 2) (s : State) : Outcome :=
  finish (s.vaxis d a fun r c => if x = 1 then 64 * r + (c + k.toNat) % 64 else 64 * ((r + k.toNat) % 16) + c)

/-- VBCAST (05 R162). -/
def execVbcast (d a : BitVec 5) (k : BitVec 6) (x : BitVec 2) (s : State) : Outcome :=
  finish (s.vaxis d a fun r c => if x = 1 then 64 * r + k.toNat else 64 * k.toNat + c)

/-- MAND (05 R164). -/
def execMand (d a b : BitVec 3) (s : State) : Outcome :=
  finish (.ok (s.maskOp d a b fun x y => x &&& y))

/-- MOR (05 R164). -/
def execMor (d a b : BitVec 3) (s : State) : Outcome :=
  finish (.ok (s.maskOp d a b fun x y => x ||| y))

/-- MXOR (05 R164). -/
def execMxor (d a b : BitVec 3) (s : State) : Outcome :=
  finish (.ok (s.maskOp d a b fun x y => x ^^^ y))

/-- MANDN (05 R164). -/
def execMandn (d a b : BitVec 3) (s : State) : Outcome :=
  finish (.ok (s.maskOp d a b fun x y => x &&& ~~~y))

/-- MNOT (05 R164). -/
def execMnot (d a : BitVec 3) (s : State) : Outcome :=
  finish (.ok (s.maskOp d a a fun x _ => ~~~x))

/-- MFROMV: bit e is 1 for a lane 0 that is not zero, or NaN; a POISON source traps (05 R152, R164). -/
def execMfromv (d : BitVec 3) (a : BitVec 5) (s : State) : Outcome :=
  finish do
    s.needRegs [a]
    if s.vtag a == tagPoison then s.trapWord causePoisonConsumed (32 + a.toNat)
    s.needValue a
    let v := s.vreg a
    pure ((s.wake [a]).setMask d (maskOfElems (convData s.modes v.tag tagMask v.image)))

/-- MTOV (05 R164). -/
def execMtov (d : BitVec 5) (a : BitVec 3) (s : State) : Outcome :=
  finish do
    s.needRegs [d]
    pure ((s.wake [d]).vwrite d ((List.range 1024).map fun e => if (s.mask a).getLsbD e then 1 else 0) tagMask false)

/-- MPOPC (05 R164). -/
def execMpopc (d : BitVec 5) (a : BitVec 3) (s : State) : Outcome :=
  finish (.ok (s.setReg d (BitVec.ofNat 64 (countMask (s.mask a))) false))

/-- VSEL: va unchecked, vb checked as va's tag; a VOID va leaves vb its own tag, a POISON va leaves vb as it is
(05 R150, R165, R499). -/
def execVsel (d a b : BitVec 5) (m : BitVec 3) (s : State) : Outcome :=
  finish do
    s.needRegs [d, a, b]
    let v := s.vreg a
    let w := s.vreg b
    let (y, q) ← if v.tag == tagVoid || v.tag == tagPoison then pure (w.image, w.tag == tagPoison) else s.vsrc b v.tag
    pure ((s.wake [d, a, b]).vwrite d (chooseElems (s.mask m) v.image y) (if v.tag = tagVoid then w.tag else v.tag)
      (q || v.tag == tagPoison))

/-- VEXP2 (05 R161). -/
def execVexp2 (d a : BitVec 5) (m : BitVec 3) (s : State) : Outcome :=
  finish (s.special d a m exp2Val)

/-- VLOG2 (05 R161). -/
def execVlog2 (d a : BitVec 5) (m : BitVec 3) (s : State) : Outcome :=
  finish (s.special d a m log2Val)

/-- VRCP (05 R161). -/
def execVrcp (d a : BitVec 5) (m : BitVec 3) (s : State) : Outcome :=
  finish (s.special d a m recipVal)

/-- VRSQ (05 R161). -/
def execVrsq (d a : BitVec 5) (m : BitVec 3) (s : State) : Outcome :=
  finish (s.special d a m rsqrtVal)

/-- VTANH (05 R161). -/
def execVtanh (d a : BitVec 5) (m : BitVec 3) (s : State) : Outcome :=
  finish (s.special d a m tanhVal)

/-- VSILU (05 R161). -/
def execVsilu (d a : BitVec 5) (m : BitVec 3) (s : State) : Outcome :=
  finish (s.special d a m siluVal)

/-- VMOV: a masked copy with va's tag (05 R163). -/
def execVmov (d a : BitVec 5) (m : BitVec 3) (s : State) : Outcome :=
  finish do
    s.needRegs [d, a]
    let v := s.vreg a
    pure ((s.wake [d, a]).vwriteMasked d m v.image v.tag (v.tag == tagPoison))

/-- VGET: the tag is ignored, but POISON sets the poison bit (05 R152, R163). -/
def execVget (d a b : BitVec 5) (s : State) : Outcome :=
  finish do
    s.needRegs [a]
    s.needClean b
    let v := s.vreg a
    pure ((s.wake [a]).setReg d ((v.image.getD ((s.reg b).toNat % 1024) 0).setWidth 64) (v.tag == tagPoison))

/-- VSETE: one element of vd, which is read as a source; I32 when vd is VOID (05 R150, R151, R163). -/
def execVsete (d a b : BitVec 5) (s : State) : Outcome :=
  finish do
    s.needRegs [d]
    s.needClean b
    let v := s.vreg d
    pure ((s.wake [d]).vwrite d (v.image.set ((s.reg b).toNat % 1024) ((s.reg a).setWidth 32))
      (if v.tag = tagVoid then tagI32 else v.tag) (s.regPoison a || v.tag == tagPoison))

/-- VIDX (05 R163). -/
def execVidx (d : BitVec 5) (m : BitVec 3) (s : State) : Outcome :=
  finish do
    s.needRegs [d]
    pure ((s.wake [d]).vwriteMasked d m ((List.range 1024).map fun e => BitVec.ofNat 32 e) tagI32 false)

/-- VSPLAT.F32 (05 R163). -/
def execVsplatF32 (d a : BitVec 5) (m : BitVec 3) (s : State) : Outcome :=
  finish (s.vsplat tagF32 d a m)

/-- VSPLAT.BF16 (05 R163). -/
def execVsplatBf16 (d a : BitVec 5) (m : BitVec 3) (s : State) : Outcome :=
  finish (s.vsplat tagBf16 d a m)

/-- VSPLAT.F16 (05 R163). -/
def execVsplatF16 (d a : BitVec 5) (m : BitVec 3) (s : State) : Outcome :=
  finish (s.vsplat tagF16 d a m)

/-- VSPLAT.I32 (05 R163). -/
def execVsplatI32 (d a : BitVec 5) (m : BitVec 3) (s : State) : Outcome :=
  finish (s.vsplat tagI32 d a m)

/-- VSPLAT.I16 (05 R163). -/
def execVsplatI16 (d a : BitVec 5) (m : BitVec 3) (s : State) : Outcome :=
  finish (s.vsplat tagI16 d a m)

/-- VSPLAT.I8 (05 R163). -/
def execVsplatI8 (d a : BitVec 5) (m : BitVec 3) (s : State) : Outcome :=
  finish (s.vsplat tagI8 d a m)

/-- VSPLAT.E4M3 (05 R163). -/
def execVsplatE4m3 (d a : BitVec 5) (m : BitVec 3) (s : State) : Outcome :=
  finish (s.vsplat tagE4m3 d a m)

/-- VSPLAT.E5M2 (05 R163). -/
def execVsplatE5m2 (d a : BitVec 5) (m : BitVec 3) (s : State) : Outcome :=
  finish (s.vsplat tagE5m2 d a m)

/-- VSPLAT.MASK (05 R163). -/
def execVsplatMask (d a : BitVec 5) (m : BitVec 3) (s : State) : Outcome :=
  finish (s.vsplat tagMask d a m)

end Sys2Proof.Machine
end

