-- ==== Sys2Proof/Machine/Tile.lean ====
section
/-!
DEFINITION. Tiles: the tile table (01 R33 to R36), the scratchpad bytes of a row (01 R34), region fills and write-backs
(10 R350), the vector tile instructions (05 R166 to R174) and tile management (08 R260 to R265).
-/
namespace Sys2Proof.Machine

def causeTileInvalid : BitVec 10 := 0x200
def causeTileNotOwned : BitVec 10 := 0x201
def causeTileRange : BitVec 10 := 0x202
def causeTileFormat : BitVec 10 := 0x203
def causeTileInUse : BitVec 10 := 0x204
def causeMxFormat : BitVec 10 := 0x082
def causeGrainCheck : BitVec 10 := 0x183

/-! ## The tile table -/

def State.setTile (s : State) (i : Nat) (t : Tile) : State :=
  { s with core := { s.core with tiles := updAt s.core.tiles i fun _ => t } }

def State.updTile (s : State) (i : Nat) (f : Tile → Tile) : State :=
  { s with core := { s.core with tiles := updAt s.core.tiles i f } }

/-- The failure of a tile index that the context does not own (01 R33). -/
def State.tileCause (s : State) (i : Nat) : Option (BitVec 10) :=
  let t := s.tile i
  if !t.valid then some causeTileInvalid
  else if t.owner.toNat ≠ s.ctxNum then some causeTileNotOwned
  else none

/-- A tile of the context, for a stream instruction (01 R33). -/
def State.ownTile (s : State) (i : BitVec 8) : Except Stop Tile :=
  match s.tileCause i.toNat with
  | some c => s.trapWord c i.toNat
  | none => .ok (s.tile i.toNat)

/-- MX and MX4 tiles hold grains (01 R33). -/
def Tile.isMx (t : Tile) : Bool := t.fmt == 9 || t.fmt == 10

/-- Units of 16 bytes that the tile's storage spans (01 R34). -/
def Tile.footprint (t : Tile) : Nat :=
  if t.modlog = 0 then t.pitch.toNat * (t.rows.toNat + 1) else t.pitch.toNat * 2 ^ t.modlog.toNat

/-- The conditions of R34 on an entry. -/
def Tile.sound (t : Tile) : Bool :=
  decide (1 ≤ t.pitch.toNat) && decide (1 ≤ t.width.toNat) && decide (t.width.toNat ≤ 4096)
    && decide (t.modlog.toNat ≤ 10) && decide (t.base.toNat + t.footprint ≤ 8192)
    && decide (t.width.toNat ≤ 16 * t.pitch.toNat)
    && (t.modlog == 0 || decide (t.rows.toNat + 1 ≤ 2 ^ t.modlog.toNat))

/-- May a reader issue (01 R35, R36)? -/
def Tile.mayRead (t : Tile) : Bool := t.state == .ready && decide (t.rdcnt.toNat < 63)

/-- May a writer issue? -/
def Tile.mayWrite (t : Tile) : Bool := (t.state == .empty || t.state == .ready) && t.rdcnt == 0

/-- May a rake store, or a command that reads and writes the tile, issue? -/
def Tile.mayStore (t : Tile) : Bool := t.state == .ready && t.rdcnt == 0

/-- A region-mapped tile that its next use fills first (01 R35). -/
def Tile.needsFill (t : Tile) : Bool := t.rmap && !t.touched && t.state == .empty

/-- A writer completes: READY and the next generation (01 R33, R35); a region-mapped tile becomes dirty. -/
def Tile.written (t : Tile) : Tile := { t with state := .ready, gen := t.gen + 1, dirty := t.rmap || t.dirty }

/-! ## Scratchpad bytes -/

/-- `n` scratchpad bytes with their uncorrectable marks. -/
def CoreSt.spadRead (c : CoreSt) : Nat → Nat → List Marked
  | _, 0 => []
  | a, n + 1 => (c.spad.read a, c.ue.contains a) :: c.spadRead (a + 1) n

/-- Scratchpad bytes written, with their marks. -/
def CoreSt.spadWrite (c : CoreSt) : Nat → List Marked → CoreSt
  | _, [] => c
  | a, (b, p) :: t =>
    CoreSt.spadWrite
      { c with spad := c.spad.write a b, ue := if p then insertNat a c.ue else c.ue.filter (· != a) } (a + 1) t

/-- `n` bytes of a tile row from a byte offset. -/
def State.rowRead (s : State) (t : Tile) (row off n : Nat) : List Marked := s.core.spadRead (t.rowAddr row + off) n

/-- Bytes of a tile row replaced from a byte offset; the others stay. -/
def State.rowWrite (s : State) (t : Tile) (row off : Nat) (bs : List Marked) : State :=
  { s with core := s.core.spadWrite (t.rowAddr row + off) bs }

/-- Bytes without marks. -/
def clean (bs : List Byte) : List Marked := bs.map fun b => (b, false)

/-! ## Region-mapped tiles (10 R350) -/

/-- Rows 0 … k−1 read from the region: class 0, device scope, and after the accesses to their bytes that come before place `seq`. -/
def State.fillRows (s : State) (seq who : Nat) (kernel : Bool) (t : Tile) : Nat → State × Except Hitch Unit
  | 0 => (s, .ok ())
  | k + 1 =>
    match s.fillRows seq who kernel t k with
    | (s1, .error e) => (s1, .error e)
    | (s1, .ok _) =>
      match s1.readRangeAt seq who kernel 0 scopeDevice (t.rowVa k) t.width.toNat with
      | (s2, .error e) => (s2, .error e)
      | (s2, .ok bs) => (s2.rowWrite t k 0 bs, .ok ())

/-- Every row of the region translated; nothing is moved. -/
def State.probeRows (s : State) (kernel : Bool) (kind : Kind) (t : Tile) : Nat → State × Except Hitch Unit
  | 0 => (s, .ok ())
  | k + 1 =>
    match s.probeRows kernel kind t k with
    | (s1, .error e) => (s1, .error e)
    | (s1, .ok _) =>
      match s1.range kernel kind (t.rowVa k) t.width.toNat with
      | (s2, .error e) => (s2, .error e)
      | (s2, .ok _) => (s2, .ok ())

/-- The first touch of a region-mapped tile (01 R35, 10 R350): it is filled and stays FILLING until REGION_FILL_COMPLETE.
A fill that faults leaves the tile EMPTY and not touched. -/
def State.startFill (s : State) (seq who : Nat) (kernel : Bool) (i : Nat) : State × Except Hitch Unit :=
  let t := s.tile i
  match s.fillRows seq who kernel t (t.rows.toNat + 1) with
  | (s1, .error e) => (s1, .error e)
  | (s1, .ok _) => ((s1.updTile i fun t => { t with state := .filling }).later (.regionFill i), .ok ())

/-- REGION_FILL_COMPLETE (01 R35): TOUCHED is set, and the tile is READY with its next generation. -/
def execRegionFillComplete (tile : Nat) (s : State) : Outcome :=
  let t := s.tile tile
  if t.valid && t.rmap && !t.touched && t.state == .filling then
    .next (s.setTile tile { t with state := .ready, gen := t.gen + 1, touched := true, dirty := false })
  else .next s

/-- A tile that a stream instruction uses: a first touch fills it, and the instruction waits until `may` holds (01 R36). -/
def State.streamTile (s : State) (i : BitVec 8) (may : Tile → Bool) : Except Stop Unit :=
  let t := s.tile i.toNat
  if t.needsFill then
    let s0 := s.drain
    if !s0.quiet (oneClass 0) s0.ctx.cmdSeq then .error (.stall s0)
    else
      match s0.startFill s0.ctx.cmdSeq 3 s.kernel i.toNat with
      | (s1, .error e) => .error (s1.blocked e .read)
      | (s1, .ok _) => .error (.stall s1)
  else if may t then .ok ()
  else .error (.stall s)

/-- Rows 0 … k−1 written back to the region, from row `from_` on, after the accesses to their bytes that come before place `seq`. -/
def State.backRows (s : State) (seq : Nat) (kernel : Bool) (cls : BitVec 4) (scope : BitVec 3) (t : Tile) (from_ : Nat) :
    Nat → State × Except (Hitch × Nat) Unit
  | 0 => (s, .ok ())
  | k + 1 =>
    match s.backRows seq kernel cls scope t from_ k with
    | (s1, .error e) => (s1, .error e)
    | (s1, .ok _) =>
      if k < from_ then (s1, .ok ())
      else
        match s1.writeRangeAt seq kernel cls scope (t.rowVa k) (s1.rowRead t k 0 t.width.toNat) with
        | (s2, .error e) => (s2, .error (e, k))
        | (s2, .ok _) => (s2, .ok ())

/-! ## VLD, VST, VPERM -/

/-- Bytes of a tile row that a vector access moves (05 R166). -/
def Tile.vecBytes (t : Tile) : Nat := min t.width.toNat 256

/-- A register row from bytes, the rest zero (05 R167). -/
def rowElems (bs : List Byte) : List Elem :=
  (List.range 64).map fun c => BitVec.ofNat 32 (leNat ((bs.drop (4 * c)).take 4))

/-- What a VLD finds in a grain (05 R169, 02 R75): its 32 F32 images and whether it is uncorrectable, or a trap. -/
inductive GrainLoad where
  | elems (xs : List Elem) (poison : Bool)
  | trap (cause : BitVec 10)

/-- An element's image in F32: RoundTo under FMODE where it does not fit (05 R169); a subnormal one is a zero under FTZ
(02 R65). -/
def blockElem (m : Modes) (f : Efmt) (scale code : Nat) : Elem :=
  BitVec.ofNat 32 (flushF32 m.ftz (fmtF32.round m.rm (.conv m.sat) (blockVal f scale code)))

/-- A grain read by a VLD. A grain with an uncorrectable byte is not checked, and its value bits are free. -/
def loadGrain (m : Modes) (mx4 : Bool) (tick : Nat) (g : List Marked) : GrainLoad :=
  if g.any (·.2) then .elems ((List.range 32).map fun k => Config.freeElem tick k) true
  else
    match readGrain (g.map (·.1)) mx4 with
    | .bad => .trap causeGrainCheck
    | .format => .trap causeMxFormat
    | .ok f sc es => .elems (es.map fun e => blockElem m f sc e) false

/-- The grains of a row, in order: their elements, whether one was uncorrectable, or the first trap with its number
2 × row + grain. -/
def State.loadGrains (s : State) (t : Tile) (row : Nat) : Except (BitVec 10 × Nat) (List Elem × Bool) :=
  let g (h : Nat) := loadGrain s.modes (t.fmt == 10) (s.tick + 2 * row + h) (s.rowRead t row (36 * h) 36)
  match g 0, g 1 with
  | .trap c, _ => .error (c, 2 * row)
  | .elems _ _, .trap c => .error (c, 2 * row + 1)
  | .elems x p, .elems y q => .ok (x ++ y, p || q)

/-- One register row of a VLD (05 R167). -/
def State.loadRow (s : State) (t : Tile) (row : Nat) : Except (BitVec 10 × Nat) (List Elem × Bool) :=
  if t.rows.toNat < row then .ok (List.replicate 64 0, false)
  else if t.isMx then s.loadGrains t row
  else
    let bs := s.rowRead t row 0 t.vecBytes
    .ok (rowElems (bs.map (·.1)), bs.any (·.2))

/-- Sixteen rows from `first`. -/
def State.loadRows (s : State) (t : Tile) (first : Nat) : Nat → Except (BitVec 10 × Nat) (List Elem × Bool)
  | 0 => .ok ([], false)
  | k + 1 =>
    match s.loadRows t first k with
    | .error e => .error e
    | .ok (xs, p) =>
      match s.loadRow t (first + k) with
      | .error e => .error e
      | .ok (ys, q) => .ok (xs ++ ys, p || q)

/-- The checks of a vector tile access (05 R167, R168, R174). -/
def State.vecTile (s : State) (i : BitVec 8) (r : BitVec 7) (noMx : Bool) : Except Stop (Tile × Nat) := do
  let t ← s.ownTile i
  let first := 16 * r.toNat
  if t.rows.toNat < first then s.trapWord causeTileRange first
  else if t.isMx && (noMx || decide (t.width.toNat < 72)) then s.trapWord causeTileFormat i.toNat
  else pure (t, first)

/-- The tag a VLD gives, and the one a VST expects outside RAW tiles (05 R166). -/
def Tile.vecTag (t : Tile) : BitVec 4 := if t.isMx then tagF32 else if t.fmt = 0 then tagI32 else t.fmt

/-- A context with 16 moves on the crossbar stalls its next (05 R173). -/
def State.needCrossbar (s : State) : Except Stop Unit := if 16 ≤ s.ctx.ctl.xc.toNat then .error (.stall s) else .ok ()

/-- A crossbar instruction issued: XC counts it until its move completes, which takes time that the spec does not give
(05 R173, log entry 9). What it does to registers and tiles is done at its issue. -/
def State.onCrossbar (s : State) : State := s.setCtl fun c => { c with xc := c.xc + 1 }

/-- VLD (05 R167, R169). -/
def execVld (d : BitVec 5) (t : BitVec 8) (r : BitVec 7) (s : State) : Outcome :=
  finish do
    s.needRegs [d]
    s.needCrossbar
    let (e, first) ← s.vecTile t r false
    s.streamTile t Tile.mayRead
    match s.loadRows e first 16 with
    | .error (c, n) => s.trapWord c n
    | .ok (xs, p) => pure (((s.wake [d]).vwrite d xs e.vecTag p).bump).onCrossbar

/-- A register row as bytes. -/
def rowBytes (xs : List Elem) : List Byte := xs.flatMap fun x => leBytes 4 x.toNat

/-- A grain that a VST writes from 32 F32 images (05 R169), subnormal ones taken as zeros under FTZ (02 R65): with ZB an
all-zero block becomes a ZERO block. -/
def storeGrain (f : Efmt) (zb ftz : Bool) (xs : List Elem) : List Byte :=
  let vs := xs.map fun x => fmtF32.decode (flushF32 ftz x.toNat)
  if zb && vs.all (·.isZero) then mkGrain 6 0x7F (List.replicate 32 0)
  else
    let (sc, es) := quantBlock f vs
    mkGrain (BitVec.ofNat 8 f.code) (BitVec.ofNat 8 sc) (es.map fun e => BitVec.ofNat 8 e)

/-- The bytes that a VST writes of one register row. -/
def State.storeBytes (s : State) (t : Tile) (xs : List Elem) : List Byte :=
  if t.isMx then
    let f := if t.fmt = 10 then Efmt.e2m1 else (efmtOf (s.ctx.ctl.vqfmt.extractLsb' 0 3 |>.setWidth 8) false).getD .zero
    let zb := s.ctx.ctl.vqfmt.getLsbD 3
    storeGrain f zb s.modes.ftz (xs.take 32) ++ storeGrain f zb s.modes.ftz (xs.drop 32)
  else (rowBytes xs).take t.vecBytes

/-- Rows of a VST that lie in the tile. -/
def Tile.vstRows (t : Tile) (first : Nat) : Nat := min 16 (t.rows.toNat + 1 - first)

/-- Rows first … first + k − 1 written from register rows. -/
def State.storeRows (s : State) (t : Tile) (first : Nat) (xs : List Elem) : Nat → State
  | 0 => s
  | k + 1 =>
    (s.storeRows t first xs k).rowWrite t (first + k) 0 (clean (s.storeBytes t ((xs.drop (64 * k)).take 64)))

/-- What the undo journal keeps of a VST (13 R411): the rows it overwrites, with the tile's STATE and GEN. -/
def State.vstUndo (s : State) (i : Nat) (t : Tile) (first : Nat) (n : Nat) : Undo :=
  let rows := (List.range (t.vstRows first)).map fun k => (t.rowAddr (first + k), s.rowRead t (first + k) 0 n)
  .vst i (rows.map fun r => (r.1, r.2.map (·.1)))
    (rows.flatMap fun r => (r.2.zipIdx.filter (·.1.2)).map fun x => r.1 + x.2) t.state t.gen

/-- VST (05 R168, R169): the source must not be POISON, and is read in the tile's format, or as it is for RAW. -/
def execVst (d : BitVec 5) (t : BitVec 8) (r : BitVec 7) (s : State) : Outcome :=
  finish do
    s.needRegs [d]
    s.needCrossbar
    if s.vtag d == tagPoison then s.trapWord causePoisonConsumed (32 + d.toNat)
    let (e, first) ← s.vecTile t r false
    let xs ← if e.fmt == 0 then pure (s.vreg d).image else (do let (x, _) ← s.vsrc d e.vecTag; pure x)
    if e.fmt == 9 && decide (6 ≤ s.ctx.ctl.vqfmt.toNat % 8) then s.trapWord causeMxFormat (2 * first)
    s.streamTile t Tile.mayWrite
    let n := if e.isMx then 72 else e.vecBytes
    let s1 := (s.wake [d]).journal (s.vstUndo t.toNat e first n)
    pure ((s1.storeRows e first xs (e.vstRows first)).setTile t.toNat e.written).onCrossbar

/-- Entry e of a VPERM index table: zero for a row past the tile or bytes past its width (05 R174). -/
def State.permEntry (s : State) (t : Tile) (first e : Nat) : Nat :=
  let row := first + e / 64
  let off := 4 * (e % 64)
  if t.rows.toNat < row ∨ t.vecBytes < off + 4 then 2 ^ 31
  else leNat ((s.rowRead t row off 4).map (·.1))

/-- The first index-table row that holds an uncorrectable error (05 R152, R188). -/
def State.permBad (s : State) (t : Tile) (first : Nat) : Option Nat :=
  (List.range 16).find? fun k => decide (first + k ≤ t.rows.toNat) && (s.rowRead t (first + k) 0 t.vecBytes).any (·.2)

/-- VPERM: vd permuted in place through the index table (05 R174). -/
def execVperm (d : BitVec 5) (t : BitVec 8) (r : BitVec 7) (s : State) : Outcome :=
  finish do
    s.needRegs [d]
    s.needCrossbar
    let (e, first) ← s.vecTile t r true
    s.streamTile t Tile.mayRead
    match s.permBad e first with
    | some k => s.trapWord causePoisonConsumed (64 + first + k)
    | none =>
      let v := s.vreg d
      let out := (List.range 1024).map fun k =>
        let x := s.permEntry e first k
        if 2 ^ 31 ≤ x then 0 else v.image.getD (x % 1024) 0
      pure ((s.wake [d]).vwrite d out v.tag false).onCrossbar

/-! ## Tile management -/

/-- The quad s4n to s4n+3 (01 R21, 03 R92): ILLEGAL_GROUP for quad 0. -/
def State.needQuad (s : State) (q : BitVec 3) : Except Stop Unit :=
  if q = 0 then s.trapWord causeIllegalGroup 0 else .ok ()

/-- Register w of a quad. -/
def quadReg (q : BitVec 3) (w : Nat) : BitVec 5 := BitVec.ofNat 5 (4 * q.toNat + w)

/-- No register of the quad is poisoned (08 R261). -/
def State.quadClean (s : State) (q : BitVec 3) : Except Stop Unit := do
  s.needClean (quadReg q 0)
  s.needClean (quadReg q 1)
  s.needClean (quadReg q 2)
  s.needClean (quadReg q 3)

/-- The RW fields of an entry image laid over an entry (01 R33, 08 R261). -/
def Tile.withImage (t : Tile) (d0 d1 d2 d3 : Word) : Tile :=
  { t with group := d0.extractLsb' 45 3, base := d0.extractLsb' 32 13, pitch := d0.extractLsb' 20 12,
           rows := d0.extractLsb' 10 10, fmt := d0.extractLsb' 6 4, rmap := d0.getLsbD 1,
           width := d1.extractLsb' 51 13, modlog := d1.extractLsb' 47 4, origin := d1.extractLsb' 37 10,
           rva := d2.extractLsb' 0 56, rstride := d3.extractLsb' 32 32 }

/-- The image in a quad, checked (08 R261). -/
def State.checkedImage (s : State) (t : Tile) (i : BitVec 8) (q : BitVec 3) : Except Stop Tile := do
  s.quadClean q
  let img := t.withImage (s.reg (quadReg q 0)) (s.reg (quadReg q 1)) (s.reg (quadReg q 2)) (s.reg (quadReg q 3))
  if 0xB ≤ img.fmt.toNat then s.trapWord causeIllegalField 262
  else if !img.sound || (img.modlog != 0 && decide (2 ^ img.modlog.toNat ≤ img.origin.toNat))
      || (img.rmap && img.rva.toNat % 16 != 0) then s.trapWord causeTileRange i.toNat
  else pure img

/-- TALLOC, TSET and TFREE are not for LOOP.S in task mode (08 R261 to R263). -/
def State.notInLoopS (s : State) : Except Stop Unit :=
  if s.holding then s.trapWord causeLoopNest s.depth else .ok ()

/-- TALLOC (08 R261). -/
def execTalloc (t : BitVec 8) (q : BitVec 3) (s : State) : Outcome :=
  finish do
    s.needQuad q
    s.notInLoopS
    let e := s.tile t.toNat
    if e.valid then s.trapWord (if e.owner.toNat = s.ctxNum then causeTileInUse else causeTileNotOwned) t.toNat
    let img ← s.checkedImage e t q
    pure (s.setTile t.toNat { img with
      valid := true, owner := BitVec.ofNat 2 s.ctxNum, state := .empty, rdcnt := 0, touched := false, dirty := false })

/-- A tile without traffic: EMPTY or READY with no reads in flight (08 R262 to R264). -/
def State.tileIdle (s : State) (i : BitVec 8) : Except Stop Unit :=
  if (s.tile i.toNat).mayWrite then .ok () else .error (.stall s)

/-- TFREE: a dirty region-mapped tile is written back first, in class 0 at device scope, and freed once that has performed
(08 R263); a TFREE that is waiting for it finds the tile no longer dirty. -/
def State.freeTile (s : State) (i : BitVec 8) : Course := do
  let e ← s.ownTile i
  s.tileIdle i
  let s1 := s.drain
  if e.rmap && e.dirty && !s1.quiet (oneClass 0) s1.ctx.cmdSeq then .error (.stall s1)
  else if e.rmap && e.dirty then
    match s1.backRows s1.ctx.cmdSeq s1.kernel 0 scopeDevice e 0 (e.rows.toNat + 1) with
    | (s2, .error (h, _)) => .error (s2.blocked h .write)
    | (s2, .ok _) =>
      let s3 := s2.setTile i.toNat { e with dirty := false }
      if s3.ctx.unacked (oneClass 0) s3.ctx.postSeq then .error (.stall s3)
      else pure (s3.setTile i.toNat { e with dirty := false, valid := false, state := .empty })
  else if e.rmap && s.ctx.unacked (oneClass 0) s.ctx.postSeq then .error (.stall s)
  else pure (s.setTile i.toNat { e with valid := false, state := .empty })

/-- TFREE (08 R263). -/
def execTfree (t : BitVec 8) (s : State) : Outcome :=
  finish do
    s.notInLoopS
    s.freeTile t

/-- TWAIT (08 R264). -/
def execTwait (t : BitVec 8) (s : State) : Outcome :=
  finish do
    let _ ← s.ownTile t
    s.tileIdle t
    pure s

/-- TSET (08 R262). -/
def execTset (t : BitVec 8) (q : BitVec 3) (s : State) : Outcome :=
  finish do
    s.needQuad q
    s.notInLoopS
    let e ← s.ownTile t
    s.tileIdle t
    let img ← s.checkedImage e t q
    let moved := img.rmap != e.rmap || img.rva != e.rva || img.rstride != e.rstride
    if e.dirty && moved then s.trapWord causeTileInUse t.toNat
    pure (s.setTile t.toNat { img with touched := e.touched && !moved })

/-- STATE as the entry shows it (01 R33). -/
def TileState.code : TileState → Nat
  | .empty => 0
  | .filling => 1
  | .ready => 2
  | .draining => 3

/-- A bit as a number. -/
def bit (b : Bool) : Nat := if b then 1 else 0

/-- Doubleword 0 of an entry (01 R33). -/
def Tile.dw0 (t : Tile) : Word :=
  BitVec.ofNat 64 (t.gen.toNat * 2 ^ 48 + t.group.toNat * 2 ^ 45 + t.base.toNat * 2 ^ 32 + t.pitch.toNat * 2 ^ 20
    + t.rows.toNat * 2 ^ 10 + t.fmt.toNat * 2 ^ 6 + t.owner.toNat * 2 ^ 4 + t.state.code * 2 ^ 2 + bit t.rmap * 2
    + bit t.valid)

/-- TGET (08 R265). -/
def execTget (d : BitVec 5) (t : BitVec 8) (s : State) : Outcome :=
  finish do
    let e ← s.ownTile t
    pure (s.setReg d e.dw0 false)

end Sys2Proof.Machine
end

