-- ==== Sys2Proof/Machine/Rings.lean ====
section
/-!
DEFINITION. Command rings as the stream reaches them: ENQ (06 R189), the ring registers and their enabling and disabling
(01 R39 to R41), the fault registers with RESTART and SKIP (06 R197, R199).
-/
namespace Sys2Proof.Machine

def causeCmdOpcode : BitVec 10 := 0x210
def causeCmdField : BitVec 10 := 0x211
def causeCmdSelector : BitVec 10 := 0x212
def causeRingDisabled : BitVec 10 := 0x213
def causeRingBusy : BitVec 10 := 0x215
def causeBankGroup : BitVec 10 := 0x280

/-- The ring of an ENQ (06 R189). -/
def ringOf (n : Nat) : Ring :=
  match n with
  | 0 => .ri
  | 1 => .ro
  | _ => .mx

/-- A ring register (01 R39). -/
def RingSt.image (x : RingSt) : Word :=
  BitVec.ofNat 64 (x.rptr.toNat * 2 ^ 48 + x.wptr.toNat * 2 ^ 32 + x.log.toNat * 2 ^ 28 + x.base.toNat * 2 ^ 5 + bit x.en)

/-- A ring fault status register (06 R197). -/
def RingSt.fsImage (x : RingSt) : Word :=
  BitVec.ofNat 64 (x.fsIdx.toNat * 2 ^ 48 + x.fsCause.toNat * 2 ^ 38 + x.fsInfo.toNat * 2 ^ 16 + 2 * bit x.pend
    + bit x.halt)

/-- Fault cursor register k (06 R197). -/
def RingSt.fcImage (x : RingSt) (k : Nat) : Word := (x.fc.getD (2 * k + 1) 0 : BitVec 32) ++ (x.fc.getD (2 * k) 0 : BitVec 32)

/-! ## The bank-group rule (06 R225) -/

/-- An eight-bit tile field. -/
def tileField (w : Word) (lo : Nat) : Nat := w.toNat / 2 ^ lo % 256

/-- The tiles of a command whose bank groups are pairwise distinct, in the order of the table (06 R220, R225). -/
def bankTiles (c : Cmd) : List Nat :=
  let t := tileField c.w1
  let u := tileField c.w2
  match c.w0.toNat % 256 with
  | 0x60 => [t 0, t 8, t 16]
  | 0x61 => [t 0, t 8, u 0, u 8, t 16, u 16]
  | 0x62 => [t 0, t 8, t 16, t 24]
  | 0x63 => [t 0, t 8, t 16]
  | _ => []

/-- The first pair of tiles in one bank group. -/
def State.bankPair (s : State) : List Nat → Option (Nat × Nat)
  | [] => none
  | a :: rest =>
    match rest.find? fun b => (s.tile a).group == (s.tile b).group with
    | some b => some (a, b)
    | none => s.bankPair rest

/-- The bank-group check: the cause and the information it fails with. -/
def State.bankCheck (s : State) (c : Cmd) : Option (BitVec 10 × Nat) :=
  let ts := bankTiles c
  match ts.find? fun i => (s.tileCause i).isSome with
  | some i => (s.tileCause i).map fun x => (x, i)
  | none => (s.bankPair ts).map fun p => (causeBankGroup, p.1 * 2 ^ 8 + p.2)

/-! ## ENQ -/

/-- Full: held commands count (01 R40, 04 R128). -/
def State.ringFull (s : State) (r : Ring) : Bool :=
  let x := s.ring r
  let held := if r == .ro then s.ctx.loop.heldRo else 0
  decide (2 ^ x.log.toNat ≤ (x.wptr - x.rptr).toNat + held)

/-- The 32 bytes of a command written to a slot: each is written whole, so a mark of an uncorrectable error clears. -/
def State.writeSlot (s : State) (a : Nat) (c : Cmd) : State :=
  { s with core := s.core.spadWrite a (clean (leBytes 8 c.w0.toNat ++ leBytes 8 c.w1.toNat ++ leBytes 8 c.w2.toNat
      ++ leBytes 8 c.w3.toNat)) }

/-- A command enqueued (06 R189): held for the commit when it goes to RO inside LOOP.S, else visible at once. -/
def State.putCommand (s : State) (r : Ring) (c : Cmd) : State :=
  let x := s.ring r
  let seq := s.ctx.cmdSeq
  let held := r == .ro && s.holding
  let idx := x.wptr + BitVec.ofNat 16 (if r == .ro then s.ctx.loop.heldRo else 0)
  let s1 := s.writeSlot (x.slotAddr idx) c
  let s2 := { s1 with ctx := { s1.ctx with cmdSeq := seq + 1 } }
  if held then (s2.hold (.roCommand seq)).setLoop fun l => { l with heldRo := l.heldRo + 1 }
  else s2.publish r s2.kernel s2.holding seq

/-- ENQST.FULL after an ENQ.NB (06 R190). -/
def State.setEnqst (s : State) (nb full : Bool) : State := if nb then s.setCtl fun c => { c with enqst := full } else s

/-- ENQ and ENQ.NB (06 R189). -/
def State.enq (s : State) (ring : BitVec 2) (q : BitVec 3) (nb : Bool) : Course := do
  s.needQuad q
  let r := ringOf ring.toNat
  if !(s.ring r).en then s.trapWord causeRingDisabled ring.toNat
  s.quadClean q
  let c : Cmd := { w0 := s.reg (quadReg q 0), w1 := s.reg (quadReg q 1), w2 := s.reg (quadReg q 2),
                   w3 := s.reg (quadReg q 3) }
  match (if r == .mx then s.bankCheck c else none) with
  | some (cause, info) => s.trapWord cause info
  | none =>
    if s.ringFull r then
      if nb then pure (s.setEnqst nb true) else .error (.stall s)
    else
      if r == .ro then s.holdOrTrap
      pure ((s.putCommand r c).setEnqst nb false)

/-- ENQ (06 R189). -/
def execEnq (r : BitVec 2) (q : BitVec 3) (s : State) : Outcome := finish (s.enq r q false)

/-- ENQ.NB (06 R189, R190). -/
def execEnqNb (r : BitVec 2) (q : BitVec 3) (s : State) : Outcome := finish (s.enq r q true)

/-! ## Halted rings (06 R196 to R199) -/

/-- A fault recorded in the ring's registers, which halts the ring (06 R196, R197). -/
def RingSt.record (x : RingSt) (idx : BitVec 16) (f : EngFault) : RingSt :=
  { x with fsIdx := idx, fsCause := f.cause, fsInfo := f.info, fa := f.va, fc := f.cursor, pend := true, halt := true,
           faulting := none }

/-- A command taken from the context's list. -/
def State.dropCmd (s : State) (seq : Nat) : State :=
  { s with ctx := { s.ctx with cmds := s.ctx.cmds.filter fun k => k.seq != seq } }

/-- A command changed. -/
def State.updCmd (s : State) (seq : Nat) (f : CmdRec → CmdRec) : State :=
  { s with ctx := { s.ctx with cmds := s.ctx.cmds.map fun k => if k.seq == seq then f k else k } }

/-- The ring has halted on a fault, or is about to. -/
def RingSt.stuck (x : RingSt) : Bool := x.halt || x.faulting.isSome

/-- A fault of a ring (06 R196): it is recorded in a step of its own. A ring that has halted takes no command, so no head of it
fails. -/
def State.failRing (s : State) (r : Ring) (f : EngFault) : State :=
  if (s.ring r).stuck then s else (s.updRing r fun x => { x with faulting := some f }).later (.engineFault r)

/-- The command that a halted ring holds: the one that has issued, else the head. -/
def Ctx.haltedCmd (c : Ctx) (r : Ring) : Option CmdRec :=
  match c.cmds.find? fun k => k.ring == r && (k.stage == .halted || k.stage == .signalFault) with
  | some k => some k
  | none => c.cmds.find? fun k => k.ring == r && k.stage == .queued && k.count == (c.ring r).rptr

/-- A fault of a command: one that has issued halts with its ring. In a ring that has halted on another command's fault it stays at
its fault point, and its fault is recorded once that one is resolved (06 R196). -/
def State.failCmd (s : State) (r : Ring) (seq : Nat) (f : EngFault) : State :=
  let go (st : CmdStage) (k : CmdRec) : CmdRec := if k.stage == CmdStage.issued then { k with stage := st } else k
  if (s.ring r).stuck && s.ctx.cmds.any fun k => k.seq == seq && k.stage == CmdStage.issued then
    (s.updCmd seq (go .deferred)).updRing r fun x => { x with deferred := x.deferred ++ [(seq, f)] }
  else (s.updCmd seq (go .halted)).failRing r f

/-- The next fault of a ring whose last one has been resolved. -/
def State.nextFault (s : State) (r : Ring) : State :=
  match (s.ring r).deferred with
  | [] => s
  | (seq, f) :: t =>
    ((s.updRing r fun x => { x with deferred := t }).updCmd seq fun k => { k with stage := CmdStage.halted }).failRing r f

/-- The tiles a command holds let go: a target that is FILLING or DRAINING goes to EMPTY when the command is abandoned
(06 R199), one of an ATTNR back to READY (07 R258); an operand has one reader less (01 R33). -/
def State.abandonTiles (s : State) (k : CmdRec) : State :=
  let left : TileState := if k.cmd.w0.toNat % 256 = 0x48 then .ready else .empty
  let s1 := k.work.targets.foldl (fun x t => x.updTile t.1 fun e =>
    if e.state == .filling || e.state == .draining then { e with state := left } else e) s
  k.work.readers.foldl (fun x i => x.updTile i fun e => { e with rdcnt := e.rdcnt - 1 }) s1

/-- Commands of a ring at a fault point that has not been recorded are abandoned: those that `f` picks. -/
def State.dropDeferred (s : State) (r : Ring) (f : CmdRec → Bool) : State :=
  let drop (x : State) (d : Nat × EngFault) : State :=
    match x.ctx.cmds.find? fun k => k.seq == d.1 with
    | some k =>
      if f k then ((x.abandonTiles k).dropCmd d.1).updRing r fun y => { y with deferred := y.deferred.filter fun e => e.1 != d.1 }
      else x
    | none => x
  (s.ring r).deferred.foldl drop s

/-- HALT and PEND clear (06 R199). -/
def RingSt.resume (x : RingSt) : RingSt := { x with halt := false, pend := false, faulting := none }

/-- SKIP (06 R199): the halted command is abandoned and the ring goes on past it. -/
def State.skipRing (s : State) (r : Ring) : State :=
  match s.ctx.haltedCmd r with
  | none => (s.updRing r RingSt.resume).nextFault r
  | some k =>
    let s1 := (s.abandonTiles k).dropCmd k.seq
    let s2 := s1.updRing r fun x =>
      let y := x.resume
      if k.stage == CmdStage.queued then { y with rptr := y.rptr + 1, popped := none, headPast2 := false } else y
    (s2.nextFault r).queue (.engine s2.here r)

/-- RESTART (06 R199): the halted command goes on at its cursor; a failed signal is given again. -/
def State.restartRing (s : State) (r : Ring) : State :=
  let go (k : CmdRec) : CmdRec :=
    if k.ring != r then k
    else
      match k.stage with
      | .halted => { k with stage := .issued }
      | .signalFault => { k with stage := .moved }
      | _ => k
  let s1 := { s with ctx := { s.ctx with cmds := s.ctx.cmds.map go } }
  ((s1.updRing r RingSt.resume).nextFault r).queue (.engine s1.here r)

/-- A write of a ring's fault status register: SKIP wins over RESTART, and neither acts on a ring that runs (06 R197,
R199). -/
def State.writeFs (s : State) (r : Ring) (v : Word) : State :=
  if !(s.ring r).halt then s
  else if v.getLsbD 3 then s.skipRing r
  else if v.getLsbD 2 then s.restartRing r
  else s

/-- One occurrence of a take forgotten. -/
def LoopUnit.forget (l : LoopUnit) (t : Take) : LoopUnit := { l with taken := l.taken.erase t }

/-- EN = 0 (01 R41): a halted command is abandoned; unread commands, with the commands held for the ring, are discarded;
a head that has waited gives its token or count back. What has issued runs on. -/
def State.disableRing (s : State) (r : Ring) : State :=
  let s0 := s.dropDeferred r fun _ => true
  let s1 := if (s0.ring r).stuck then s0.skipRing r else s0
  let s2 :=
    match (s1.ring r).popped with
    | some t => (s1.giveBack t).setLoop fun l => l.forget t
    | none => s1
  let s3 := { s2 with ctx := { s2.ctx with cmds := s2.ctx.cmds.filter fun k => !(k.ring == r && k.stage == CmdStage.queued) } }
  let s4 := s3.updRing r fun x => { x with rptr := x.wptr, en := false, popped := none, headPast2 := false }
  if r == .ro then
    s4.setLoop fun l => { l with heldRo := 0, held := l.held.filter fun h => match h with
      | .roCommand _ => false
      | _ => true }
  else s4

/-- LOG within 4 to 12 and the ring within the scratchpad (01 R41). -/
def ringFits (log : BitVec 4) (base : BitVec 15) : Bool :=
  decide (4 ≤ log.toNat) && decide (log.toNat ≤ 12) && decide (32 * base.toNat + 32 * 2 ^ log.toNat ≤ 2 ^ 20)

/-- MTC to a ring register (01 R41): none when it traps RING_BUSY. A write that changes BASE or LOG while EN = 1 is one of
the writes that the rule forbids; one that leaves both as they are is not (log entry 12). -/
def State.writeRing (s : State) (r : Ring) (v : Word) : Option State :=
  let x := s.ring r
  let log := v.extractLsb' 28 4
  let base := v.extractLsb' 5 15
  if x.en then
    if log != x.log || base != x.base then none
    else if v.getLsbD 0 then some s
    else some (s.disableRing r)
  else if v.getLsbD 0 then
    if ringFits log base then some (s.updRing r fun y => { y with log := log, base := base, en := true }) else none
  else some (s.updRing r fun y => { y with log := log, base := base })

end Sys2Proof.Machine
end

