-- ==== Sys2Proof/Machine/Engine.lean ====
section
/-!
DEFINITION. The engines at the heads of the rings (06 R191 to R196): the checks of a command, its wait, the gate of its
tiles, its issue, its work, its completion and its signal. Each command gives its own checks, gate and body as an
`EngJob`; what is shared is here.
-/
namespace Sys2Proof.Machine

/-- How an engine stops at a command: with a fault, or to wait. The state keeps what has been done. -/
inductive EngStop where
  | fault (s : State) (f : EngFault)
  | wait (s : State)

/-- Cursor coordinates of dimensions 0 to 7 (06 R197); those not given are 0. -/
def cursorOf (xs : List Nat) : List (BitVec 32) := (List.range 8).map fun i => BitVec.ofNat 32 (xs.getD i 0)

/-- An engine fault at an address with a cursor. -/
def State.faultAt (s : State) (cause : BitVec 10) (info fa : Nat) (cursor : List (BitVec 32)) : Except EngStop α :=
  .error (.fault s { cause := cause, info := BitVec.ofNat 22 info, va := BitVec.ofNat 56 fa, cursor := cursor })

/-- An engine fault without an address. -/
def State.faultNow (s : State) (cause : BitVec 10) (info : Nat) : Except EngStop α := s.faultAt cause info 0 (cursorOf [])

/-- An access that could not be made, as a stop of the command: `fa` is the address of its element. -/
def State.hitchStop (s : State) (k : CmdRec) (kind : Kind) (fa : Nat) (cursor : List (BitVec 32)) (h : Hitch) : EngStop :=
  match h with
  | .fault c info _ => .fault s { cause := c, info := info, va := BitVec.ofNat 56 fa, cursor := cursor }
  | .busy va =>
    .wait (if s.ctx.busy.isSome then s
           else { s with ctx := { s.ctx with
             busy := some { ring := some k.ring, lane := none, va := BitVec.ofNat 64 va, kind := kind.code, kernel := k.kernel,
                            cmd := k.seq, fa := BitVec.ofNat 56 fa, cursor := cursor } } })
  | .wait => .wait s

/-! ## What a command has done -/

/-- The engine's notes on a command changed. -/
def State.updWork (s : State) (seq : Nat) (f : CmdWork → CmdWork) : State :=
  s.updCmd seq fun k => { k with work := f k.work }

/-- Elements 0 … n−1 of a command are done (06 R197). -/
def State.advance (s : State) (seq n : Nat) : State := s.updWork seq fun w => { w with progress := n }

/-- The engine's notes on a command. -/
def State.workOf (s : State) (seq : Nat) : CmdWork :=
  match s.ctx.cmds.find? fun k => k.seq == seq with
  | some k => k.work
  | none => CmdWork.none

/-- A command's elements from `i` on, in cursor order. `chunk` does at least the element at `i` and answers the next. -/
def engLoop (seq total : Nat) (chunk : State → Nat → Except EngStop (State × Nat)) : Nat → Nat → State → Except EngStop State
  | 0, _, s => .ok s
  | fuel + 1, i, s =>
    if total ≤ i then .ok s
    else
      match chunk s i with
      | .error e => .error e
      | .ok (s1, j) => engLoop seq total chunk fuel j (s1.advance seq j)

/-- The loop from where the command stands. -/
def CmdRec.loop (k : CmdRec) (s : State) (total : Nat) (chunk : State → Nat → Except EngStop (State × Nat)) : Except EngStop State :=
  engLoop k.seq total chunk (total + 1) k.work.progress s

/-! ## Accesses of a command -/

/-- An older access to bytes of the piece has not performed (04 R137, 06 R194). -/
def State.pieceHeld (s : State) (k : CmdRec) (p : Piece) : Bool := s.heldBefore k.seq p

/-- NA of a tile transfer (06 R201, R207). -/
def CmdRec.na (k : CmdRec) : Bool := decide (k.cmd.w0.toNat % 256 < 4) && k.cmd.w0.getLsbD 27

/-- A range that a command reads, in its class at its scope. -/
def State.engRead (s : State) (k : CmdRec) (rv : Resolver) (va n : Nat) : State × Except Hitch (List Marked) :=
  match s.rangeBy rv .read va n with
  | (s1, .error e) => (s1, .error e)
  | (s1, .ok ps) =>
    if ps.any (s1.pieceHeld k) then (s1, .error .wait)
    else s1.readAll (ringCode k.ring) k.cls k.scope (ps.map fun p => { p with past := k.na })

/-- A range that a command writes: every piece is translated before any is written. -/
def State.engWrite (s : State) (k : CmdRec) (rv : Resolver) (va : Nat) (bs : List Marked) : State × Except Hitch Unit :=
  match s.rangeBy rv .write va bs.length with
  | (s1, .error e) => (s1, .error e)
  | (s1, .ok ps) =>
    if ps.any (s1.pieceHeld k) then (s1, .error .wait)
    else s1.writeAll k.cls k.scope (ps.map fun p => { p with past := k.na }) bs

/-- How many elements of `e` bytes from `va` lie before the address a hitch names. -/
def Hitch.before (h : Hitch) (va e : Nat) : Nat :=
  match h with
  | .fault _ _ a | .busy a => (a + 2 ^ 64 - va % 2 ^ 64) % 2 ^ 64 / e
  | .wait => 0

/-- A run of `n` elements of `e` bytes at `va`, accessed as one by `acc`; where that meets a hitch the elements before it
are accessed, and a hitch at the first one stops the command (06 R196, R197). -/
def engRun (k : CmdRec) (kind : Kind) (cursor : List (BitVec 32)) (e va : Nat) (acc : State → Nat → State × Except Hitch α)
    (n : Nat) (s : State) : Except EngStop (State × Nat × α) :=
  match acc s n with
  | (s1, .ok a) => .ok (s1, n, a)
  | (s1, .error h) =>
    let m := min (h.before va e) (n - 1)
    if m = 0 then .error (s1.hitchStop k kind va cursor h)
    else
      match acc s1 m with
      | (s2, .ok a) => .ok (s2, m, a)
      | (s2, .error h2) => .error (s2.hitchStop k kind va cursor h2)

/-- Bytes that a command reads whole, or its stop. -/
def State.engFetch (s : State) (k : CmdRec) (cursor : List (BitVec 32)) (va n : Nat) : Except EngStop (State × List Marked) :=
  match s.engRead k k.plain va n with
  | (s1, .ok bs) => .ok (s1, bs)
  | (s1, .error h) => .error (s1.hitchStop k .read va cursor h)

/-- Bytes that a command reads on the way to what it is after: the answers of peers are kept until it is there. -/
def State.engPeek (s : State) (k : CmdRec) (cursor : List (BitVec 32)) (va n : Nat) : Except EngStop (State × List Marked) :=
  match s.rangeBy k.plain .read va n with
  | (s1, .error h) => .error (s1.hitchStop k .read va cursor h)
  | (s1, .ok ps) =>
    if ps.any (s1.pieceHeld k) then .error (s1.hitchStop k .read va cursor .wait)
    else
      match s1.seeAll (ringCode k.ring) k.cls k.scope (ps.map fun p => { p with past := k.na }) with
      | (s2, .ok bs) => .ok (s2, bs)
      | (s2, .error h) => .error (s2.hitchStop k .read va cursor h)

/-- The end of such a course, which lets the answers go, unless it still waits. -/
def CmdRec.lookedAt (k : CmdRec) (c : Except EngStop (State × α)) : Except EngStop (State × α) :=
  match c with
  | .ok (s, a) => .ok (s.dropRing (ringCode k.ring), a)
  | .error (.fault s f) => .error (.fault (s.dropRing (ringCode k.ring)) f)
  | .error e => .error e

/-- Bytes that a command writes whole, or its stop. -/
def State.engPut (s : State) (k : CmdRec) (cursor : List (BitVec 32)) (va : Nat) (bs : List Marked) : Except EngStop State :=
  match s.engWrite k k.plain va bs with
  | (s1, .ok _) => .ok s1
  | (s1, .error h) => .error (s1.hitchStop k .write va cursor h)

/-! ## Step 1: fields and selectors (03 R100, 06 R191, R193, R201) -/

/-- The number of the lowest bit set, counted from `base`. -/
def lowBits (base v : Nat) : List Nat := ((List.range 64).filter fun i => v.testBit i).map (base + ·)

/-- Bits of word 0 that are zero: flags outside `flags` (a mask of F0 to F4) and, without an operand, OPND. -/
def w0Zero (flags opnd : Nat) : Nat := (31 - flags) * 2 ^ 27 + (2 ^ 32 - 1 - opnd) * 2 ^ 32

/-- The bits of a command that fail: must-be-zero bits that are 1, a scope above pool, and the limits given as a
condition and the bit it names. -/
def badBits (c : Cmd) (z0 z1 z2 z3 : Nat) (limits : List (Bool × Nat)) : List Nat :=
  lowBits 0 (c.w0.toNat &&& z0) ++ lowBits 64 (c.w1.toNat &&& z1) ++ lowBits 128 (c.w2.toNat &&& z2)
    ++ lowBits 192 (c.w3.toNat &&& z3) ++ (if 4 < wordBits c.w0 24 3 then [24] else [])
    ++ (limits.filter (·.1)).map (·.2)

/-- Every bit of a doubleword, its bits from `lo` up, and bits lo … hi. -/
def allBits : Nat := 2 ^ 64 - 1
def bitsFrom (lo : Nat) : Nat := 2 ^ 64 - 2 ^ lo
def bitsUpTo (hi : Nat) : Nat := 2 ^ (hi + 1) - 1

/-- The lowest of the bits that fail. -/
def lowest (xs : List Nat) : Option Nat := xs.foldl (fun a x => match a with
  | none => some x
  | some y => some (min x y)) none

/-- The selectors that a ring's wait and signal may name (06 R193): FIFOs by the table, every core semaphore, and pond-1
semaphores in a group of more than one. -/
def mayWait : Ring → List Nat
  | .ri => [2, 6]
  | .ro => [3, 7]
  | .mx => [1, 4, 10]
def maySignal : Ring → List Nat
  | .ri => [1, 5]
  | .ro => [4, 8]
  | .mx => [2, 3, 9]

def State.selectorOk (s : State) (fifos : List Nat) (v : Nat) : Bool :=
  match selectorOf v with
  | .none => true
  | .fifo _ => fifos.contains v
  | .sem _ => true
  | .psem _ => s.inGroup
  | .bad => false

/-- WAIT and SIG of a command (03 R98). -/
def CmdRec.waitSel (k : CmdRec) : Nat := wordBits k.cmd.w0 8 6
def CmdRec.sigSel (k : CmdRec) : Nat := wordBits k.cmd.w0 14 6

/-- Step 1 of R191. -/
def State.checkFields (s : State) (k : CmdRec) (bad : List Nat) : Except EngStop Unit :=
  match lowest bad with
  | some b => s.faultNow causeCmdField b
  | none =>
    if !s.selectorOk (mayWait k.ring) k.waitSel then s.faultNow causeCmdSelector k.waitSel
    else if !s.selectorOk (maySignal k.ring) k.sigSel then s.faultNow causeCmdSelector (64 + k.sigSel)
    else .ok ()

/-! ## Steps 2 to 4 -/

/-- What a command asks of the tiles it names: those it writes, with the state they go to, and those it reads; and the
handles it names, whose bindings it keeps as they are when it issues (06 R202). -/
structure Gated where
  targets : List (Nat × TileState)
  readers : List Nat
  words : List Word
  handles : List Nat := []

/-- What is a command's own: the bits of it that fail its checks, whether it waits for the commit of its iteration before
step 2 (13 R412), its tile and binding checks with its gate, and its work. -/
structure EngJob where
  bad : List Nat
  gatedByCommit : Bool
  gate : State → CmdRec → Except EngStop (State × Gated)
  body : State → CmdRec → Except EngStop State

/-- The head of a ring (06 R191). The commands of a halted context that have not issued stay in their rings (13 R417). -/
def State.head (s : State) (r : Ring) : Option CmdRec :=
  if s.ctx.status == .halted then none
  else s.ctx.cmds.find? fun k => k.ring == r && k.stage == CmdStage.queued && k.count == (s.ring r).rptr

/-- The ring's oldest command. -/
def State.oldest (s : State) (r : Ring) : Option CmdRec := s.ctx.cmds.find? fun k => k.ring == r

/-- A full FIFO holds the signalling command, and with it its ring (01 R44). -/
def State.ringHeld (s : State) (r : Ring) : Bool :=
  (s.oldest r).any fun k => k.stage == CmdStage.signalling && !k.uncommitted && !k.dropSignal

/-- Step 2 of R191: the wait takes effect once (01 R44); the uncommitted iteration's is recorded (13 R413). -/
def State.takeWait (s : State) (k : CmdRec) : Except EngStop State :=
  if (s.ring k.ring).headPast2 then .ok s
  else
    match s.take (selectorOf k.waitSel) with
    | none => .error (.wait s)
    | some (s1, t) =>
      let s2 := s1.updRing k.ring fun x => { x with popped := t, headPast2 := true }
      .ok (match t with
        | some u => if k.uncommitted then s2.setLoop fun l => { l with taken := l.taken ++ [u] } else s2
        | none => s2)

/-- The earlier accesses of a class have performed (06 R194). -/
def State.ordered (s : State) (cls : BitVec 4) (seq : Nat) : Bool :=
  (s.ctx.olderCmds (oneClass cls) seq).isEmpty && !s.ctx.unacked (oneClass cls) s.ctx.postSeq
    && s.ctx.posted.all fun r => r.cls != cls || decide (seq < r.before)

/-- A tile that a command names (01 R33). -/
def State.engTile (s : State) (i : Nat) : Except EngStop Tile :=
  match s.tileCause i with
  | some c => s.faultNow c i
  | none => .ok (s.tile i)

/-- The issue condition of a tile (01 R36); a first touch fills it first, in class 0 (10 R350). -/
def State.awaitTile (s : State) (k : CmdRec) (i : Nat) (may : Tile → Bool) : Except EngStop State :=
  let t := s.tile i
  if t.needsFill then
    if !s.ordered 0 k.seq then .error (.wait s)
    else
      match s.startFill k.seq (ringCode k.ring) k.kernel i with
      | (s1, .ok _) => .error (.wait s1)
      | (s1, .error h) =>
        let va := match h with
          | .fault _ _ a => a
          | _ => 0
        .error (s1.hitchStop k .read va (cursorOf []) h)
  else if may t then .ok s
  else .error (.wait s)

/-- The accesses of the command's class that come before it have performed; what may perform does first. -/
def State.awaitClass (s : State) (k : CmdRec) : Except EngStop State :=
  let s1 := s.drain
  if !k.hasAccesses || s1.ordered k.cls k.seq then .ok s1 else .error (.wait s1)

/-- Step 4 of R191: the command issues, and its tiles move (01 R35). -/
def State.issue (s : State) (k : CmdRec) (g : Gated) : State × CmdRec :=
  let w : CmdWork := { targets := g.targets.map fun t => (t.1, (s.tile t.1).state), readers := g.readers, progress := 0,
                       words := g.words, elems := [], log := [],
                       binds := s.ctx.binds.filter fun b => g.handles.contains b.handle }
  let s1 := g.targets.foldl (fun x t => x.updTile t.1 fun e => { e with state := t.2 }) s
  let s2 := g.readers.foldl (fun x i => x.updTile i fun e => { e with rdcnt := e.rdcnt + 1 }) s1
  let s3 := s2.updRing k.ring fun x => { x with rptr := x.rptr + 1, popped := none, headPast2 := false }
  let k1 := { k with stage := CmdStage.issued, work := w }
  (s3.updCmd k.seq fun _ => k1, k1)

/-- A head taken through the steps of R191. -/
def State.admitHead (s : State) (k : CmdRec) (j : EngJob) : Except EngStop (State × CmdRec) := do
  s.checkFields k j.bad
  if k.uncommitted && j.gatedByCommit then .error (.wait s)
  let s1 ← s.takeWait k
  let (s2, g) ← j.gate s1 k
  let s3 ← s2.awaitClass k
  pure (s3.issue k g)

/-- A stop met by a ring's engine at a command. -/
def EngStop.atCmd (e : EngStop) (k : CmdRec) : State :=
  match e with
  | .fault s1 f => s1.failCmd k.ring k.seq f
  | .wait s1 => s1

/-- The work of an issued command; with its requests sent it waits for its completion (06 R191, R192). -/
def State.runBody (s : State) (k : CmdRec) (j : EngJob) : State :=
  match j.body s k with
  | .error e => e.atCmd k
  | .ok s1 => (s1.updCmd k.seq fun x => { x with stage := CmdStage.moved }).later (.commandComplete k.ring)

/-- An engine's turn at a ring whose next command is `c`: the issued command goes on, or the head is taken up. -/
def State.runRing (s : State) (r : Ring) (c : Cmd) (j : EngJob) : State :=
  let x := s.ring r
  if x.halt || x.faulting.isSome then s
  else
    match s.ctx.cmds.find? fun k => k.ring == r && k.stage == CmdStage.issued with
    | some k => s.runBody { k with cmd := c } j
    | none =>
      match s.head r with
      | none => s
      | some k =>
        if s.ringHeld r then s
        else
          match s.admitHead { k with cmd := c } j with
          | .error e => e.atCmd k
          | .ok (s1, k1) => s1.runBody k1 j

/-- The meaning of a rake command from its job. -/
def rakeStep (r : Ring) (c : Cmd) (j : EngJob) (s : State) : Outcome := .next (s.runRing r c j)

/-! ## Completion, signals and faults -/

/-- A tile that its writer or its store lets go (01 R35). -/
def Tile.letGo (t : Tile) : Tile :=
  match t.state with
  | .filling => t.written
  | .draining => { t with state := .ready }
  | _ => t

/-- The signal of a ring's oldest command that has completed (06 R192, 13 R412): a full FIFO holds it, a semaphore at
0xFFFF is an engine fault (01 R44, R46), and the signal of a discarded iteration is dropped (13 R414). -/
def State.signalOldest (s : State) (r : Ring) : State :=
  match s.oldest r with
  | none => s
  | some k =>
    if k.stage != CmdStage.signalling then s
    else if k.dropSignal then (s.dropCmd k.seq).queue (.engine s.here r)
    else if k.uncommitted then s
    else
      match s.give (selectorOf k.sigSel) with
      | .done s1 => (s1.dropCmd k.seq).queue (.engine s.here r)
      | .full => s
      | .overflow =>
        if (s.ring r).halt || (s.ring r).faulting.isSome then s
        else (s.updCmd k.seq fun x => { x with stage := CmdStage.signalFault }).failRing r
               { cause := causeSemOverflow, info := BitVec.ofNat 22 k.sigSel, va := 0, cursor := cursorOf [] }

/-- The tiles of a command whose effects have all performed (01 R35). -/
def State.finishWork (s : State) (k : CmdRec) : State :=
  let s1 := k.work.targets.foldl (fun x t => x.updTile t.1 Tile.letGo) s
  let s2 := k.work.readers.foldl (fun x i => x.updTile i fun e => { e with rdcnt := e.rdcnt - 1 }) s1
  s2.updCmd k.seq fun x => { x with stage := CmdStage.signalling, work := CmdWork.none }

/-- COMMAND_COMPLETE (06 R192): when every effect of a command has performed its tiles are let go, and it signals once
every earlier command of its ring has. -/
def execCommandComplete (r : Ring) (s : State) : Outcome :=
  match s.ctx.cmds.find? fun k => k.ring == r && k.stage == CmdStage.moved with
  | none => .next s
  | some k =>
    if r != .mx && s.ctx.unacked (oneClass k.cls) s.ctx.postSeq then .next s
    else .next ((s.finishWork k).signalOldest r)

/-- HELD_SIGNAL_PUSH (01 R44, 13 R412): room in the FIFO, or the commit, lets the signal take effect. -/
def execHeldSignalPush (r : Ring) (s : State) : Outcome := .next (s.signalOldest r)

/-- Requests that the faulting command of a ring sent before its fault point, still without their answer (06 R196). -/
def State.requestsOut (s : State) (r : Ring) : Bool :=
  match s.ctx.haltedCmd r with
  | none => false
  | some k =>
    k.stage != CmdStage.queued && r != .mx
      && (s.ctx.unacked (oneClass k.cls) s.ctx.postSeq
        || s.ctx.peer.any fun w => w.kind == readKind (ringCode r) && w.data.isNone)

/-- ENGINE_FAULT (06 R196, R197): once every request that the command sent has completed, the fault is recorded in the ring's
registers and halts the ring. Its delivery as a trap is made where the stream comes to a stall, a safe point or its task's end (06 R198). -/
def execEngineFault (r : Ring) (s : State) : Outcome :=
  match (s.ring r).faulting with
  | none => .next s
  | some f =>
    let idx :=
      match s.ctx.haltedCmd r with
      | some k => k.count
      | none => (s.ring r).rptr
    .next (if s.requestsOut r then s else s.updRing r fun x => x.record idx f)

/-- The head of a ring as its slot holds it now; a slot with an uncorrectable byte is an engine fault (13 R406). -/
def State.readHead (s : State) (r : Ring) : State × Option CmdRec :=
  match s.head r with
  | none => (s, none)
  | some k =>
    let a := (s.ring r).slotAddr k.count
    if (s.core.spadRead a 32).any (·.2) then
      (s.failRing r { cause := causePoisonConsumed, info := BitVec.ofNat 22 (k.count.toNat % 2 ^ (s.ring r).log.toNat),
                      va := 0, cursor := cursorOf [] }, none)
    else
      let k1 := { k with cmd := s.slotCmd r k.count }
      (s.updCmd k.seq fun _ => k1, some k1)

end Sys2Proof.Machine
end

