-- ==== Sys2Proof/Machine/SoftMax.lean ====
section
/-!
DEFINITION. The soft-maximum stage (02 R79 to R83) and the masks of a chunk (06 R224), as functions of values.
-/
namespace Sys2Proof.Machine

abbrev F32 := BitVec 32

/-- −∞ and 1.0 in binary32. -/
def negInf32 : F32 := 0xFF800000
def one32 : F32 := 0x3F800000

/-- RoundF of a product, a sum and a difference of stage inputs. -/
def mulF (x y : F32) : F32 := roundF ((valF x).mul (valF y))
def addF (x y : F32) : F32 := roundF ((valF x).add false (valF y))
def subF (x y : F32) : F32 := roundF ((valF x).add false (valF y).neg)

/-- Max of two stage values. -/
def maxF (x y : F32) : F32 := roundF ((valF x).max (valF y))

/-- A BF16 rounding kept as a binary32 image. -/
def roundBF (x : F32) : F32 := (roundB (valF x)).setWidth 32 <<< 16

/-- The mask of key `j` of query row `i` (06 R224). -/
def maskedKey (klen qp0 kp0 win : Nat) (causal : Bool) (i j : Nat) : Bool :=
  decide (klen ≤ j) || (causal && decide (qp0 + i < kp0 + j)) || (win != 0 && decide ((win : Int) ≤ (qp0 + i : Int) - (kp0 + j)))

/-- What the stage makes of one row of a chunk: the new m and l, α, and the 64 weights as binary32 images of BF16. -/
structure SoftRow where
  m : F32
  l : F32
  alpha : F32
  p : List F32
  deriving DecidableEq, Repr

/-- The soft-maximum of a row (02 R81): the scores of the chunk, with `none` for a masked key. -/
def softRow (sigma m l : F32) (scores : List (Option F32)) : SoftRow :=
  let t := scores.map fun s => match s with
    | some x => mulF sigma x
    | none => negInf32
  let mn := maxF m (t.foldl maxF negInf32)
  if mn = negInf32 then
    let p := t.map fun _ => (0 : F32)
    { m := mn, l := addF (mulF one32 l) 0, alpha := one32, p := p }
  else
    let alpha := softExp2 (subF m mn)
    let p := t.map fun x => roundBF (softExp2 (subF x mn))
    { m := mn, l := addF (mulF alpha l) ((treeReduce addF 6 p).headD 0), alpha := alpha, p := p }

/-- The row's output: O scaled by α, and then the value array's accumulation of p against each V column, keys ascending
(02 R81). `v` holds the two blocks of each column. -/
def valueRow (r : SoftRow) (o : List F32) (v : List (List Blk)) : List F32 :=
  let p := [Blk.ofBf16 ((r.p.take 32).map fun x => x.toNat / 2 ^ 16), Blk.ofBf16 ((r.p.drop 32).map fun x => x.toNat / 2 ^ 16)]
  List.zipWith (fun x col => dotBlocks p col (mulF r.alpha x)) o v

/-- The finalising step (02 R82). -/
def finalRow (l : F32) (o : List F32) : List F32 :=
  o.map fun x => if flushF32 true l.toNat = 0 then 0 else mulF x (softRecip l)

/-- The merge of two partial results of a row (02 R83). -/
def mergeRow (m1 l1 m2 l2 : F32) (o1 o2 : List F32) : F32 × F32 × List F32 :=
  let mn := maxF m1 m2
  let a1 := if mn = negInf32 then one32 else softExp2 (subF m1 mn)
  let a2 := if mn = negInf32 then one32 else softExp2 (subF m2 mn)
  (mn, addF (mulF a1 l1) (mulF a2 l2), List.zipWith (fun x y => addF (mulF a1 x) (mulF a2 y)) o1 o2)

end Sys2Proof.Machine
end

