-- ==== Sys2Proof/Machine/Matrix.lean ====
section
/-!
DEFINITION. What the matrix engine reads, computes and writes in a pass (06 R219 to R227, R231), and the checks of its
commands at issue (06 R219 to R221, R225).
-/
namespace Sys2Proof.Machine

def causeArrayCheck : BitVec 10 := 0x281

/-- A failed read or check of the engine: its cause and its detail. -/
abbrev MxFail := BitVec 10 × Nat

/-! ## Reads of tiles (06 R231) -/

/-- The detail of a fault met in a tile row. -/
def rowInfo (tile row : Nat) : Nat := row * 2 ^ 8 + tile

/-- Block `b` of a row of an operand tile, with elements from `lim` on taken as +0 (02 R69, R75, R77; 06 R223, R224). -/
def State.opBlock (s : State) (i row lim b : Nat) : Except MxFail Blk :=
  let t := s.tile i
  if t.fmt == 2 then
    let bs := s.rowRead t row (64 * b) (2 * lim)
    if bs.any (·.2) then .error (causePoisonConsumed, rowInfo i row)
    else
      let raw := bs.map (·.1)
      .ok (Blk.ofBf16 ((List.range 32).map fun k => if k < lim then fieldLE raw (2 * k) 2 else 0))
  else
    let g := s.rowRead t row (36 * b) 36
    if g.any (·.2) then .error (causePoisonConsumed, rowInfo i row)
    else
      match readGrain (g.map (·.1)) (t.fmt == 10) with
      | .bad => .error (causeGrainCheck, rowInfo i row)
      | .format => .error (causeMxFormat, rowInfo i row)
      | .ok f sc es => .ok (Blk.ofMx f sc (es.zipIdx.map fun x => if x.2 < lim then x.1 else 0))

/-- The first `nb` blocks of a row. -/
def State.opRow (s : State) (i nb row : Nat) : Except MxFail (List Blk) := (List.range nb).mapM (s.opBlock i row 32)

/-- The first `nb` blocks of `n` rows from row `from_`. -/
def State.opRows (s : State) (i nb from_ n : Nat) : Except MxFail (List (List Blk)) :=
  (List.range n).mapM fun r => s.opRow i nb (from_ + r)

/-- `n` elements of a row of an F32 tile, from element `off`. -/
def State.f32Row (s : State) (i off n row : Nat) : Except MxFail (List F32) :=
  let bs := s.rowRead (s.tile i) row (4 * off) (4 * n)
  if bs.any (·.2) then .error (causePoisonConsumed, rowInfo i row)
  else .ok ((List.range n).map fun k => BitVec.ofNat 32 (fieldLE (bs.map (·.1)) (4 * k) 4))

/-- Elements of a row of an F32 tile written. -/
def State.putF32 (s : State) (i off row : Nat) (xs : List F32) : State :=
  s.rowWrite (s.tile i) row (4 * off) (clean (xs.flatMap fun x => leBytes 4 x.toNat))

/-- Rows of an F32 tile written, from row `from_`. -/
def State.putRows (s : State) (i off from_ : Nat) (rows : List (List F32)) : State :=
  rows.zipIdx.foldl (fun x r => x.putF32 i off (from_ + r.2) r.1) s

/-! ## Products (06 R222) -/

/-- One product of MMUL or MMUL2. -/
structure Product where
  a : Nat
  b : Nat
  c : Nat
  m : Nat
  n : Nat
  kb : Nat
  fresh : Bool      -- Z: acc starts at +0
  deriving DecidableEq, Repr

def productOf (w : Word) (fresh : Bool) : Product :=
  { a := wordBits w 0 8, b := wordBits w 8 8, c := wordBits w 16 8, m := wordBits w 24 10 + 1, n := wordBits w 34 10 + 1,
    kb := wordBits w 44 9 + 1, fresh := fresh }

/-- Blocks of 64 in a count, and the passes of a product. -/
def blocks64 (n : Nat) : Nat := (n + 63) / 64
def Product.passes (p : Product) : Nat := blocks64 p.m * blocks64 p.n

/-- Pass `i` of a product: its elements of C read, computed and written. -/
def Product.pass (p : Product) (s : State) (i : Nat) : Except MxFail State := do
  let i0 := 64 * (i / blocks64 p.n)
  let j0 := 64 * (i % blocks64 p.n)
  let rows := min 64 (p.m - i0)
  let cols := min 64 (p.n - j0)
  let as ← s.opRows p.a p.kb i0 rows
  let bs ← s.opRows p.b p.kb j0 cols
  let cs ← if p.fresh then pure (List.replicate rows (List.replicate cols (0 : F32)))
    else (List.range rows).mapM fun r => s.f32Row p.c j0 cols (i0 + r)
  pure (s.putRows p.c j0 i0 (List.zipWith (fun a c => List.zipWith (fun b acc => dotBlocks a b acc) bs c) as cs))

/-! ## MXV (06 R226) -/

/-- A matrix-vector product. -/
structure MatVec where
  w : Nat
  x : Nat
  y : Nat
  n : Nat
  kb : Nat
  fresh : Bool
  deriving DecidableEq, Repr

def matVecOf (c : Cmd) : MatVec :=
  { w := wordBits c.w1 0 8, x := wordBits c.w1 8 8, y := wordBits c.w1 16 8, n := wordBits c.w1 24 10 + 1,
    kb := wordBits c.w1 34 9 + 1, fresh := c.w0.getLsbD 27 }

/-- Pass `i` of an MXV: the 128 elements of both arrays. -/
def MatVec.pass (p : MatVec) (s : State) (i : Nat) : Except MxFail State := do
  let n0 := 128 * i
  let n := min 128 (p.n - n0)
  let ws ← s.opRows p.w p.kb n0 n
  let x ← s.opRow p.x p.kb 0
  let ys ← if p.fresh then pure (List.replicate n (0 : F32)) else s.f32Row p.y n0 n 0
  pure (s.putF32 p.y n0 0 (List.zipWith (fun w y => dotBlocks w x y) ws ys))

/-! ## ATTN (06 R224) -/

/-- One chunk of attention. -/
structure Chunk where
  q : Nat
  k : Nat
  v : Nat
  o : Nat
  s : Nat
  qn : Nat
  klen : Nat
  d : Nat
  sigma : F32
  causal : Bool
  qp0 : Nat
  kp0 : Nat
  win : Nat
  deriving DecidableEq, Repr

def chunkOf (c : Cmd) : Chunk :=
  { q := wordBits c.w1 0 8, k := wordBits c.w1 8 8, v := wordBits c.w1 16 8, o := wordBits c.w1 24 8,
    s := wordBits c.w1 32 8, qn := wordBits c.w1 40 6 + 1, klen := wordBits c.w1 46 7,
    d := 64 * 2 ^ wordBits c.w1 53 2, sigma := BitVec.ofNat 32 (wordBits c.w0 32 32), causal := c.w0.getLsbD 27,
    qp0 := wordBits c.w2 0 32, kp0 := wordBits c.w2 32 32, win := wordBits c.w3 0 32 }

/-- The scores of query rows against key rows (02 R76), 64 to a row, those of keys that are not there +0. -/
def scoreRows (qs ks : List (List Blk)) : List (List F32) :=
  qs.map fun q => (ks.map fun k => dotBlocks q k 0) ++ List.replicate (64 - ks.length) 0

/-- The score pass: the scores it hands to the soft-maximum stage. -/
def Chunk.scorePass (a : Chunk) (s : State) : Except MxFail (List (List F32)) := do
  let qs ← s.opRows a.q (a.d / 32) 0 a.qn
  let ks ← s.opRows a.k (a.d / 32) 0 a.klen
  pure (scoreRows qs ks)

/-- The scores of row `i` with its masked keys left out. -/
def Chunk.masked (a : Chunk) (i : Nat) (scores : List F32) : List (Option F32) :=
  scores.zipIdx.map fun x => if maskedKey a.klen a.qp0 a.kp0 a.win a.causal i x.2 then none else some x.1

/-- The soft-maximum step over the rows of S. -/
def Chunk.softStep (a : Chunk) (s : State) (scores : List (List F32)) : Except MxFail (List SoftRow) :=
  scores.zipIdx.mapM fun x => do
    let ml ← s.f32Row a.s 0 2 x.2
    pure (softRow a.sigma (ml.getD 0 0) (ml.getD 1 0) (a.masked x.2 x.1))

/-- The two blocks of V row `c`; a block that holds only keys at KLEN and above is not read. -/
def Chunk.vRow (a : Chunk) (s : State) (c : Nat) : Except MxFail (List Blk) :=
  (List.range 2).mapM fun h => if a.klen ≤ 32 * h then .ok Blk.zero else s.opBlock a.v c (min 32 (a.klen - 32 * h)) h

/-- The value pass: O accumulated, and both tiles written. -/
def Chunk.valuePass (a : Chunk) (s : State) (soft : List SoftRow) : Except MxFail State := do
  let vs ← (List.range a.d).mapM (a.vRow s)
  let os ← (List.range a.qn).mapM (s.f32Row a.o 0 a.d)
  let s1 := s.putRows a.s 0 0 (soft.map fun r => [r.m, r.l])
  pure (s1.putRows a.o 0 0 (List.zipWith (fun r o => valueRow r o vs) soft os))

/-- Rows of the stage as words that a command carries on, and back. -/
def SoftRow.image (r : SoftRow) : List F32 := r.m :: r.l :: r.alpha :: r.p

def softRowsOf : Nat → List F32 → List SoftRow
  | 0, _ => []
  | n + 1, xs =>
    { m := xs.getD 0 0, l := xs.getD 1 0, alpha := xs.getD 2 0, p := (xs.drop 3).take 64 } :: softRowsOf n (xs.drop 67)

def scoresOf : Nat → List F32 → List (List F32)
  | 0, _ => []
  | n + 1, xs => xs.take 64 :: scoresOf n (xs.drop 64)

/-! ## Statistics and helper commands (06 R227) -/

/-- The fields of SINIT and SFIN. -/
structure Stat where
  s : Nat
  o : Nat
  qn : Nat
  d : Nat
  deriving DecidableEq, Repr

def statOf (c : Cmd) : Stat :=
  { s := wordBits c.w1 0 8, o := wordBits c.w1 8 8, qn := wordBits c.w1 16 6 + 1, d := 64 * 2 ^ wordBits c.w1 24 2 }

/-- MZERO's row: zeros, or ZERO-block grains. -/
def State.zeroTile (s : State) (i : Nat) : State :=
  let t := s.tile i
  let row := if t.isMx then (List.replicate (t.width.toNat / 36) (mkGrain 6 0x7F (List.replicate 32 0))).flatten
    else List.replicate t.width.toNat 0
  (List.range (t.rows.toNat + 1)).foldl (fun x r => x.rowWrite t r 0 (clean row)) s

/-- SINIT. -/
def Stat.init (a : Stat) (oz : Bool) (s : State) : State :=
  let s1 := s.putRows a.s 0 0 (List.replicate a.qn [negInf32, 0])
  if oz then s1.putRows a.o 0 0 (List.replicate a.qn (List.replicate a.d 0)) else s1

/-- SFIN. -/
def Stat.finalise (a : Stat) (s : State) : Except MxFail State := do
  let rows ← (List.range a.qn).mapM fun i => do
    let ml ← s.f32Row a.s 0 2 i
    let o ← s.f32Row a.o 0 a.d i
    pure (finalRow (ml.getD 1 0) o)
  pure (s.putRows a.o 0 0 rows)

/-- The fields of SMERGE. -/
structure Merge where
  s1 : Nat
  o1 : Nat
  s2 : Nat
  o2 : Nat
  qn : Nat
  d : Nat
  deriving DecidableEq, Repr

def mergeOf (c : Cmd) : Merge :=
  { s1 := wordBits c.w1 0 8, o1 := wordBits c.w1 8 8, s2 := wordBits c.w1 16 8, o2 := wordBits c.w1 24 8,
    qn := wordBits c.w1 32 6 + 1, d := 64 * 2 ^ wordBits c.w1 40 2 }

/-- Rows of S and O replaced by merged ones. -/
def State.putMerged (s : State) (st o : Nat) (rows : List (F32 × F32 × List F32)) : State :=
  (s.putRows st 0 0 (rows.map fun r => [r.1, r.2.1])).putRows o 0 0 (rows.map fun r => r.2.2)

/-- SMERGE. -/
def Merge.run (a : Merge) (s : State) : Except MxFail State := do
  let rows ← (List.range a.qn).mapM fun i => do
    let x ← s.f32Row a.s1 0 2 i
    let y ← s.f32Row a.s2 0 2 i
    let o1 ← s.f32Row a.o1 0 a.d i
    let o2 ← s.f32Row a.o2 0 a.d i
    pure (mergeRow (x.getD 0 0) (x.getD 1 0) (y.getD 0 0) (y.getD 1 0) o1 o2)
  pure (s.putMerged a.s1 a.o1 rows)

/-- SCOPY: bytes 0 to 7 of each row, bit for bit. -/
def scopyRun (src dst qn : Nat) (s : State) : Except MxFail State := do
  let rows ← (List.range qn).mapM (s.f32Row src 0 2)
  pure (s.putRows dst 0 0 rows)

/-! ## Issue (06 R219 to R221, R225, R228) -/

/-- What a tile has to be: an operand with at least so many rows of so many blocks; an F32 tile of so many bytes. -/
inductive Need where
  | operand (tile rows blocks : Nat)
  | f32 (tile rows bytes : Nat)
  | any (tile : Nat)

def Need.tile : Need → Nat
  | .operand t _ _ | .f32 t _ _ | .any t => t

/-- TILE_FORMAT and TILE_RANGE of a tile (06 R221). -/
def Need.check (s : State) : Need → Except EngStop Unit
  | .any _ => .ok ()
  | .operand i rows blocks =>
    let t := s.tile i
    if t.fmt != 2 && !t.isMx then s.faultNow causeTileFormat i
    else if t.rows.toNat + 1 < rows ∨ t.width.toNat < blocks * (if t.fmt == 2 then 64 else 36) then s.faultNow causeTileRange i
    else .ok ()
  | .f32 i rows bytes =>
    let t := s.tile i
    if t.fmt != 1 then s.faultNow causeTileFormat i
    else if t.rows.toNat + 1 < rows ∨ t.width.toNat < bytes then s.faultNow causeTileRange i
    else .ok ()

/-- What a command does with a tile: reads it, writes it without reading it, or both (06 R219). -/
inductive TileUse where
  | reads (i : Nat)
  | writes (i : Nat)
  | changes (i : Nat)

def TileUse.tile : TileUse → Nat
  | .reads i | .writes i | .changes i => i

/-- An older ATTN of the context has issued and has not yet taken its S and O, and this is one of them: its soft-maximum
step comes first (06 R228; log entry 47). -/
def Ctx.awaitedByAttn (c : Ctx) (seq i : Nat) : Bool :=
  c.cmds.any fun k =>
    k.ring == .mx && k.cmd.w0.toNat % 256 == 0x62 && k.stage == .issued && decide (k.seq < seq) && k.work.targets.isEmpty
      && (i == (chunkOf k.cmd).s || i == (chunkOf k.cmd).o)

/-- The tiles awaited, in order (01 R35, R36). -/
def State.awaitUses (k : CmdRec) (all : List TileUse) : List TileUse → State → Except EngStop State
  | [], s => .ok s
  | u :: us, s =>
    let readers := (all.filter fun v => match v with
      | .reads j => j == u.tile
      | _ => false).length
    let may : Tile → Bool :=
      match u with
      | .reads _ => fun t => t.state == .ready && decide (t.rdcnt.toNat + readers ≤ 63)
      | .writes _ => Tile.mayWrite
      | .changes _ => Tile.mayStore
    if s.ctx.awaitedByAttn k.seq u.tile then .error (.wait s)
    else
      match s.awaitTile k u.tile may with
      | .error e => .error e
      | .ok s1 => State.awaitUses k all us s1

/-- Every tile named is the context's (01 R33). -/
def State.ownAll (s : State) : List Nat → Except EngStop Unit
  | [] => .ok ()
  | i :: is =>
    match s.engTile i with
    | .error e => .error e
    | .ok _ => s.ownAll is

/-- Tiles that go to FILLING, and tiles that are read. -/
def useTargets (us : List TileUse) : List (Nat × TileState) :=
  us.filterMap fun u => match u with
    | .reads _ => none
    | .writes i | .changes i => some (i, .filling)
def useReaders (us : List TileUse) : List Nat :=
  us.filterMap fun u => match u with
    | .reads i => some i
    | _ => none

/-- The passes that an array makes for a command (06 R222, R224, R226): the score array, or the value array. -/
def arrayPasses (c : Cmd) (arr : Bool) : Nat :=
  match c.w0.toNat % 256 with
  | 0x60 => if arr then 0 else (productOf c.w1 true).passes
  | 0x61 => (productOf (if arr then c.w2 else c.w1) true).passes
  | 0x62 => 1
  | 0x63 => ((matVecOf c).n + 127) / 128
  | _ => 0

/-- Passes done by an array, and whether the command holds it. -/
def CmdWork.pos (w : CmdWork) (arr : Bool) : Nat := (w.words.getD (if arr then 1 else 0) 0).toNat
def CmdWork.holds (w : CmdWork) (arr : Bool) : Bool := w.words.getD (if arr then 3 else 2) 0 != 0
def CmdWork.setPos (w : CmdWork) (arr : Bool) (n : Nat) : CmdWork :=
  { w with words := w.words.set (if arr then 1 else 0) (BitVec.ofNat 64 n) }
def CmdWork.setHold (w : CmdWork) (arr h : Bool) : CmdWork :=
  { w with words := w.words.set (if arr then 3 else 2) (if h then 1 else 0) }

/-- The contexts of the core. -/
def State.fourCtxs (s : State) : List Ctx := (List.range 4).map fun c => s.allCtxs.getD (4 * s.coreNum + c) Ctx.vacant

/-- No command of the core's contexts holds the array. -/
def State.arrayFree (s : State) (arr : Bool) : Bool :=
  s.fourCtxs.all fun c => c.cmds.all fun k => !(k.ring == .mx && k.stage == .issued && k.work.holds arr)

/-- The arrays that a command needs before it issues (06 R228). -/
def firstArrays (c : Cmd) : List Bool :=
  match c.w0.toNat % 256 with
  | 0x60 | 0x62 => [false]
  | 0x61 | 0x63 => [false, true]
  | _ => []

/-- Step 3 of a matrix command: its tiles are the context's, pass the bank-group rule, and are what they have to be;
then they and the arrays are waited for. -/
def mxGate (c : Cmd) (needs : List Need) (uses : List TileUse) (s : State) (k : CmdRec) : Except EngStop (State × Gated) := do
  s.ownAll (needs.map Need.tile)
  match s.bankCheck c with
  | some (cause, info) => s.faultNow cause info
  | none => pure ()
  needs.forM (Need.check s)
  let s1 ← State.awaitUses k uses uses s
  let arrays := firstArrays c
  if !(arrays.all s1.arrayFree) || s1.core.frozen && !arrays.isEmpty then .error (.wait s1)
  else
    pure (s1, { targets := useTargets uses, readers := useReaders uses,
                words := [0, 0, if arrays.contains false then 1 else 0, if arrays.contains true then 1 else 0] })

/-- Bits of word 0 of a matrix command that are zero: those of CLASS and SCOPE too (06 R219). -/
def mxZero (flags opnd : Nat) : Nat := w0Zero flags opnd + 0x7F00000

end Sys2Proof.Machine
end

