-- ==== Sys2Proof/Machine/System.lean ====
section
/-!
DEFINITION. System instructions: control registers (08 R283 to R285, 01 R50), TRAP, RETT and RETRY (08 R286 to R290),
SAFEPT (08 R276), WAITC and the task exit (08 R272, R273), VALLOC and WAITX (05 R175, R178).
-/
namespace Sys2Proof.Machine

def causeWaitInGang : BitVec 10 := 0x381
def causePondNone : BitVec 10 := 0x382
def causeLivemaskRange : BitVec 10 := 0x383
def causeWaitcRecord : BitVec 10 := 0x384
def causeTrapInsn : BitVec 10 := 0x385
def causeVallocLimit : BitVec 10 := 0x38C

/-! ## Control registers -/

/-- What task mode may do with a control register (08 R284). -/
inductive CsrAccess where
  | absent | none | read | write
  deriving DecidableEq, Repr

/-- The access that table *Control register numbers* gives (08 R284). -/
def csrAccess (n : Nat) : CsrAccess :=
  if n = 0x000 ∨ n = 0x010 ∨ n = 0x011 ∨ n = 0x012 ∨ n = 0x013 ∨ n = 0x014 ∨ n = 0x018 ∨ n = 0x019 ∨ n = 0x022 ∨ n = 0x023
      ∨ n = 0x024 ∨ n = 0x028 ∨ n = 0x029 ∨ n = 0x02A ∨ n = 0x033 ∨ n = 0x038 ∨ n = 0x039 ∨ n = 0x03A then .read
  else if n = 0x020 ∨ n = 0x021 ∨ n = 0x025 ∨ n = 0x030 ∨ n = 0x031 ∨ n = 0x032 ∨ n = 0x034 ∨ n = 0x035 then .write
  else if (0x001 ≤ n ∧ n ≤ 0x007) ∨ (0x040 ≤ n ∧ n ≤ 0x044 ) ∨ (0x048 ≤ n ∧ n ≤ 0x04F) then .none
  else .absent

/-- ILLEGAL_CSR (01 R50, 03 R92): a number that names no register, in either mode; in task mode, a register without the
access needed. -/
def State.needCsr (s : State) (n : BitVec 12) (writes : Bool) : Except Stop Unit :=
  let ok :=
    match csrAccess n.toNat with
    | .absent => false
    | .none => s.kernel
    | .read => s.kernel || !writes
    | .write => true
  if ok then .ok () else s.trapWord causeIllegalCsr n.toNat

/-- The stage predicates as instructions name them (01 R30): sgj is physical predicate (j + VRB) mod ρ for j < ρ. -/
def State.logicalSg (s : State) : Nat :=
  let rho := (s.rho).getD 0
  ((List.range 16).map fun j =>
    let p := if j < rho then (j + s.ctx.ctl.vrb.toNat) % rho else j
    bit (s.ctx.sg.getLsbD p) * 2 ^ j).sum

/-- LSTAGE (04 R123). -/
def State.lstage (s : State) : Word :=
  let ls := s.ctx.loop.levels
  let inner := match ls with
    | [] => 0
    | lv :: _ => if lv.isS then 2 ^ 39 + lv.rlog * 2 ^ 36 + lv.nst * 2 ^ 32 + lv.epi * 2 ^ 28 else 0
  BitVec.ofNat 64 (ls.length * 2 ^ 40 + inner + s.logicalSg)

/-- A field of the innermost open level, 0 with none open (04 R123). -/
def State.innermost (s : State) (f : Level → Word) : Word :=
  match s.ctx.loop.levels with
  | [] => 0
  | lv :: _ => f lv

/-- A control register as MFC reads it: reserved and write-only fields as zero (08 R283 to R285). -/
def State.csrRead (s : State) (n : Nat) : Word :=
  let c := s.ctx.ctl
  match n with
  | 0x000 => BitVec.ofNat 64 (s.coreNum * 2 ^ 8 + s.ctxNum * 2 ^ 4 + bit c.preq * 2 + bit c.kernel)
  | 0x001 => (c.tcode ++ c.tinfo).setWidth 64
  | 0x002 => c.tval
  | 0x003 => c.tpc.setWidth 64 <<< 2
  | 0x004 => c.tvec.setWidth 64 <<< 2
  | 0x005 => BitVec.ofNat 64 (c.lmIdx.toNat * 2 ^ 52 + c.lmVmask.toNat * 2 ^ 40 + c.lmSmask.toNat * 2 ^ 8 + bit c.lmValid)
  | 0x006 => c.kscr0
  | 0x007 => c.kscr1
  | 0x010 => c.tid.setWidth 64
  | 0x011 => c.lid.setWidth 64
  | 0x012 => c.pondid
  | 0x013 => s.dev.time
  | 0x014 => s.dev.cycle
  | 0x018 => c.lmtbase.setWidth 64 <<< 3
  | 0x019 => c.lmtlim.setWidth 64
  | 0x020 => c.fmode
  | 0x021 => c.vqfmt.setWidth 64
  | 0x022 => BitVec.ofNat 64 (c.vLimit.toNat * 2 ^ 12 + c.vCount.toNat * 2 ^ 8 + c.vBase.toNat)
  | 0x023 => c.vrb.setWidth 64
  | 0x024 => c.xc.setWidth 64
  | 0x025 => c.vdone
  | 0x028 => s.innermost (·.count)
  | 0x029 => s.lstage
  | 0x02A => s.innermost (·.iter)
  | 0x030 => s.ctx.ri.image
  | 0x031 => s.ctx.ro.image
  | 0x032 => s.ctx.mx.image
  | 0x033 => BitVec.ofNat 64 (bit c.enqst)
  | 0x034 => c.htbase.setWidth 64 <<< 7
  | 0x035 => c.htlim.setWidth 64
  | 0x038 => c.fwdOld.setWidth 64
  | 0x039 => c.fwdNew.setWidth 64
  | 0x03A => BitVec.ofNat 64 (bit c.fwdAct * 2 ^ 63 + c.fwdOff.toNat)
  | 0x040 => s.ctx.ri.fsImage
  | 0x041 => s.ctx.ro.fsImage
  | 0x042 => s.ctx.mx.fsImage
  | 0x043 => s.ctx.ri.fa.setWidth 64
  | 0x044 => s.ctx.ro.fa.setWidth 64
  | 0x048 => s.ctx.ri.fcImage 0
  | 0x049 => s.ctx.ri.fcImage 1
  | 0x04A => s.ctx.ri.fcImage 2
  | 0x04B => s.ctx.ri.fcImage 3
  | 0x04C => s.ctx.ro.fcImage 0
  | 0x04D => s.ctx.ro.fcImage 1
  | 0x04E => s.ctx.ro.fcImage 2
  | 0x04F => s.ctx.ro.fcImage 3
  | _ => 0

/-- MFC (08 R283). -/
def execMfc (d : BitVec 5) (c : BitVec 12) (s : State) : Outcome :=
  finish do
    s.needCsr c false
    pure (s.setReg d (s.csrRead c.toNat) false)

/-- The RW fields of FMODE (01 R31). -/
def fmodeMask : Word := 0xF8

/-- HTLIM as written: above 1,024 it becomes 1,024 (08 R285). -/
def htlimOf (v : Word) : BitVec 11 :=
  if 1024 < v.toNat then 1024 else v.setWidth 11

/-- The RW fields of a control register written and its WO fields acted on (08 R283, R285); none when it traps RING_BUSY
(01 R41). -/
def State.csrWrite (s : State) (n : Nat) (v : Word) : Option State :=
  match n with
  | 0x001 => some (s.setCtl fun c => { c with tcode := v.extractLsb' 22 10, tinfo := v.extractLsb' 0 22 })
  | 0x002 => some (s.setCtl fun c => { c with tval := v })
  | 0x003 => some (s.setCtl fun c => { c with tpc := v.extractLsb' 2 62 })
  | 0x004 => some (s.setCtl fun c => { c with tvec := v.extractLsb' 2 54 })
  | 0x006 => some (s.setCtl fun c => { c with kscr0 := v })
  | 0x007 => some (s.setCtl fun c => { c with kscr1 := v })
  | 0x020 => some (s.setCtl fun c => { c with fmode := v &&& fmodeMask })
  | 0x021 => some (s.setCtl fun c => { c with vqfmt := v.extractLsb' 0 4 })
  | 0x025 => some (s.setCtl fun c => { c with vdone := v })
  | 0x030 => s.writeRing .ri v
  | 0x031 => s.writeRing .ro v
  | 0x032 => s.writeRing .mx v
  | 0x034 => some (s.setCtl fun c => { c with htbase := v.extractLsb' 7 49 })
  | 0x035 => some (s.setCtl fun c => { c with htlim := htlimOf v })
  | 0x040 => some (s.writeFs .ri v)
  | 0x041 => some (s.writeFs .ro v)
  | 0x042 => some (s.writeFs .mx v)
  | _ => some s

/-- MTC (08 R283). -/
def execMtc (a : BitVec 5) (c : BitVec 12) (s : State) : Outcome :=
  finish do
    s.needCsr c true
    s.needClean a
    match s.csrWrite c.toNat (s.reg a) with
    | some s1 => pure s1
    | none => s.trapWord causeRingBusy c.toNat

/-! ## Traps -/

/-- TRAP (08 R286): TPC names the next word. -/
def execTrap (n : BitVec 12) (s : State) : Outcome :=
  .next (s.countIssue.takeTrapAt causeTrapInsn (n.setWidth 22) 0 s.link)

/-- PRIVILEGED in task mode (03 R92, 08 R289). -/
def State.needKernel (s : State) : Except Stop Unit := if s.kernel then .ok () else s.trapWord causePrivileged 0

/-- RETT (08 R289). -/
def execRett (s : State) : Outcome :=
  finishAt do
    s.needKernel
    pure s.returnFromTrap

/-- A ring that RETRY resumes: halted on a fault that has been delivered (08 R290). -/
def State.retryRing (s : State) (r : Ring) : State :=
  let x := s.ring r
  if x.halt && !x.pend then s.restartRing r else s

/-- RETRY (08 R290). -/
def execRetry (s : State) : Outcome :=
  finishAt do
    s.needKernel
    pure (((s.retryRing .ri).retryRing .ro).retryRing .mx).returnFromTrap

/-! ## Safe points -/

/-- SAFEPT at its point (08 R276, 04 R131): the count of 01 R56 is reset, LIVEM names the entry, and outside LOOP.S a
pending pre-emption halts the context, with execution to continue past it. -/
def State.atSafePoint (s : State) (k : BitVec 12) : State :=
  let inside := s.inLoopS
  let s1 := (s.setCtl fun c => { c with lmIdx := k, lmValid := true }).retire
  let s2 := { s1 with ctx := { s1.ctx with sinceSafe := 0 } }
  if !inside && !s2.kernel && s2.ctx.ctl.preq then s2.halt (some k) else s2

/-- SAFEPT: a pending engine fault is delivered first (06 R198). One that traps is not counted either (01 R56). -/
def execSafept (k : BitVec 12) (s : State) : Outcome :=
  match (if s.kernel then none else s.ctx.pendingFault) with
  | some r => .next (s.deliverFault r)
  | none =>
    if s.ctx.ctl.lmtlim.toNat ≤ k.toNat then .next (s.takeTrapAt causeLivemaskRange (BitVec.ofNat 22 k.toNat) s.irVal s.ctx.pc)
    else .next (s.atSafePoint k)

/-! ## Ending a task (08 R272, R273) -/

/-- Tiles of the context, in index order. -/
def State.ownedTiles (s : State) : List Nat :=
  (List.range 256).filter fun i => (s.tile i).valid && (s.tile i).owner.toNat == s.ctxNum

/-- The steps that WAITC and the task exit share: the rings drain, the tiles are freed, every access performs. What has
been done stays done when one of them waits or traps. -/
def State.settle (s : State) : Course := do
  if !s.ctx.cmds.isEmpty then .error (.stall s)
  let s1 ← s.ownedTiles.foldlM (fun x i => x.freeTile (BitVec.ofNat 8 i)) s
  let s2 := s1.drain
  if s2.quiet (BitVec.allOnes 16) s2.ctx.cmdSeq then pure s2 else .error (.stall s2)

/-- Issue stops and TASK_END frees the context. -/
def State.endTask (s : State) (e : Ending) : State :=
  ({ s with ctx := { s.ctx with status := .stalled, ending := some e } }).later .taskEnd

/-- An instruction that ends the task delivers a pending engine fault first (06 R198). -/
def State.ending (s : State) (c : Course) : Outcome :=
  match (if s.kernel then none else s.ctx.pendingFault) with
  | some r => .next (s.deliverFault r)
  | none => finishAt c

/-- The task exit (08 R272, R273). -/
def execTaskExit (s : State) : Outcome :=
  s.ending do
    let s1 ← s.settle
    pure (s1.countIssue.endTask .exit)

/-- Bytes 8 to 63 of a continuation record (08 R273). -/
def State.recordHeader (s : State) (sm : BitVec 32) (vm : BitVec 8) : List Byte :=
  let c := s.ctx.ctl
  let tags := ((List.range 32).map fun i =>
    if i < 4 * c.vCount.toNat then (s.vtag (BitVec.ofNat 5 i)).toNat * 2 ^ (4 * i) else 0).sum
  leBytes 8 s.link.toNat ++ leBytes 4 c.tid.toNat ++ leBytes 4 c.lid.toNat ++ leBytes 8 c.pondid.toNat
    ++ leBytes 8 (sm.toNat + vm.toNat * 2 ^ 32 + c.fmode.toNat % 256 * 2 ^ 40 + c.vqfmt.toNat * 2 ^ 48)
    ++ leBytes 4 s.ctx.pois.toNat ++ leBytes 4 0 ++ leBytes 16 tags

/-- The stores of a continuation record, in order: its header and the live registers (08 R273). -/
def State.recordStores (s : State) (rec' : Word) (sm : BitVec 32) (vm : BitVec 8) : List (Nat × List Byte) :=
  let base := rec'.toNat
  let scalars := ((List.range 32).filter fun i => i != 0 && sm.getLsbD i).map fun i =>
    (base + 64 + 8 * i, leBytes 8 (s.reg (BitVec.ofNat 5 i)).toNat)
  let vectors := ((List.range 8).filter vm.getLsbD).flatMap fun g => (List.range 4).map fun j =>
    (base + 512 + 16384 * g + 4096 * j, rowBytes (s.vreg (BitVec.ofNat 5 (4 * g + j))).data)
  (base + 8, s.recordHeader sm vm) :: scalars ++ vectors

/-- Stores of the stream in class 0 at device scope, one after the other. -/
def State.storeAll (s : State) : List (Nat × List Byte) → Course
  | [] => .ok s
  | (va, bs) :: t =>
    match s.writeRange s.kernel 0 scopeDevice va (clean bs) with
    | (s1, .error e) => .error (s1.blocked e .write)
    | (s1, .ok _) => s1.storeAll t

/-- The kind of the request that ORs ARMED into a record a peer holds. -/
def armKind : Nat := 8

/-- ARMED set by an atomic OR (08 R273): the old value of WAIT, once it is there. -/
def State.armRecord (s : State) (pa : Nat) (leaf : BitVec 64) (va : Word) : Except Stop (State × Nat × Bool) :=
  if residency pa = 3 then
    if s.dev.peerGone (peerOf pa) then .ok (s, 0, true)
    else
      match s.peerAnswer armKind (peerOf pa) pa 0 { gBlank with
          type := gAtom, ret := true, op := AtomOp.or.code, size := 3, off := peerOff pa, scope := scopePool,
          len := 8, payload := leBytes 8 (2 ^ 32) } with
      | .error e => .error e
      | .ok (s1, bs, st) => .ok (s1, leNat bs, bs.length != 8 || st != 0)
  else .ok (s.atomAt .or pa 3 leaf (2 ^ 32) 0 false false va)

/-- The stores of the record, made once: a record in peer memory then waits for the answer to its OR. -/
def State.storeRecord (s : State) (pa : Nat) (rec' : Word) (sm : BitVec 32) (vm : BitVec 8) : Course :=
  if s.ctx.peer.any fun w => w.kind == armKind && w.key == pa then .ok s
  else s.storeAll (s.recordStores rec' sm vm)

/-- The checks of WAITC (08 R272, R273), in order: the record's address, then the live-mask entry it names. -/
def State.waitcChecks (s : State) (a : BitVec 5) (k : BitVec 12) :
    Except Stop (State × Nat × BitVec 64 × BitVec 32 × BitVec 8) := do
  if s.inGroup then s.trapWord causeWaitInGang 0
  if s.depth != 0 then s.trapWord causeLoopNest s.depth
  s.needClean a
  let va := s.reg a
  if va.toNat % 128 ≠ 0 then s.trapVal causeWaitcRecord 0 va
  let (s1, pa, leaf) ← s.access va .atomic
  if !s1.atomicHome pa leaf then s1.trapVal causeWaitcRecord 0 va
  if s1.ctx.ctl.lmtlim.toNat ≤ k.toNat then s1.trapWord causeLivemaskRange k.toNat
  let mva := BitVec.ofNat 64 (s1.liveMaskVa k.toNat)
  let (s2, mpa, mleaf) ← s1.access mva .read
  let (s3, bs, p) ← s2.streamRead mva mpa 8 mleaf 0 scopeContext
  if p then s3.trapWord causePoisonConsumed 0
  let e := BitVec.ofNat 64 (leNat bs)
  let vm : BitVec 8 := e.extractLsb' 32 8
  match (List.range 8).find? fun g => vm.getLsbD g && decide (s3.groups ≤ g) with
  | some g => s3.trapWord causeGroupRange (4 * g)
  | none => pure (s3, pa, leaf, e.extractLsb' 0 32, vm)

/-- A record armed: from now on a signal can hand its continuation over (08 R274). -/
def State.expectSignals (s : State) (rec' : Word) : State :=
  match s.ctx.job with
  | none => s
  | some j =>
    let sl := s.dev.sluice
    let k : Cont := { record := rec', launch := j.launch, mem := j.mem, group := j.group, barrierCount := s.ctx.barrierCount,
                      order := sl.orderNext, handed := false, inHeap := false }
    { s with dev := { s.dev with sluice := { sl with conts := sl.conts ++ [k], orderNext := sl.orderNext + 1 } } }

/-- WAITC (08 R272, R273). -/
def execWaitc (a : BitVec 5) (k : BitVec 12) (s : State) : Outcome :=
  s.ending do
    let (s1, pa, leaf, sm, vm) ← s.waitcChecks a k
    let s2 ← s1.settle
    let s3 ← s2.storeRecord pa (s2.reg a) sm vm
    let (s4, old, p) ← s3.armRecord pa leaf (s3.reg a)
    if p then s4.trapWord causePoisonConsumed 0
    pure ((s4.countIssue.expectSignals (s4.reg a)).endTask (.waitc (s4.reg a) (old % 2 ^ 32)))

/-! ## Vector allocation and the crossbar -/

/-- The physical registers of the context's groups lo, …, hi − 1 set to a contents. -/
def State.setGroups (s : State) (lo hi : Nat) (v : VReg) : State :=
  (List.range 32).foldl (fun x i =>
    if 4 * (x.ctx.ctl.vBase.toNat + lo) ≤ i ∧ i < 4 * (x.ctx.ctl.vBase.toNat + hi) then x.setVphys i v else x) s

/-- VALLOC (05 R178): groups added are zero and VOID; groups removed are GATED and lose their contents. No VLD, VST,
VPERM or VATOM is outstanding when it issues. -/
def execValloc (k : BitVec 12) (s : State) : Outcome :=
  finish do
    if s.inLoopS then s.trapWord causeLoopNest s.depth
    if s.ctx.ctl.vLimit.toNat < k.toNat then s.trapWord causeVallocLimit k.toNat
    if s.ctx.ctl.xc ≠ 0 then .error (.stall s)
    let n := s.groups
    let s1 := s.setGroups n k.toNat { VReg.gated with power := .active }
    let s2 := s1.setGroups k.toNat n VReg.gated
    pure (s2.setCtl fun c => { c with vCount := k.setWidth 4 })

/-- WAITX (05 R175): the context goes on once XC ≤ n. -/
def execWaitx (n : BitVec 12) (s : State) : Outcome :=
  finish (if s.ctx.ctl.xc.toNat ≤ n.toNat then .ok s else .error (.stall s))

end Sys2Proof.Machine
end

