-- ==== Sys2Proof/Machine/Sync.lean ====
section
/-!
DEFINITION. Tokens and semaphores of the stream (08 R266 to R268), ponds and barriers (08 R269 to R271), FENCE (08 R278,
R279).
-/
namespace Sys2Proof.Machine

/-! ## Tokens and semaphores -/

/-- The semaphore an instruction names: a pond-1 one needs a group of more than one member (08 R266). -/
def State.needSem (s : State) (sel : BitVec 6) : Except Stop Selector :=
  match selectorOf sel.toNat with
  | .psem k => if s.inGroup then .ok (.psem k) else s.trapWord causePondNone 0
  | x => .ok x

/-- A wait of the stream: taken when it can be, and noted inside LOOP.S so that a rollback gives it back (13 R413). -/
def State.waitFor (s : State) (sel : Selector) : Course :=
  match s.take sel with
  | none => .error (.stall s)
  | some (s1, none) => .ok s1
  | some (s1, some t) => .ok (if s1.holding then s1.setLoop fun l => { l with taken := t :: l.taken } else s1)

/-- The accesses before a release have performed (08 R267). -/
def State.needQuiet (s : State) (mask : BitVec 16) : Course :=
  let s1 := s.drain
  if s1.quiet mask s1.ctx.cmdSeq then .ok s1 else .error (.stall s1)

/-- TOKW (08 R266, R268). -/
def execTokw (s' : BitVec 6) (s : State) : Outcome := finish (s.waitFor (selectorOf s'.toNat))

/-- TOKS (08 R266 to R268): held for the commit inside LOOP.S; else it waits for room and for the accesses before it. -/
def execToks (s' : BitVec 6) (s : State) : Outcome :=
  finish
    (if s.holding then .ok (s.hold (.toks s' s.ctx.cmdSeq s.ctx.postSeq))
     else
       match s.needQuiet (BitVec.allOnes 16) with
       | .error e => .error e
       | .ok s1 =>
         match s1.give (selectorOf s'.toNat) with
         | .done s2 => .ok s2
         | _ => .error (.stall s1))

/-- SEMW (08 R266, R268). -/
def execSemw (s' : BitVec 6) (s : State) : Outcome :=
  finish do
    let sel ← s.needSem s'
    s.waitFor sel

/-- SEMS (08 R266 to R268): an increment past 0xFFFF leaves the semaphore and traps SEM_OVERFLOW (01 R46). -/
def execSems (s' : BitVec 6) (s : State) : Outcome :=
  finish do
    let sel ← s.needSem s'
    if s.holding then pure (s.hold (.sems s' s.ir s.ctx.cmdSeq s.ctx.postSeq))
    else
      let s1 ← s.needQuiet (BitVec.allOnes 16)
      match s1.give sel with
      | .done s2 => pure s2
      | .full => .error (.stall s1)
      | .overflow => s1.trapWord causeSemOverflow s'.toNat

/-- SEMR (08 R266): no wait. -/
def execSemr (d : BitVec 5) (s' : BitVec 6) (s : State) : Outcome :=
  finish do
    let sel ← s.needSem s'
    let v := match sel with
      | .sem k => s.semVal k
      | .psem k => s.psemVal k
      | _ => 0
    pure (s.setReg d (BitVec.ofNat 64 v) false)

/-! ## Barriers -/

/-- The same launch: a barrier of level 2 or 3 spans every member of a batch (12 R404). -/
def Job.sameTask (a b : Job) : Bool := a.launch == b.launch

/-- Contexts saved in save blocks and cellars. -/
def State.storedCtxs (s : State) : List Ctx :=
  s.dev.sluice.saved.map (·.ctx) ++ s.allClus.flatMap fun c => match c.cellar with
    | some im => im.ctxs
    | none => []

/-- The context's task has armed its record: from there on its continuation stands for it (08 R273, R274). -/
def Ctx.parted (c : Ctx) : Bool :=
  match c.ending with
  | some (.waitc _ _) => true
  | _ => false

/-- The tasks of a job's launch that hold a context or are saved. -/
def State.siblings (s : State) (j : Job) : List Ctx :=
  (s.allCtxs ++ s.storedCtxs).filter fun c => !c.parted && c.job.any fun x => x.sameTask j

/-- The continuations of a job's launch. -/
def State.waiting (s : State) (j : Job) : List Cont := s.dev.sluice.conts.filter fun c => c.launch == j.launch

/-- Tasks of a launch, and those of them that have ended. -/
def Launch.tasks (l : Launch) : Nat := (l.members.map fun m => m.pkt.n.toNat).sum
def Launch.ended (l : Launch) : Nat := (l.members.map (·.ended)).sum

/-- Barriers of a level (1 to 3) that a task has arrived at. -/
def arrivals (v : Vector Nat 3) (level : Nat) : Nat := v.toList.getD (level - 1) 0

/-- PONDID.P3N (01 R52). -/
def State.pondDevices (s : State) : Nat := (s.ctx.ctl.pondid.extractLsb' 55 5).toNat

/-- Every member of the context's pond of a level has arrived at its k-th barrier (08 R270): one that has ended counts as
arrived, and at level 3 the other devices' members must have passed as well. -/
def State.barrierOpen (s : State) (level k : Nat) : Bool :=
  match s.ctx.job with
  | none => true
  | some j =>
    if level = 1 then
      (s.siblings j).all fun c => !(c.job.any fun x => x.group == j.group) || decide (k ≤ arrivals c.barrierCount 1)
    else
      match s.dev.sluice.launch? j.launch with
      | none => true
      | some l =>
        let here := ((s.siblings j).filter fun c => decide (k ≤ arrivals c.barrierCount level)).length
          + ((s.waiting j).filter fun c => decide (k ≤ arrivals c.barrierCount level)).length
        decide (l.tasks ≤ l.ended + here) && (level != 3 || decide (s.pondDevices ≤ 1) || decide (k ≤ l.p3))

/-- Every group of the pond is resident (08 R271): each task of the launch has ended or holds a context. -/
def State.pondResident (s : State) : Bool :=
  match s.ctx.job with
  | none => true
  | some j =>
    match s.dev.sluice.launch? j.launch with
    | none => true
    | some l =>
      decide (l.tasks ≤ l.ended + (s.allCtxs.filter fun c => c.job.any fun x => x.sameTask j).length)

/-- Places whose context satisfies a test. -/
def State.placesWith (s : State) (f : Ctx → Bool) : List Nat := (s.allCtxs.zipIdx.filter fun x => f x.1).map (·.2)

/-- The places of the context's pond-1 group. -/
def State.groupPlaces (s : State) : List Nat :=
  match s.ctx.job with
  | none => [s.here]
  | some j => s.placesWith fun c => c.job.any fun x => x.sameTask j && x.group == j.group

/-- The group leaves as a whole (08 R271): every member of it has arrived, and halts with all registers live. -/
def State.leavePond (s : State) (level k : Nat) : State :=
  let ps := s.groupPlaces
  let arrived := (s.allCtxs.zipIdx.filter fun x => ps.contains x.2).all fun x =>
    decide (k ≤ arrivals x.1.barrierCount level)
  if arrived then ps.foldl (fun x p => x.atPlace p fun y => if y.ctx.status == .halted then y else y.halt none) s else s

/-- The context arrives at a barrier it has not arrived at yet (08 R270). -/
def State.arrive (s : State) (level : Nat) : State :=
  if s.ctx.atBarrier = some level then s
  else
    { s with ctx := { s.ctx with atBarrier := some level,
                                 barrierCount := updAt s.ctx.barrierCount (level - 1) fun n => n + 1 } }

/-- The tests of POND.SYNC (08 R269). -/
def State.pondGuard (s : State) (level : Nat) : Except Stop Unit :=
  if level = 3 ∧ s.pondDevices = 0 then s.trapWord causePondNone 3
  else if (level ≠ 1 ∧ s.depth ≠ 0) ∨ s.inLoopS then s.trapWord causeLoopNest s.depth
  else .ok ()

/-- POND.SYNC (08 R269 to R271). The last member to arrive lets the others go with BARRIER_PASS; a group that cannot pass
a barrier of level 2 or 3, and whose pond is not resident, leaves. A member that waits and has a pre-emption pending halts
(01 R18, R56). -/
def execPondSync (l : BitVec 2) (s : State) : Outcome :=
  let level := l.toNat
  match s.pondGuard level with
  | .error e => finish (.error e)
  | .ok _ =>
    match s.needQuiet (BitVec.allOnes 16) with
    | .error e => finish (.error e)
    | .ok s1 =>
      let s2 := s1.arrive level
      let k := arrivals s2.ctx.barrierCount level
      if s2.barrierOpen level k then
        let s3 := if s1.ctx.atBarrier = some level then s2 else s2.later (.barrierPass level)
        let s3 := if level = 1 then s3 else s3.later .dispatch
        finish (.ok { s3 with ctx := { s3.ctx with atBarrier := none } })
      else if s1.ctx.pendingFault.isSome && !s1.kernel then finish (.error (.stall s1))
      else if level ≠ 1 && !s2.pondResident then .next (s2.stallOn.leavePond level k)
      else finish (.error (.stall s2))

/-- A context that stands for the pond of a barrier: the one in focus, or, when that has no task, a saved member of a group that has
left at a barrier of the level (08 R271). -/
def State.pondMember (s : State) (level : Nat) : Ctx :=
  match s.ctx.job, s.dev.sluice.saved.find? fun x => x.pond == some level with
  | none, some sv => sv.ctx
  | _, _ => s.ctx

/-- BARRIER_PASS (08 R270): the members that wait at a barrier which every member has arrived at go on. At level 3 it
brings the news that the other devices' members have arrived at the next barrier, once this device's have. A group that has left
comes back with the next dispatch (R271). -/
def execBarrierPass (level : Nat) (s : State) : Outcome :=
  let m := s.pondMember level
  match m.job with
  | none => .next s
  | some j =>
    let seen (x : State) : State := { x with ctx := { x.ctx with job := m.job, ctl := m.ctl } }
    let next := (s.dev.sluice.launch? j.launch).elim 0 fun l => l.p3 + 1
    let local3 := level == 3 && decide (2 ≤ (seen s).pondDevices)
    let sl := s.dev.sluice.updLaunch j.launch fun l => { l with p3 := l.p3 + 1 }
    let s1 :=
      if local3 && (s.siblings j).any (fun c => arrivals c.barrierCount 3 == next) then
        let t := { s with dev := { s.dev with sluice := sl } }
        if (seen t).barrierOpen 3 next then t else s
      else s
    let waits (c : Ctx) : Bool :=
      c.status == .stalled && c.atBarrier == some level && (c.job.any fun x => x.sameTask j)
        && (level != 1 || c.job.any fun x => x.group == j.group)
    let go (x : State) (p : Nat) : State :=
      x.atPlace p fun y =>
        if y.barrierOpen level (arrivals y.ctx.barrierCount level) then y.setStatus .active else y
    let s2 := (s1.placesWith waits).foldl go s1
    .next (if level = 1 then s2 else s2.later .dispatch)

/-! ## FENCE -/

/-- FENCE (08 R278, R279): held for the commit inside LOOP.S; else it waits for the earlier accesses of the classes it
covers. -/
def execFence (s' : BitVec 3) (m : BitVec 16) (s : State) : Outcome :=
  finish (if s.holding then .ok (s.hold (.fence m s' s.ctx.cmdSeq)) else s.needQuiet m)

end Sys2Proof.Machine
end

