-- ==== Sys2Proof/Machine/Snapshot.lean ====
section
/-!
DEFINITION. The pool region table (14 R437, R438), the lagoon epoch (10 R337), SNAPOPEN and SNAPPUB (08 R280 to R282).
-/
namespace Sys2Proof.Machine

def causeSnapRegion : BitVec 10 := 0x185

/-- Fields of a region entry (14 R437). -/
def Region.valid (r : Region) : Bool := r.dw0.getLsbD 0
def Region.mode (r : Region) : Nat := (r.dw0.extractLsb' 1 2).toNat
def Region.base (r : Region) : Nat := (r.dw0.extractLsb' 25 27).toNat * 2 ^ 25
def Region.bytes (r : Region) : Nat := (r.dw1.extractLsb' 0 32).toNat * 2 ^ 25
def Region.verpa (r : Region) : Nat := (r.dw2.extractLsb' 3 49).toNat * 8

/-- A valid entry covers a physical address. -/
def Region.covers (r : Region) (pa : Nat) : Bool := r.valid && decide (r.base ≤ pa) && decide (pa < r.base + r.bytes)

/-- The region of a physical address: the lowest-numbered valid entry that covers it (14 R438). -/
def Device.regionOf (d : Device) (pa : Nat) : Option (Region × Nat) :=
  d.cfg.regions.toList.zipIdx.find? fun x => x.1.covers pa

/-- An address in a region that the table declares BI (14 R438). -/
def Device.inBi (d : Device) (pa : Nat) : Bool := d.cfg.regions.toList.any fun r => r.covers pa && r.mode == 0

/-- The pool address that a lagoon frame holds (10 R335, R336). -/
def Device.framePa (d : Device) (f : Frame) : Nat := 2 ^ 50 + f.tag.toNat * d.lagoonBytes + 2048 * f.idx

/-- The device's open version of a region (08 R281). -/
def Device.openVersion (d : Device) (i : Nat) : BitVec 64 :=
  match d.openVer.find? fun x => x.1 == i with
  | some x => x.2
  | none => 0

/-- The clean lines of a region dropped: reads of it fetch anew. A dirty one, which holds this device's own stores, goes once they
have been written back (08 R281). -/
def Device.dropClean (d : Device) (r : Region) : Device :=
  let d1 := (d.lines.filter fun l => r.covers l.pa && !l.dirty).foldl (fun x l => x.dropLine l.pa) d
  { d1 with lines := d1.lines.map fun l => if r.covers l.pa then { l with stale := true } else l }

/-- The open version raised, with a new lagoon epoch (08 R281, 10 R337). -/
def Device.openAt (d : Device) (r : Region) (i : Nat) (v : BitVec 64) : Device :=
  { d with epoch := d.epoch + 1, openVer := (i, v) :: d.openVer.filter fun x => x.1 != i }.dropClean r

/-- The advance of the epoch that has to wait for the scrubber (10 R337). -/
def Device.epochBlocked (d : Device) : Bool := d.lagoonBytes != 0 && d.epoch + 1 == d.scrub.base

/-- The SNAPOPEN at PC has stalled, and no scrub pass that began after that has completed (10 R337). -/
def State.snapWaits (s : State) : Bool :=
  s.ctx.snapWait.any fun w => w.1 == s.ctx.pc && decide (s.dev.scrub.passes < w.2 + 2)

/-- A SNAPOPEN stalls until a scrub pass that begins from now on has completed (10 R337). -/
def State.markSnap (s : State) : State :=
  { s with ctx := { s.ctx with snapWait := some (s.ctx.pc, s.dev.scrub.passes) } }

/-- Every dirty line of a region written back, from the block cache and then from the lagoon (08 R282). -/
def Device.publish (d : Device) (r : Region) : Device :=
  let d1 := (d.lines.filter fun l => r.covers l.pa && l.dirty).foldl (fun x l => x.cleanLine l.pa) d
  (d1.lagoon.filter fun f => f.dirty && r.covers (d1.framePa f)).foldl (fun x f => x.cleanFrame f.idx) d1

/-- A dirty line or sector of a region has no head to be written back by (14 R447). -/
def Device.publishWaits (d : Device) (r : Region) : Bool :=
  (d.lines.any fun l => r.covers l.pa && l.dirty && d.noHead l.pa)
    || d.lagoon.any fun f => f.dirty && r.covers (d.framePa f) && d.noHead (d.framePa f)

/-- The tests that SNAPOPEN and SNAPPUB share, and the region they name (08 R280, 14 R438). -/
def State.snapRegion (s : State) (a : BitVec 5) : Except Stop (State × Region × Nat) := do
  s.needClean a
  if s.inLoopS then s.trapWord causeLoopNest s.depth
  let (s1, pa, _) ← s.access (s.reg a) .read
  if residency pa ≠ 2 then s1.trapWord causeSnapRegion (residency pa)
  else
    match s1.dev.regionOf pa with
    | none => s1.trapWord causeSnapRegion (2 + 3 * 2 ^ 4)
    | some (r, i) =>
      if r.mode ≠ 2 then s1.trapWord causeSnapRegion (2 + r.mode * 2 ^ 4)
      else if !s1.dev.inBi r.verpa then s1.trapWord causeSnapRegion (2 + 2 * 2 ^ 4 + 2 ^ 6)
      else pure (s1, r, i)

/-- SNAPOPEN (08 R281). Its class is all of them (09 R293), so it waits for every earlier access. A version word that cannot be read gives a poisoned s[d] and opens nothing (14 R447). -/
def execSnapopen (d a : BitVec 5) (s : State) : Outcome :=
  finish do
    let (s1, r, i) ← s.snapRegion a
    let s1 ← s1.needQuiet (BitVec.allOnes 16)
    if s1.dev.headless r.verpa then .error (.stall s1)
    let (s2, bs, p) := s1.readPhys r.verpa 8 0
    let v := BitVec.ofNat 64 (leNat bs)
    if p then pure (s2.setReg d v true)
    else if v ≤ s2.dev.openVersion i then pure (s2.setReg d v false)
    else if s2.snapWaits then .error (.stall s2)
    else if s2.dev.epochBlocked then .error (.stall s2.markSnap)
    else pure ({ s2 with dev := s2.dev.openAt r i v, ctx := { s2.ctx with snapWait := none } }.setReg d v false)

/-- SNAPPUB (08 R282). The increment is an atomic on a BI line, so it needs a block cache (04 R143). -/
def execSnappub (d a : BitVec 5) (s : State) : Outcome :=
  finish do
    let (s1, r, _) ← s.snapRegion a
    if s1.cap.isEmpty then s1.trapVal causeAtomRegion 2 (s.reg a)
    let s2 ← s1.needQuiet (BitVec.allOnes 16)
    if s2.dev.publishWaits r || s2.dev.headless r.verpa then .error (.stall s2)
    let s3 := { s2 with dev := s2.dev.publish r }
    let (s4, old, p) := s3.atomAt .add r.verpa 3 0 1 0 false false (s.reg a)
    pure (s4.setReg d (BitVec.ofNat 64 (old + 1)) p)

end Sys2Proof.Machine
end

