-- ==== Sys2Proof/Machine/Caches.lean ====
section
/-!
DEFINITION. The device's caches over ranges (06 R216, 12 R401), the TLBs under a shoot-down (10 R349), an abandoned
migration (10 R351), and memory as the sluice reaches it (12 R379, R380).
-/
namespace Sys2Proof.Machine

/-! ## Ranges of physical addresses -/

/-- A line or sector of `len` bytes at `x` meets the range of `n` bytes at `pa`. -/
def meets (x len pa n : Nat) : Bool := decide (x < pa + n) && decide (pa < x + len)

/-- Dirty lines of a range written back, from the block cache and then from the lagoon; they stay valid and clean. -/
def Device.cleanSpan (d : Device) (pa n : Nat) : Device :=
  let d1 := (d.lines.filter fun l => l.dirty && meets l.pa 128 pa n).foldl (fun x l => x.cleanLine l.pa) d
  (d1.lagoon.filter fun f => f.dirty && meets (d1.framePa f) 2048 pa n).foldl (fun x f => x.cleanFrame f.idx) d1

/-- Lines of a range written back and invalidated, in the block cache and in the lagoon; copies in the scalar data caches
go with them (06 R216). -/
def Device.flushSpan (d : Device) (pa n : Nat) : Device :=
  let d1 := d.cleanSpan pa n
  let d2 := (d1.lines.filter fun l => meets l.pa 128 pa n && !l.dirty).foldl (fun x l => x.dropLine l.pa) d1
  { d2 with lagoon := d2.lagoon.filter fun f => f.dirty || !meets (d2.framePa f) 2048 pa n,
            dcache := d2.dcache.filter fun c => !meets c.pa 128 pa n }

/-- A dirty line or sector of a range has no head to be written back by (14 R447). -/
def Device.spanWaits (d : Device) (pa n : Nat) : Bool :=
  (d.lines.any fun l => l.dirty && meets l.pa 128 pa n && d.noHead l.pa)
    || d.lagoon.any fun f => f.dirty && meets (d.framePa f) 2048 pa n && d.noHead (d.framePa f)

/-! ## Shoot-downs (10 R348, R349) -/

/-- A range of pages of one size in an address space, or the whole of it. -/
structure PageSpan where
  asid : BitVec 16
  va : Nat
  len : Nat
  all : Bool
  deriving DecidableEq, Repr

/-- The range touches a page of the address space. -/
def PageSpan.hits (p : PageSpan) (asid : BitVec 16) (va len : Nat) : Bool :=
  asid == p.asid && (p.all || meets va len p.va p.len)

/-- A TLB entry of the range. -/
def PageSpan.hitsEntry (p : PageSpan) (t : TlbEntry) : Bool :=
  p.hits t.asid (t.vpage * 2 ^ pageShift t.level) (2 ^ pageShift t.level)

/-- Entries that match are dropped in a first-level TLB. -/
def CoreSt.dropTlb (c : CoreSt) (p : PageSpan) : CoreSt := { c with tlb := c.tlb.filter fun t => !p.hitsEntry t }

/-- Entries that match are dropped in a cluster's second-level TLB and walk cache. -/
def ClusterSt.dropTlb (c : ClusterSt) (p : PageSpan) : ClusterSt :=
  { c with tlb := c.tlb.filter fun t => !p.hitsEntry t,
           walks := c.walks.filter fun w => !p.hits w.asid (w.vprefix * 2 ^ indexShift w.level) (2 ^ indexShift w.level) }

/-- The pages of a binding that match are taken off its list. -/
def Binding.dropPages (b : Binding) (p : PageSpan) (asid : BitVec 16) : Binding :=
  { b with pages := b.pages.filter fun x => !p.hits asid x.va (2 ^ pageShift x.level) }

/-- The pages that a BIND in progress has noted, three doublewords each: one that matches keeps its place, with no leaf. -/
def dropNoted (p : PageSpan) (asid : BitVec 16) : List Word → List Word
  | va :: lvl :: leaf :: t =>
    va :: lvl :: (if p.hits asid va.toNat (2 ^ pageShift lvl.toNat) then 0 else leaf) :: dropNoted p asid t
  | t => t

/-- What a command has kept of its translations: the bindings it issued with, the pages that a BIND has noted, and the lines
that a BLOAD has, which it translates anew. -/
def CmdRec.dropPages (k : CmdRec) (p : PageSpan) (asid : BitVec 16) : CmdRec :=
  let w := { k.work with binds := k.work.binds.map fun b => b.dropPages p asid }
  let op := k.cmd.w0.toNat % 256
  if op = 0x08 then { k with work := { w with words := w.words.take 16 ++ dropNoted p asid (w.words.drop 16) } }
  else if op = 0x0A ∧ k.stage ≠ .queued ∧ p.hits asid (wordBits k.cmd.w1 0 56) (128 * (wordBits k.cmd.w1 56 6 + 1)) then
    { k with work := { w with words := [], progress := 0 } }
  else { k with work := w }

/-- The pages of bound handles that match are translated again at their next use, and reads of peers that wait are made
anew. -/
def Ctx.dropPages (c : Ctx) (p : PageSpan) : Ctx :=
  { c with binds := c.binds.map fun b => b.dropPages p c.asid, cmds := c.cmds.map fun k => k.dropPages p c.asid,
           peer := c.peer.filter fun w => c.asid != p.asid || (w.kind != 0 && (decide (w.kind < 4) || decide (9 ≤ w.kind))) }

/-- Matching entries dropped throughout the device. -/
def State.shootDown (s : State) (p : PageSpan) : State :=
  { s with core := s.core.dropTlb p, cores := s.cores.map fun c => c.dropTlb p, clu := s.clu.dropTlb p,
           clus := s.clus.map fun c => c.dropTlb p, ctx := s.ctx.dropPages p, ctxs := s.ctxs.map fun c => c.dropPages p }

/-! ## Migration given up (10 R351) -/

/-- A frame put back at the head of its ring. -/
def Migration.putBack (m : Migration) (tres frame : Nat) : Migration :=
  match tres with
  | 0 => { m with freeHbm := frame :: m.freeHbm }
  | 1 => { m with freeVault := frame :: m.freeVault }
  | _ => { m with freePool := frame :: m.freePool }

/-- The migration of a leaf abandoned: MIG clears, the new frame goes back to its ring, and the abandonment is counted. -/
def Device.abandon (d : Device) (leafPa : Nat) : Device :=
  let d1 := d.changeEntry leafPa fun e => e &&& ~~~(BitVec.ofNat 64 (2 ^ 55))
  match d.mig.reqs.find? fun r => r.active.any fun x => x.1 == leafPa with
  | none => d1
  | some r =>
    let m := { d1.mig with reqs := d1.mig.reqs.erase r }
    { d1 with mig := m.putBack r.tres (r.active.elim 0 fun x => x.2.2),
              tel := { d1.tel with migAbandoned := satInc d1.tel.migAbandoned 1 } }

/-! ## Memory as the sluice reaches it -/

/-- Why the sluice cannot reach memory: a translation fault, or a wait for a migrating page or node (10 R343, R351). -/
inductive Miss where
  | fault (cause : BitVec 10) (info : BitVec 22)
  | wait
  deriving DecidableEq, Repr

/-- Translate for the sluice in an address space: no context's mode applies, and no TLB or walk cache of a cluster is
used. A walk that meets a migrating node waits until its 50 µs are over (10 R343). -/
def State.sluiceTarget (s : State) (asid : BitVec 16) (root va : Nat) (k : Kind) : State × Except Miss (Nat × BitVec 64) :=
  let bare := { s with core := { s.core with tlb := [] }, clu := { s.clu with tlb := [], walks := [] } }
  let (s1, t) := bare.translateIn asid root false va k
  let s2 := { s1 with core := { s1.core with tlb := s.core.tlb },
                      clu := { s1.clu with tlb := s.clu.tlb, walks := s.clu.walks } }
  (s2, match t with
    | .ok pa leaf => if s2.dev.headless pa then .error .wait else .ok (pa, leaf)
    | .fault c i => .error (.fault c i)
    | .busy i => .error (if s.dev.sluice.busyOver then .fault causePtNodeBusy i else .wait)
    | .migrating _ _ => .error .wait)

/-- A request of the sluice to the peer that holds an address, in class 0 at pool scope (14 R448; log entry 40). -/
def State.sluiceAsk (s : State) (kind pa : Nat) (va : Word) (g : GPacket) : State :=
  let tag := s.dev.tagNext
  let w : PeerWait := { tag := tag, dst := peerOf pa, kind := kind, cls := 0, key := pa, va := va, seq := 0, data := none, status := 0 }
  let d := { s.dev with tagNext := tag + 1, sluice := { s.dev.sluice with peer := s.dev.sluice.peer ++ [w] } }
  { s with dev := d.sendLane (peerOf pa) 0 { g with tag := tag, off := peerOff pa, scope := scopePool } }

/-- A read of a peer by the sluice: it waits for the answer, and one that brings no data is poison (14 R456, R457). -/
def State.sluicePeerRead (s : State) (pa n : Nat) : State × Except Miss (List Byte × Bool) :=
  if s.dev.peerGone (peerOf pa) then (s, .ok (List.replicate n 0, true))
  else
    match s.dev.sluice.peer.find? fun w => w.kind == 0 && w.key == pa && w.va == BitVec.ofNat 64 n with
    | none => (s.sluiceAsk 0 pa (BitVec.ofNat 64 n) { gBlank with type := gRead, rlen := BitVec.ofNat 9 n }, .error .wait)
    | some w =>
      match w.data with
      | none => (s, .error .wait)
      | some bs => (s, .ok (if bs.length = n then (bs, w.status != 0) else (List.replicate n 0, true)))

/-- The answers that a step of the sluice has used are let go when it is over. -/
def State.dropReads (s : State) : State :=
  { s with dev := { s.dev with sluice := { s.dev.sluice with peer := s.dev.sluice.peer.filter fun w => w.kind != 0 || w.data.isNone } } }

/-- Bytes that the sluice writes in the memory of a peer (14 R448). -/
def State.sluicePeerWrite (s : State) (pa : Nat) (bs : List Byte) : State :=
  if s.dev.peerGone (peerOf pa) then s
  else
    let g := { gBlank with type := gWrite, len := BitVec.ofNat 9 bs.length, off := peerOff pa, scope := scopePool,
                           tag := s.dev.tagNext, payload := bs }
    { s with dev := { s.dev with tagNext := s.dev.tagNext + 1 }.sendLane (peerOf pa) 0 g }

/-- A read within one line: the bytes and the line's poison. -/
def State.sluiceRead (s : State) (asid : BitVec 16) (root va n : Nat) : State × Except Miss (List Byte × Bool) :=
  match s.sluiceTarget asid root va .read with
  | (s1, .ok (pa, leaf)) => if residency pa = 3 then s1.sluicePeerRead pa n else (s1, .ok (s1.dev.peek pa n leaf))
  | (s1, .error e) => (s1, .error e)

/-- An access of the sluice that has to wait as things stand. -/
def State.sluiceStalls (s : State) (asid : BitVec 16) (root va : Nat) (k : Kind) : Bool :=
  match (s.sluiceTarget asid root va k).2 with
  | .error .wait => true
  | _ => false

/-- A step of a worker that waits: it is made again. -/
def State.sluiceWait (s : State) (e : Ev) : State :=
  let sl := s.dev.sluice
  if sl.waiting.contains e then s
  else { s with dev := { s.dev with sluice := { sl with waiting := sl.waiting ++ [e] } } }

/-- The bytes of a ring slot and their poison, from memory and never through the block cache (12 R379). -/
def Device.slotBytes (d : Device) (pa n : Nat) (leaf : BitVec 64) : List Byte × Bool :=
  let b := d.backing pa (leafPmode leaf)
  (d.mem.readBytes b n, d.poolGone pa || d.poison.contains (lineOf b))

/-- Bytes of a ring slot written in memory (12 R379): a line that a cache holds of it is written back and dropped. -/
def Device.writeSlotBytes (d : Device) (pa : Nat) (bs : List Byte) (leaf : BitVec 64) : Device :=
  if d.poolGone pa then d
  else
    let d1 := d.flushLine (lineOf pa)
    let b := d1.backing pa (leafPmode leaf)
    let p := poisonAfter (d1.poison.contains (lineOf b)) bs.length false
    { d1 with mem := d1.mem.writeBytes b bs }.setPoison (lineOf b) p

/-- A slot read (12 R379, R380): a slot whose leaf is migrating is read from the old frame. What a task of this device has
stored there and the block cache still holds dirty is written back first, since the read is an acquire at device scope (12 R380,
09 R305; log entry 40). -/
def State.readSlotAt (s : State) (asid : BitVec 16) (root va n : Nat) : State × Except Miss (List Byte × Bool) :=
  match s.sluiceTarget asid root va .read with
  | (s1, .ok (pa, leaf)) =>
    if residency pa = 3 then s1.sluicePeerRead pa n
    else
      let s2 := { s1 with dev := s1.dev.cleanLine (lineOf pa) }
      (s2, .ok (s2.dev.slotBytes pa n leaf))
  | (s1, .error e) => (s1, .error e)

/-- A slot written; one that cannot be reached is not. -/
def State.writeSlotAt (s : State) (asid : BitVec 16) (root va : Nat) (bs : List Byte) : State :=
  match s.sluiceTarget asid root va .write with
  | (s1, .ok (pa, leaf)) =>
    if residency pa = 3 then s1.sluicePeerWrite pa bs else { s1 with dev := s1.dev.writeSlotBytes pa bs leaf }
  | (s1, .error _) => s1

/-- A pass over the pages of a range in an address space: a page that does not translate is passed over. -/
def State.overPages (s : State) (asid : BitVec 16) (root : Nat) (f : Device → Nat → Nat → Device) : Nat → Nat → Nat → State
  | 0, _, _ => s
  | fuel + 1, va, n =>
    if n = 0 then s
    else
      let k := min n (2 ^ 16 - va % 2 ^ 16)
      let s1 :=
        match s.sluiceTarget asid root va .read with
        | (s1, .ok (pa, _)) => { s1 with dev := f s1.dev pa k }
        | (s1, _) => s1
      s1.overPages asid root f fuel (va + k) (n - k)

/-- A page of a range whose walk has to wait, or a dirty line of it that has no head to be written back by (10 R343, 14 R447). -/
def State.pagesWait (s : State) (asid : BitVec 16) (root : Nat) : Nat → Nat → Nat → Bool
  | 0, _, _ => false
  | fuel + 1, va, n =>
    if n = 0 then false
    else
      let k := min n (2 ^ 16 - va % 2 ^ 16)
      (match (s.sluiceTarget asid root va .read).2 with
       | .ok (pa, _) => s.dev.spanWaits pa k
       | .error .wait => true
       | .error _ => false) || s.pagesWait asid root fuel (va + k) (n - k)

end Sys2Proof.Machine
end

