-- ==== Sys2Proof/Machine/Records.lean ====
section
/-!
DEFINITION. Bound handles as a command uses them (06 R202, R203), packed MX records (02 R71, R72) and what the rake makes
of a grain (02 R75, 06 R206, R207).
-/
namespace Sys2Proof.Machine

def causeMxLayout : BitVec 10 := 0x083
def causeHandleRange : BitVec 10 := 0x218
def causeHandleUnbound : BitVec 10 := 0x219
def causeHandleField : BitVec 10 := 0x21A
def causeHandleSpan : BitVec 10 := 0x21B
def causeBindFull : BitVec 10 := 0x21C
def causeHandleFormat : BitVec 10 := 0x21D

/-! ## Handles -/

/-- The doublewords of a list of bytes, the first the lowest. -/
def packWords : Nat → List Byte → List Word
  | 0, _ => []
  | n + 1, bs => BitVec.ofNat 64 (leNat (bs.take 8)) :: packWords n (bs.drop 8)

/-- The bytes of doublewords. -/
def wordBytes (ws : List Word) : List Byte := ws.flatMap fun w => leBytes 8 w.toNat

/-- A handle from 16 doublewords of a command's notes. -/
def Handle.ofWords (ws : List Word) : Handle := Handle.ofBytes (wordBytes (ws.take 16))

/-- The binding of a handle that a command names (06 R203). -/
def State.binding (s : State) (hnd : Nat) : Except EngStop (State × Binding) :=
  if s.ctx.ctl.htlim.toNat ≤ hnd then s.faultNow causeHandleRange hnd
  else
    match s.ctx.binds.find? fun b => b.handle == hnd with
    | none => s.faultNow causeHandleUnbound hnd
    | some b => .ok (s, b)

/-- The listed page of a binding that holds an address (06 R203). -/
def Binding.page (b : Binding) (va : Nat) : Option BoundPage :=
  b.pages.find? fun p => decide (p.va ≤ va) && decide (va < p.va + 2 ^ pageShift p.level)

/-- A page added to a binding's list. -/
def Binding.list (b : Binding) (p : BoundPage) : Binding := { b with pages := p :: b.pages }

/-- The binding that a command issued with (06 R202). -/
def CmdWork.binding (w : CmdWork) (hnd : Nat) : Option Binding := w.binds.find? fun b => b.handle == hnd

/-- A page added to the list of a command's binding, and to that of the context if it is the same still (10 R349). -/
def State.listPage (s : State) (seq hnd : Nat) (p : BoundPage) : State :=
  let own := (s.workOf seq).binding hnd
  let s1 := { s with ctx := { s.ctx with binds := s.ctx.binds.map fun b => if some b == own then b.list p else b } }
  s1.updWork seq fun w => { w with binds := w.binds.map fun b => if b.handle == hnd then b.list p else b }

/-- A page of a bound HBM handle translated at its use, and listed (10 R349). -/
def State.bindPage (s : State) (k : CmdRec) (hnd va : Nat) (kd : Kind) : State × Translated :=
  match s.translateIn s.ctx.asid s.ctx.root (!k.kernel) va kd with
  | (s1, .ok pa leaf) =>
    match s1.pageAt s1.ctx.asid s1.ctx.root va with
    | some (lvl, e) =>
      (s1.listPage k.seq hnd { va := va / 2 ^ pageShift lvl * 2 ^ pageShift lvl, level := lvl, leaf := e }, .ok pa leaf)
    | none => (s1, .ok pa leaf)
  | x => x

/-- Translation of an access through a handle (06 R203, 10 R332): an HBM handle goes by the page list of the binding that
the command issued with (06 R202), with its own rights checked against the listed leaf; every other handle translates each
access. -/
def viaHandle (k : CmdRec) (hnd : Nat) (h : Handle) : Resolver := fun s va kd =>
  if h.res ≠ 0 ∨ h.packed then k.plain s va kd
  else
    match s.ctx.ctl.forwarded va kd with
    | none => (s, .migrating 0 0)
    | some a =>
      match ((s.workOf k.seq).binding hnd).bind fun b => b.page a with
      | some p => onHead (s, translateLeaf p.leaf p.level a kd (!k.kernel) 0)
      | none => onHead (s.bindPage k hnd a kd)

/-! ## Packed records (02 R71) -/

/-- The payload of a record: 32 codes of `b` bits, the lowest first. -/
def packCodes (b : Nat) : List Nat → Nat
  | [] => 0
  | x :: t => x % 2 ^ b + 2 ^ b * packCodes b t

/-- A record from its header bytes and its element codes. -/
def mkRecord (f : Efmt) (fb sc : Byte) (codes : List Nat) : List Byte :=
  fb :: sc :: leBytes (4 * f.bits) (packCodes f.bits codes)

/-- The bytes of a record that hold element `e`. -/
def elemBytes (f : Efmt) (e : Nat) : List Nat :=
  if f.bits = 0 then []
  else
    let lo := 2 + f.bits * e / 8
    let hi := 2 + (f.bits * e + f.bits - 1) / 8
    if lo = hi then [lo] else [lo, hi]

/-- Element `e` of a record: its code, marked when a byte that holds it is (06 R207). -/
def recordElem (f : Efmt) (r : List Marked) (e : Nat) : Marked :=
  let n := leNat ((r.drop 2).map (·.1))
  (BitVec.ofNat 8 (n / 2 ^ (f.bits * e) % 2 ^ f.bits),
   (elemBytes f e).any fun i => (r.getD i (0, false)).2)

/-- A ZERO-block grain with scale 0x7F and its check (06 R206). -/
def zeroGrain : List Byte := mkGrain 6 0x7F (List.replicate 32 0)

/-- A ZERO-block record with scale 0x7F. -/
def zeroRecord : List Byte := [6, 0x7F]

/-- A grain from marked header and element bytes: its check is computed, and bytes keep their marks. -/
def markedGrain (fb sc : Marked) (es : List Marked) : List Marked :=
  let g := mkGrain fb.1 sc.1 (es.map (·.1))
  fb :: sc :: (g.getD 2 0, false) :: (g.getD 3 0, false) :: es

/-- A grain expanded from a record of element format `f` (02 R72, R74); elements from `n` on are zero. -/
def expandRecord (f : Efmt) (r : List Marked) (n : Nat) : List Marked :=
  markedGrain (r.getD 0 (0, false)) (r.getD 1 (0, false))
    ((List.range 32).map fun e => if e < n then recordElem f r e else (0, false))

/-- What a unit that packs a grain makes of it (02 R75): a record, its lines poisoned or not, or a fault. -/
inductive Packed where
  | record (bs : List Byte) (poison : Bool)
  | fault (cause : BitVec 10)

/-- A grain packed into a record; elements from `n` on become zero. -/
def packGrain (mx4 : Bool) (g : List Marked) (n : Nat) : Packed :=
  let bs := g.map (·.1)
  let cut (xs : List Nat) : List Nat := xs.zipIdx.map fun x => if x.2 < n then x.1 else 0
  if g.any (·.2) then
    match efmtOf (bs.getD 0 0) mx4 with
    | some f => .record (mkRecord f (bs.getD 0 0) (bs.getD 1 0) (cut ((bs.drop 4).map (·.toNat)))) true
    | none => .record (bs.take 2 ++ (cut ((bs.drop 4).map (·.toNat))).map fun x => BitVec.ofNat 8 x) true
  else
    match readGrain bs mx4 with
    | .bad => .fault causeGrainCheck
    | .format => .fault causeMxFormat
    | .ok f _ es => .record (mkRecord f (bs.getD 0 0) (bs.getD 1 0) (cut es)) false

end Sys2Proof.Machine
end

