-- ==== Sys2Proof/Machine/Rake.lean ====
section
/-!
DEFINITION. The rake's tile transfers, COPY, FILL, GATHER, SCATTER, BIND, UNBIND and MARK (06 R201 to R210, R217; 02 R72).
-/
namespace Sys2Proof.Machine

/-! ## TLOAD, TLOADT, TSTORE, TSTORET -/

/-- The fields of a tile transfer (06 R201, R204). -/
structure TileMove where
  hnd : Nat
  tile : Nat
  cols : Nat
  rows : Nat
  row0 : Nat
  x0 : Nat
  x1 : Nat
  chi : Nat
  flip : Bool
  deriving DecidableEq, Repr

/-- The fields of a command, transposed or not. -/
def tileMove (c : Cmd) (flip : Bool) : TileMove :=
  { hnd := wordBits c.w1 0 10, tile := wordBits c.w1 10 8, cols := wordBits c.w1 18 12 + 1,
    rows := wordBits c.w1 30 10 + 1, row0 := wordBits c.w1 40 10, x0 := wordBits c.w2 0 32, x1 := wordBits c.w2 32 32,
    chi := c.w3.toNat, flip := flip }

/-- Coordinates of dimensions 2 to 7, and what CHI leaves above their product (06 R204). -/
def TileMove.high (m : TileMove) (h : Handle) : List Nat × Nat := mixedRadix (h.size.drop 2) m.chi

/-- The coordinates of tile row r, element c (06 R204). -/
def TileMove.coords (m : TileMove) (h : Handle) (r c : Nat) : List Nat :=
  (m.x0 + if m.flip then r else c) :: (m.x1 + if m.flip then c else r) :: (m.high h).1

/-- How many elements of tile row r, from its first, lie inside the tensor (06 R204). -/
def TileMove.inside (m : TileMove) (h : Handle) (r : Nat) : Nat :=
  let s0 := h.size.getD 0 1
  let s1 := h.size.getD 1 1
  if (m.high h).2 ≠ 0 then 0
  else if m.flip then (if m.x0 + r < s0 then min m.cols (s1 - m.x1) else 0)
  else if m.x1 + r < s1 then min m.cols (s0 - m.x0) else 0

/-- Format pairs of a tile transfer (06 R205). -/
def pairsWith (h : Handle) (t : Tile) : Bool :=
  if h.fmt = 0 then t.fmt == 0
  else if h.packed then t.isMx
  else t.fmt.toNat == h.fmt || t.fmt == 0

/-- The checks of R205: TILE_FORMAT, then the multiples of a packed handle, then TILE_RANGE. -/
def TileMove.check (m : TileMove) (s : State) (h : Handle) (t : Tile) : Except EngStop Unit :=
  if !pairsWith h t || (m.flip && h.packed) then s.faultNow causeTileFormat m.tile
  else if h.packed && m.cols % 32 != 0 then s.faultNow causeCmdField 82
  else
    match (if h.packed then (lowBits 128 (m.x0 % 32)).head? else none) with
    | some b => s.faultNow causeCmdField b
    | none =>
      let bytes := if h.packed then 36 * m.cols / 32 else m.cols * h.esize
      if t.rows.toNat < m.row0 + m.rows - 1 ∨ t.width.toNat < bytes then s.faultNow causeTileRange m.tile
      else .ok ()

/-- Step 3 of a tile transfer: the binding, the tile, their formats, and the tile's condition. -/
def TileMove.gate (m : TileMove) (store : Bool) (s : State) (k : CmdRec) : Except EngStop (State × Gated) := do
  let (_, b) ← s.binding m.hnd
  let t ← s.engTile m.tile
  m.check s (Handle.ofBytes b.image) t
  let s1 ← s.awaitTile k m.tile (if store then Tile.mayStore else Tile.mayWrite)
  pure (s1, { targets := [(m.tile, if store then .draining else .filling)], readers := [], words := packWords 16 b.image,
              handles := [m.hnd] })

/-- One stretch of a tile load or store of unpacked elements from element `i` in cursor order: the elements inside the
tensor that lie side by side in memory, or the rest of the row outside it (06 R206). -/
def TileMove.plainStep (m : TileMove) (store : Bool) (k : CmdRec) (h : Handle) (s : State) (i : Nat) : Except EngStop (State × Nat) :=
  let t := s.tile m.tile
  let e := h.esize
  let r := i / m.cols
  let c := i % m.cols
  let n := m.inside h r - c
  if n = 0 then
    let left := m.cols - c
    let pad := (List.replicate left (leBytes e h.pad.toNat)).flatten
    .ok (if store then s else s.rowWrite t (m.row0 + r) (c * e) (clean pad), i + left)
  else
    let x := m.coords h r c
    let va := wrapVa (h.addrFrom h.base x)
    let side := h.stride.getD (if m.flip then 1 else 0) 0 == (e : Int)
    let run := if side then n else 1
    let rv := viaHandle k m.hnd h
    if store then
      match engRun k .write (cursorOf x) e va
          (fun s n => s.engWrite k rv va (s.rowRead t (m.row0 + r) (c * e) (n * e))) run s with
      | .error stop => .error stop
      | .ok (s1, n, _) => .ok (s1, i + n)
    else
      match engRun k .read (cursorOf x) e va (fun s n => s.engRead k rv va (n * e)) run s with
      | .error stop => .error stop
      | .ok (s1, n, bs) => .ok (s1.rowWrite t (m.row0 + r) (c * e) bs, i + n)

/-- Where a block's record lies: its tensor tile's directory index, and its record index there; none outside every tensor
tile (02 R72). -/
def TileMove.slot (m : TileMove) (h : Handle) (x0 x1 : Nat) : Option (Nat × Nat) :=
  let n0 := (h.size.getD 0 1 + h.tcols - 1) / h.tcols
  let n1 := (h.size.getD 1 1 + h.trows - 1) / h.trows
  if (m.high h).2 ≠ 0 ∨ n0 ≤ x0 / h.tcols ∨ n1 ≤ x1 / h.trows then none
  else some (x0 / h.tcols + n0 * (x1 / h.trows + n1 * m.chi), x1 % h.trows * (h.tcols / 32) + x0 % h.tcols / 32)

/-- The element format that a record's format byte gives the walk, or its fault (02 R69, R72). For an MX4 tile too the walk
over earlier records takes every element format; the delivered record alone is held to those of MX4 (log entry 66). -/
def walkFormat (fb : Marked) : Option Efmt := efmtOf fb.1 false

/-- Walk from record `j` over `n` records: the address behind them (02 R72). -/
def walkRecords (k : CmdRec) (hnd : Nat) (cursor : List (BitVec 32)) : Nat → State → Nat → Except EngStop (State × Nat)
  | 0, s, va => .ok (s, va)
  | n + 1, s, va =>
    match s.engPeek k cursor va 1 with
    | .error e => .error e
    | .ok (s1, bs) =>
      let fb := bs.getD 0 (0, false)
      match walkFormat fb with
      | some f => walkRecords k hnd cursor n s1 ((va + f.recordLen) % 2 ^ 64)
      | none =>
        if fb.2 then walkRecords k hnd cursor n s1 ((va + 34) % 2 ^ 64)
        else s1.faultAt causeMxFormat hnd va cursor

/-- The address of a record: its directory entry, then the walk (02 R72). An entry read from a poisoned line is used as it
reads, and what is delivered through it is not marked for that (log entry 66). -/
def recordAddr (k : CmdRec) (hnd : Nat) (h : Handle) (cursor : List (BitVec 32)) (s : State) (dir idx : Nat) : Except EngStop (State × Nat) :=
  match s.engPeek k cursor (h.tdir + 8 * dir) 8 with
  | .error e => .error e
  | .ok (s1, bs) =>
    let off := leNat (bs.map (·.1))
    if off % 64 ≠ 0 then s1.faultAt causeMxLayout hnd 0 cursor
    else walkRecords k hnd cursor idx s1 ((h.base + off) % 2 ^ 64)

/-- A record expanded to a grain (06 R206): a format byte that fails R69 raises MX_FORMAT, on a poisoned line it gives a
grain marked uncorrectable. -/
def fetchGrain (k : CmdRec) (hnd : Nat) (cursor : List (BitVec 32)) (mx4 : Bool) (n : Nat) (s : State) (va : Nat) :
    Except EngStop (State × List Marked) :=
  match s.engPeek k cursor va 1 with
  | .error e => .error e
  | .ok (s1, bs) =>
    let fb := bs.getD 0 (0, false)
    match efmtOf fb.1 mx4 with
    | some f =>
      match s1.engPeek k cursor va f.recordLen with
      | .error e => .error e
      | .ok (s2, r) =>
        -- the record is read whole (09 R293): at a peer its format byte may be newer than the one read first
        match efmtOf (r.getD 0 (0, false)).1 mx4 with
        | some g => if g.recordLen = f.recordLen then .ok (s2, expandRecord g r n) else .error (.wait (s2.dropRing (ringCode k.ring)))
        | none => .error (.wait (s2.dropRing (ringCode k.ring)))
    | none =>
      if fb.2 then
        match s1.engPeek k cursor va 34 with
        | .error e => .error e
        | .ok (s2, r) =>
          .ok (s2, (markedGrain (r.getD 0 (0, false)) (r.getD 1 (0, false)) (r.drop 2)).map fun b => (b.1, true))
      else s1.faultAt causeMxFormat hnd va cursor

/-- One block of a packed transfer (06 R206, 02 R72). A block of a store that lies wholly outside the extents, in a tensor
tile, is written as zero: as a ZERO record of 2 bytes with scale 0x7F, and without a check of the tile's grain (log
entry 66). -/
def TileMove.packedStep (m : TileMove) (store : Bool) (k : CmdRec) (h : Handle) (s : State) (i : Nat) : Except EngStop (State × Nat) :=
  k.lookedAt <|
  let t := s.tile m.tile
  let per := m.cols / 32
  let r := i / per
  let b := i % per
  let x := m.coords h r (32 * b)
  let x0 := m.x0 + 32 * b
  let x1 := m.x1 + r
  let cur := cursorOf x
  let n := m.inside h r - 32 * b
  let mx4 := t.fmt == 10
  let row := m.row0 + r
  if store then
    match m.slot h x0 x1 with
    | none => .ok (s, i + 1)
    | some (dir, idx) =>
      match (if n = 0 then Packed.record zeroRecord false else packGrain mx4 (s.rowRead t row (36 * b) 36) n) with
      | .fault c => s.faultAt c (row * 2 ^ 8 + m.tile) 0 cur
      | .record bs poison =>
        match recordAddr k m.hnd h cur s dir idx with
        | .error e => .error e
        | .ok (s1, va) =>
          match s1.engPut k cur va (bs.map fun x => (x, poison)) with
          | .error e => .error e
          | .ok s2 => .ok (s2, i + 1)
  else if n = 0 then .ok (s.rowWrite t row (36 * b) (clean zeroGrain), i + 1)
  else
    match m.slot h x0 x1 with
    | none => .ok (s.rowWrite t row (36 * b) (clean zeroGrain), i + 1)
    | some (dir, idx) =>
      match recordAddr k m.hnd h cur s dir idx with
      | .error e => .error e
      | .ok (s1, va) =>
        match fetchGrain k m.hnd cur mx4 n s1 va with
        | .error e => .error e
        | .ok (s2, g) => .ok (s2.rowWrite t row (36 * b) g, i + 1)

/-- The work of a tile transfer. -/
def TileMove.body (m : TileMove) (store : Bool) (s : State) (k : CmdRec) : Except EngStop State :=
  let h := Handle.ofWords k.work.words
  if h.packed then k.loop s (m.rows * (m.cols / 32)) (m.packedStep store k h)
  else k.loop s (m.rows * m.cols) (m.plainStep store k h)

/-- A tile transfer. -/
def tileJob (c : Cmd) (flip store : Bool) : EngJob :=
  let m := tileMove c flip
  { bad := badBits c (w0Zero 1 0) (bitsFrom 50) 0 0 [], gatedByCommit := false, gate := m.gate store, body := m.body store }

/-- TLOAD (06 R204 to R207). -/
def execTload (r : Ring) (c : Cmd) (s : State) : Outcome := rakeStep r c (tileJob c false false) s

/-- TLOADT (06 R204 to R207). -/
def execTloadt (r : Ring) (c : Cmd) (s : State) : Outcome := rakeStep r c (tileJob c true false) s

/-- TSTORE (06 R204 to R207). -/
def execTstore (r : Ring) (c : Cmd) (s : State) : Outcome := rakeStep r c (tileJob c false true) s

/-- TSTORET (06 R204 to R207). -/
def execTstoret (r : Ring) (c : Cmd) (s : State) : Outcome := rakeStep r c (tileJob c true true) s

/-! ## COPY -/

/-- The fields of a COPY, with its handles (06 R201, R208). -/
structure CopyMove where
  shnd : Nat
  dhnd : Nat
  src : Handle
  dst : Handle
  sbase : Nat
  dbase : Nat

/-- A COPY from its command and the handle images it issued with. -/
def copyMove (c : Cmd) (ws : List Word) : CopyMove :=
  let src := Handle.ofWords ws
  let dst := Handle.ofWords (ws.drop 16)
  let own := c.w0.getLsbD 27
  { shnd := wordBits c.w3 0 10, dhnd := wordBits c.w3 16 10, src := src, dst := dst,
    sbase := if own then wordBits c.w1 0 56 else src.base, dbase := if own then wordBits c.w2 0 56 else dst.base }

/-- Step 3 of a COPY: both bindings, and HANDLE_FORMAT. -/
def copyGate (c : Cmd) (s : State) (_ : CmdRec) : Except EngStop (State × Gated) := do
  let (_, a) ← s.binding (wordBits c.w3 0 10)
  let (_, b) ← s.binding (wordBits c.w3 16 10)
  let x := Handle.ofBytes a.image
  let y := Handle.ofBytes b.image
  if x.fmt != y.fmt || x.packed then s.faultNow causeHandleFormat (wordBits c.w3 0 10)
  else
    pure (s, { targets := [], readers := [], words := packWords 16 a.image ++ packWords 16 b.image,
               handles := [wordBits c.w3 0 10, wordBits c.w3 16 10] })

/-- The span of the source region, and of the destination region (its extents are the source's), from their bases. -/
def CopyMove.spans (m : CopyMove) : (Int × Int) × (Int × Int) :=
  ({ m.src with base := m.sbase }.span, { m.src with base := m.dbase, stride := m.dst.stride }.span)

/-- The regions may meet. -/
def CopyMove.overlap (m : CopyMove) : Bool :=
  decide (m.spans.1.1 ≤ m.spans.2.2) && decide (m.spans.2.1 ≤ m.spans.1.2)

/-- A byte kept before a COPY wrote over it: its address with the byte below, and in `elems` its mark. -/
def keptByte (w : CmdWork) (va : Nat) : Option Marked :=
  match w.words.zipIdx.find? fun x => decide (32 ≤ x.2) && x.1.toNat / 256 == va with
  | some x => some (BitVec.ofNat 8 x.1.toNat, w.elems.getD (x.2 - 32) 0 != 0)
  | none => none

/-- The element that a COPY reads: where it has itself written over the source's bytes, either their value before it or
the value it wrote (06 R208). -/
def chosen (tick i : Nat) (w : CmdWork) (va : Nat) (bs : List Marked) : List Marked :=
  if Config.copyOld tick i then bs.zipIdx.map fun x => (keptByte w ((va + x.2) % 2 ^ 64)).getD x.1 else bs

/-- Keep the bytes that a COPY is about to write over, those not kept yet. Bytes of peers are not kept. -/
def State.keepBytes (s : State) (k : CmdRec) (rv : Resolver) (va n : Nat) : State :=
  match s.rangeBy rv .write va n with
  | (s1, .ok ps) =>
    if ps.any fun p => residency p.pa == 3 then s1
    else
      let (s2, bs) := s1.readPieces (ringCode k.ring) ps
      let new := (bs.zipIdx.map fun x => ((va + x.2) % 2 ^ 64, x.1)).filter fun x => (keptByte (s1.workOf k.seq) x.1).isNone
      s2.updWork k.seq fun w =>
        { w with words := w.words ++ new.map fun x => BitVec.ofNat 64 (x.1 * 256 + x.2.1.toNat),
                 elems := w.elems ++ new.map fun x => if x.2.2 then 1 else 0 }
  | (s1, .error _) => s1

/-- One stretch of a COPY from element `i` of the source coordinates, dimension 0 fastest. -/
def CopyMove.step (m : CopyMove) (k : CmdRec) (s : State) (i : Nat) : Except EngStop (State × Nat) :=
  let e := m.src.esize
  let x := (mixedRadix m.src.size i).1
  let sva := wrapVa (m.src.addrFrom m.sbase x)
  let dva := wrapVa (m.dst.addrFrom m.dbase x)
  let side := m.src.stride.getD 0 0 == (e : Int) && m.dst.stride.getD 0 0 == (e : Int) && !m.overlap
  let run := if side then m.src.size.getD 0 1 - x.getD 0 0 else 1
  let cur := cursorOf x
  match engRun k .read cur e sva (fun s n => s.engRead k (viaHandle k m.shnd m.src) sva (n * e)) run s with
  | .error stop => .error stop
  | .ok (s1, n, bs) =>
    let rv := viaHandle k m.dhnd m.dst
    let bs1 := if m.overlap then chosen s1.tick i (s1.workOf k.seq) sva bs else bs
    let s2 := if m.overlap then s1.keepBytes k rv dva e else s1
    match engRun k .write cur e dva (fun s n => s.engWrite k rv dva (bs1.take (n * e))) n s2 with
    | .error stop => .error stop
    | .ok (s3, n, _) => .ok (s3, i + n)

/-- The job of COPY. -/
def copyJob (r : Ring) (c : Cmd) : EngJob :=
  let va := if c.w0.getLsbD 27 then bitsFrom 56 else allBits
  { bad := badBits c (w0Zero 1 0) va va (bitsFrom 26 + (2 ^ 16 - 2 ^ 10)) [], gatedByCommit := r == .ri, gate := copyGate c,
    body := fun s k =>
      let m := copyMove c k.work.words
      k.loop s (m.src.size.foldl (· * ·) 1) (m.step k) }

/-- COPY (06 R208). -/
def execCopy (r : Ring) (c : Cmd) (s : State) : Outcome := rakeStep r c (copyJob r c) s

/-! ## FILL -/

/-- Byte `b` of a fill pattern (06 R209). -/
def patternByte (opnd b : Nat) : Byte := BitVec.ofNat 8 (opnd / 2 ^ (8 * (b % 4)))

/-- The bytes that a fill gives a tile row: the pattern, or ZERO-block grains (06 R209, R227). -/
def Tile.fillRow (t : Tile) (opnd : Nat) : List Byte :=
  if t.isMx then (List.replicate (t.width.toNat / 36) zeroGrain).flatten
  else (List.range t.width.toNat).map (patternByte opnd)

/-- Every row of a tile filled. -/
def State.fillTile (s : State) (i opnd : Nat) : State :=
  let t := s.tile i
  (List.range (t.rows.toNat + 1)).foldl (fun x r => x.rowWrite t r 0 (clean (t.fillRow opnd))) s

/-- The job of FILL with M = 0. -/
def fillTileJob (c : Cmd) : EngJob :=
  let i := wordBits c.w1 0 8
  { bad := badBits c (w0Zero 1 (2 ^ 32 - 1)) (bitsFrom 8) allBits allBits [], gatedByCommit := false,
    gate := fun s k => do
      let _ ← s.engTile i
      let s1 ← s.awaitTile k i Tile.mayWrite
      pure (s1, { targets := [(i, .filling)], readers := [], words := [] }),
    body := fun s _ => .ok (s.fillTile i (wordBits c.w0 32 32)) }

/-- FILL with M = 0 (06 R209). -/
def execFillTile (r : Ring) (c : Cmd) (s : State) : Outcome := rakeStep r c (fillTileJob c) s

/-- No tiles to wait for. -/
def noGate (s : State) (_ : CmdRec) : Except EngStop (State × Gated) := .ok (s, { targets := [], readers := [], words := [] })

/-- One line of a FILL of memory from byte offset `i` (06 R209). -/
def fillStep (k : CmdRec) (opnd va len : Nat) (s : State) (i : Nat) : Except EngStop (State × Nat) :=
  let a := va + i
  let n := min (len - i) (128 - a % 128)
  match engRun k .write (cursorOf [i]) 1 a
      (fun s n => s.engWrite k k.plain a (clean ((List.range n).map fun b => patternByte opnd (i + b)))) n s with
  | .error stop => .error stop
  | .ok (s1, n, _) => .ok (s1, i + n)

/-- The job of FILL with M = 1. -/
def fillMemoryJob (c : Cmd) : EngJob :=
  let len := wordBits c.w3 0 32
  { bad := badBits c (w0Zero 1 (2 ^ 32 - 1)) allBits (bitsFrom 56 + 3) (bitsFrom 32 + 3) [(len == 0, 192)],
    gatedByCommit := true, gate := noGate,
    body := fun s k => k.loop s len (fillStep k (wordBits c.w0 32 32) (wordBits c.w2 0 56) len) }

/-- FILL with M = 1 (06 R209). -/
def execFillMemory (r : Ring) (c : Cmd) (s : State) : Outcome := rakeStep r c (fillMemoryJob c) s

/-! ## GATHER and SCATTER -/

/-- The fields of a GATHER or SCATTER (06 R201, R210). -/
structure IndexMove where
  tile : Nat
  itile : Nat
  rows : Nat
  rlen : Nat
  bva : Nat
  rstr : Int

def indexMove (c : Cmd) : IndexMove :=
  { tile := wordBits c.w1 0 8, itile := wordBits c.w1 8 8, rows := wordBits c.w1 16 10 + 1,
    rlen := wordBits c.w1 26 12 + 1, bva := wordBits c.w2 0 56, rstr := signed48 (wordBits c.w3 0 48) }

/-- The checks of R210. -/
def IndexMove.check (m : IndexMove) (s : State) (t u : Tile) : Except EngStop Unit :=
  if t.isMx then s.faultNow causeTileFormat m.tile
  else if u.fmt != 4 && u.fmt != 0 then s.faultNow causeTileFormat m.itile
  else if t.width.toNat < m.rlen ∨ t.rows.toNat < m.rows - 1 then s.faultNow causeTileRange m.tile
  else if u.width.toNat < m.rlen ∨ u.rows.toNat < (m.rows - 1) / 64 then s.faultNow causeTileRange m.itile
  else .ok ()

/-- Step 3 of a GATHER or SCATTER: TILE is written or stored, ITILE is read. -/
def IndexMove.gate (m : IndexMove) (store : Bool) (s : State) (k : CmdRec) : Except EngStop (State × Gated) := do
  let t ← s.engTile m.tile
  let u ← s.engTile m.itile
  m.check s t u
  let s1 ← s.awaitTile k m.tile (if store then Tile.mayStore else Tile.mayWrite)
  let s2 ← s1.awaitTile k m.itile Tile.mayRead
  pure (s2, { targets := [(m.tile, if store then .draining else .filling)], readers := [m.itile], words := [] })

/-- Index entry `n` (06 R210), with whether one of its bytes is uncorrectable. -/
def IndexMove.entry (m : IndexMove) (s : State) (n : Nat) : Nat × Bool :=
  let bs := s.rowRead (s.tile m.itile) (n / 64) (4 * (n % 64)) 4
  (leNat (bs.map (·.1)), bs.any (·.2))

/-- The rest of an entry's bytes from byte `i` of all (06 R210). The bytes that an uncorrectable index moves carry its
mark. -/
def IndexMove.step (m : IndexMove) (store : Bool) (k : CmdRec) (s : State) (i : Nat) : Except EngStop (State × Nat) :=
  let n := i / m.rlen
  let b := i % m.rlen
  let t := s.tile m.tile
  let (idx, bad) := m.entry s n
  let left := m.rlen - b
  let mark (bs : List Marked) : List Marked := if bad then bs.map fun x => (x.1, true) else bs
  if idx = 2 ^ 31 then
    .ok (if store then s else s.rowWrite t n b (mark (clean (List.replicate left 0))), i + left)
  else
    let va := wrapVa ((m.bva : Int) + toSigned 32 idx * m.rstr + b)
    let cur := cursorOf [b, n]
    if store then
      match engRun k .write cur 1 va (fun s c => s.engWrite k k.plain va (mark (s.rowRead t n b c))) left s with
      | .error stop => .error stop
      | .ok (s1, c, _) => .ok (s1, i + c)
    else
      match engRun k .read cur 1 va (fun s c => s.engRead k k.plain va c) left s with
      | .error stop => .error stop
      | .ok (s1, c, bs) => .ok (s1.rowWrite t n b (mark bs), i + c)

/-- A GATHER or SCATTER. -/
def indexJob (c : Cmd) (store : Bool) : EngJob :=
  let m := indexMove c
  { bad := badBits c (w0Zero 0 0) (bitsFrom 38) (bitsFrom 56) (bitsFrom 48) [], gatedByCommit := false,
    gate := m.gate store, body := fun s k => k.loop s (m.rows * m.rlen) (m.step store k) }

/-- GATHER (06 R210). -/
def execGather (r : Ring) (c : Cmd) (s : State) : Outcome := rakeStep r c (indexJob c false) s

/-- SCATTER (06 R210). -/
def execScatter (r : Ring) (c : Cmd) (s : State) : Outcome := rakeStep r c (indexJob c true) s

/-! ## BIND and UNBIND -/

/-- HANDLE_RANGE (06 R203). -/
def State.handleInRange (s : State) (hnd : Nat) : Except EngStop Unit :=
  if s.ctx.ctl.htlim.toNat ≤ hnd then s.faultNow causeHandleRange hnd else .ok ()

/-- HANDLE_FIELD (06 R203); a FMT above 0xF names no format either (log entry 23). -/
def Handle.fieldBad (h : Handle) : Bool :=
  h.ndim == 0 || decide (8 < h.ndim) || h.size.any (· == 0) || decide (0xB ≤ h.fmt) || decide (5 ≤ h.res)

/-- MX_LAYOUT at BIND (06 R203). -/
def Handle.layoutBad (h : Handle) : Bool :=
  h.packed && (h.tcols % 32 != 0 || h.tcols == 0 || decide (4096 < h.tcols) || h.trows == 0 || decide (1024 < h.trows)
    || h.tdir % 8 != 0)

/-- The pages noted so far, three doublewords each behind the handle's sixteen, the newest last. -/
def notedPages : List Word → List BoundPage
  | va :: lvl :: leaf :: t => { va := va.toNat, level := lvl.toNat, leaf := leaf } :: notedPages t
  | _ => []

/-- The pages of a handle that a command has noted. -/
def CmdWork.pages (w : CmdWork) : List BoundPage := notedPages (w.words.drop 16)

/-- The pages that a bound HBM tensor spans, translated in order from page index `n` on (06 R203). -/
def bindPages (k : CmdRec) (hnd last : Nat) : Nat → Nat → Nat → State → Except EngStop State
  | 0, _, _, s => .ok s
  | fuel + 1, n, va, s =>
    if last < va then .ok s
    else if 4096 ≤ n then s.faultAt causeHandleSpan hnd 0 (cursorOf [4095])
    else
      match s.translate k.kernel (va % 2 ^ 64) .read with
      | (s1, .fault c info) => .error (s1.hitchStop k .read (va % 2 ^ 64) (cursorOf [n]) (.fault c info va))
      | (s1, .busy _) => .error (s1.hitchStop k .read (va % 2 ^ 64) (cursorOf [n]) (.busy (va % 2 ^ 64)))
      | (s1, .migrating _ _) => .error (.wait s1)
      | (s1, .ok _ leaf) =>
        let lvl := ((s1.pageAt s1.ctx.asid s1.ctx.root (va % 2 ^ 64)).map (·.1)).getD 0
        let base := va / 2 ^ pageShift lvl * 2 ^ pageShift lvl
        let s2 := s1.updWork k.seq fun w =>
          { w with progress := n + 1, words := w.words ++ [BitVec.ofNat 64 base, BitVec.ofNat 64 lvl, leaf] }
        bindPages k hnd last fuel (n + 1) (base + 2 ^ pageShift lvl) s2

/-- The bound copy kept (06 R202), with its page list: a page that a shoot-down has taken off is not on it (10 R349). -/
def State.keepBinding (s : State) (hnd : Nat) (w : CmdWork) : State :=
  { s with ctx := { s.ctx with binds :=
      { handle := hnd, image := wordBytes (w.words.take 16), pages := w.pages.filter fun p => p.leaf.getLsbD 0 } :: s.ctx.binds.filter fun b => b.handle != hnd } }

/-- The 128 bytes of the handle, read once, and taken as they read where their line is poisoned (06 R202; log entry 23). -/
def readHandle (k : CmdRec) (hnd : Nat) (s : State) : Except EngStop State :=
  if 16 ≤ k.work.words.length then .ok s
  else
    match s.engFetch k (cursorOf []) (s.ctx.ctl.htbase.toNat * 128 + 128 * hnd) 128 with
    | .error e => .error e
    | .ok (s1, bs) => .ok (s1.updWork k.seq fun w => { w with words := packWords 16 (bs.map (·.1)) })

/-- The work of BIND (06 R202, R203). -/
def bindBody (hnd : Nat) (s : State) (k : CmdRec) : Except EngStop State :=
  if 64 ≤ s.ctx.binds.length ∧ s.ctx.binds.all (fun b => b.handle != hnd) then s.faultNow causeBindFull hnd
  else
    match readHandle k hnd s with
    | .error e => .error e
    | .ok s1 =>
      let w := s1.workOf k.seq
      let h := Handle.ofWords w.words
      if h.fieldBad then (s1.updWork k.seq fun _ => CmdWork.none).faultNow causeHandleField hnd
      else if h.layoutBad then (s1.updWork k.seq fun _ => CmdWork.none).faultNow causeMxLayout hnd
      else if h.res ≠ 0 ∨ h.packed then .ok (s1.keepBinding hnd w)
      else
        let lo := wrapVa h.span.1
        let start :=
          match w.pages.getLast? with
          | some p => p.va + 2 ^ pageShift p.level
          | none => lo
        match bindPages k hnd (lo + (h.span.2 - h.span.1).toNat) 4098 w.pages.length start s1 with
        | .error e => .error e
        | .ok s2 => .ok (s2.keepBinding hnd (s2.workOf k.seq))

/-- The job of BIND. -/
def bindJob (c : Cmd) : EngJob :=
  let hnd := wordBits c.w1 0 10
  { bad := badBits c (w0Zero 0 0) (bitsFrom 10) allBits allBits [], gatedByCommit := false,
    gate := fun s k => do
      s.handleInRange hnd
      noGate s k,
    body := bindBody hnd }

/-- BIND (06 R202, R203). -/
def execBind (r : Ring) (c : Cmd) (s : State) : Outcome := rakeStep r c (bindJob c) s

/-- The job of UNBIND. -/
def unbindJob (c : Cmd) : EngJob :=
  let hnd := wordBits c.w1 0 10
  { bad := badBits c (w0Zero 0 0) (bitsFrom 10) allBits allBits [], gatedByCommit := false,
    gate := fun s k => do
      s.handleInRange hnd
      noGate s k,
    body := fun s _ => .ok { s with ctx := { s.ctx with binds := s.ctx.binds.filter fun b => b.handle != hnd } } }

/-- UNBIND (06 R202). -/
def execUnbind (r : Ring) (c : Cmd) (s : State) : Outcome := rakeStep r c (unbindJob c) s

/-! ## MARK -/

/-- The job of MARK. -/
def markJob (c : Cmd) : EngJob :=
  { bad := badBits c (w0Zero 0 0) allBits allBits allBits [], gatedByCommit := false, gate := noGate,
    body := fun s _ => .ok s }

/-- MARK (06 R217). -/
def execMark (r : Ring) (c : Cmd) (s : State) : Outcome := rakeStep r c (markJob c) s

end Sys2Proof.Machine
end

