-- ==== Sys2Proof/Machine/Block.lean ====
section
/-!
DEFINITION. Block-cache commands (06 R211, R212; 10 R328, R329), remote transfers, MIGRATE, TWBACK and CINV (06 R213 to
R216).
-/
namespace Sys2Proof.Machine

/-! ## Blocks -/

/-- A tag of the block declared at an address of an address space. -/
def Block.isAt (b : Block) (asid : BitVec 16) (va : Nat) : Bool := b.nl != 0 && b.asid == asid && b.va == va

/-- The tags of the block declared at an address of an address space: at most two (10 R329). -/
def Device.blocksAt (d : Device) (asid : BitVec 16) (va : Nat) : List Block := d.blocks.filter fun b => b.isAt asid va

/-- The lines of the block declared at an address. -/
def Device.blockLines (d : Device) (asid : BitVec 16) (va : Nat) : List Nat := (d.blocksAt asid va).flatMap (·.lines)

/-- The line at a physical address, if a load or store that missed has made it a block of its own (10 R329). -/
def Device.missedLine (d : Device) (pa : Nat) : List Nat :=
  ((d.blocks.filter fun b => b.nl == 0).flatMap (·.lines)).filter (· == lineOf pa)

/-- A line of a block filled from below. -/
def Device.fillLine (d : Device) (l : Nat × BitVec 64) : Device :=
  let m := leafPmode l.2
  let y := d.fillFrame l.1 m
  let c : CLine := { pa := lineOf l.1, data := y.viewBytes m (lineOf l.1) 128, dirty := false,
                     poison := y.poisoned l.1 m, excl := true, mode := m, stale := false }
  { y with lines := c :: y.lines.filter fun (z : CLine) => z.pa != c.pa }

/-- The tags of a block, one for each 8 KiB granule its lines lie in, each in the granule's home slice (10 R329). -/
def blockTags (cl : Slices) (va nl : Nat) (asid : BitVec 16) (lines : List Nat) : List Block :=
  (lines.map (· / 2 ^ 13)).eraseDups.map fun g =>
    { slice := (homeIn cl (g * 2 ^ 13)).1, va := va, nl := nl, asid := asid, lines := lines.filter fun l => l / 2 ^ 13 == g, done := false }

/-- The lines declared as a block and filled (06 R211): each leaves the block that held it, written back if it is dirty. -/
def Device.declareBlock (d : Device) (cl : Slices) (va nl : Nat) (asid : BitVec 16) (lines : List (Nat × BitVec 64)) : Device :=
  let d1 := lines.foldl (fun x l => x.flushLine (lineOf l.1)) d
  let d2 := lines.foldl Device.fillLine d1
  let d3 := { d2 with blocks := blockTags cl va nl asid (lines.map fun l => lineOf l.1).eraseDups
                                  ++ d2.blocks.filter fun b => !b.isAt asid va }
  cl.foldl (fun x y => x.evict y.1 y.2 64) d3

/-- The old lines of a block at the same address that is declared anew: they stay cached as blocks of one line. -/
def Device.splitBlock (d : Device) (asid : BitVec 16) (va : Nat) : Device :=
  { d with blocks := (d.blocksAt asid va).flatMap (fun b => b.lines.map fun l =>
                        { slice := b.slice, va := 0, nl := 0, asid := 0, lines := [l], done := true })
                       ++ d.blocks.filter fun b => !b.isAt asid va }

/-- Lines of a block translated from line `i` on, as reads; they are noted in the command (06 R211). -/
def blockStep (k : CmdRec) (va : Nat) (s : State) (i : Nat) : Except EngStop (State × Nat) :=
  match s.translate k.kernel ((va + 128 * i) % 2 ^ 64) .read with
  | (s1, .fault c info) =>
    .error (s1.hitchStop k .read (va + 128 * i) (cursorOf [128 * i]) (.fault c info (va + 128 * i)))
  | (s1, .busy _) => .error (s1.hitchStop k .read (va + 128 * i) (cursorOf [128 * i]) (.busy (va + 128 * i)))
  | (s1, .migrating _ _) => .error (.wait s1)
  | (s1, .ok pa leaf) => .ok (s1.updWork k.seq fun w => { w with words := w.words ++ [BitVec.ofNat 64 pa, leaf] }, i + 1)

/-- Lines noted: an address and its leaf. -/
def notedLines : List Word → List (Nat × BitVec 64)
  | pa :: leaf :: t => (pa.toNat, leaf) :: notedLines t
  | _ => []

/-- The work of BLOAD (06 R211): with the block cache absent, or the same block declared, nothing. A dirty line that has to be
written back first, and whose module has no head, is waited for (14 R447). -/
def bloadBody (va nl : Nat) (s : State) (k : CmdRec) : Except EngStop State :=
  if s.cap.isEmpty || (s.dev.blocksAt s.ctx.asid va).any (fun b => b.nl == nl) then .ok s
  else
    match k.loop s nl (blockStep k va) with
    | .error e => .error e
    | .ok s1 =>
      let lines := (notedLines (s1.workOf k.seq).words).filter fun l => s1.dev.cacheable l.1 l.2
      if lines.isEmpty then .ok s1
      else if lines.any fun l => s1.dev.spanWaits (lineOf l.1) 128 then .error (.wait s1)
      else
        let d := (s1.dev.splitBlock s1.ctx.asid va).declareBlock s1.cap va nl s1.ctx.asid lines
        .ok ({ s1 with dev := d }.later (.blockFill va))

/-- Must-be-zero bits of a block command's address. -/
def blockBits (top : Nat) : Nat := bitsFrom top + 127

/-- The job of BLOAD. -/
def bloadJob (c : Cmd) : EngJob :=
  { bad := badBits c (w0Zero 0 0) (blockBits 62) allBits allBits [], gatedByCommit := false, gate := noGate,
    body := bloadBody (wordBits c.w1 0 56) (wordBits c.w1 56 6 + 1) }

/-- BLOAD (06 R211). -/
def execBload (r : Ring) (c : Cmd) (s : State) : Outcome := rakeStep r c (bloadJob c) s

/-- BLOCK_FILL_COMPLETE (06 R211): every line of the block at an address of the context's address space is filled. -/
def execBlockFillComplete (va : Nat) (s : State) : Outcome :=
  let fill (b : Block) : Block := if b.isAt s.ctx.asid va then { b with done := true } else b
  .next { s with dev := { s.dev with blocks := s.dev.blocks.map fill } }

/-- The job of BWAIT. -/
def bwaitJob (c : Cmd) : EngJob :=
  { bad := badBits c (w0Zero 0 0) (blockBits 56) allBits allBits [], gatedByCommit := false,
    gate := fun s k =>
      if (s.dev.blocksAt s.ctx.asid (wordBits c.w1 0 56)).any fun b => !b.done then .error (.wait s) else noGate s k,
    body := fun s _ => .ok s }

/-- BWAIT waits at issue while the block at its address is being filled (06 R211). -/
def execBwait (r : Ring) (c : Cmd) (s : State) : Outcome := rakeStep r c (bwaitJob c) s

/-- The lines of the block at an address where none is declared: those of the one-line block that a missed load or store has made
there (10 R329, 18 R497). An address that does not translate has none (log entry 24). -/
def missedAt (va : Nat) (s : State) (k : CmdRec) : Except EngStop (State × List Nat) :=
  match s.translate k.kernel va .read with
  | (s1, .fault _ _) => .ok (s1, [])
  | (s1, .busy _) => .error (s1.hitchStop k .read va (cursorOf [0]) (.busy va))
  | (s1, .migrating _ _) => .error (.wait s1)
  | (s1, .ok pa _) => .ok (s1, s1.dev.missedLine pa)

/-- The work of BDISC: the lines of the block, declared or of one line, are dropped. -/
def bdiscBody (va : Nat) (s : State) (k : CmdRec) : Except EngStop State :=
  match s.dev.blocksAt s.ctx.asid va with
  | [] =>
    match missedAt va s k with
    | .error e => .error e
    | .ok (s1, ls) => .ok { s1 with dev := ls.foldl Device.dropLine s1.dev }
  | bs => .ok { s with dev := (bs.flatMap (·.lines)).foldl Device.dropLine s.dev }

/-- The job of BDISC. -/
def bdiscJob (c : Cmd) : EngJob :=
  { bad := badBits c (w0Zero 0 0) (blockBits 56) allBits allBits [], gatedByCommit := false, gate := noGate,
    body := bdiscBody (wordBits c.w1 0 56) }

/-- BDISC (06 R212): the block's lines are dropped with what they hold. -/
def execBdisc (r : Ring) (c : Cmd) (s : State) : Outcome := rakeStep r c (bdiscJob c) s

/-- Lines written back, and with I dropped. A write-back that has no head to go to waits (14 R447). -/
def flushLines (ls : List Nat) (drop : Bool) (s : State) : Except EngStop State :=
  if ls.any fun l => s.dev.spanWaits l 128 then .error (.wait s)
  else
    let d := ls.foldl Device.cleanLine s.dev
    .ok { s with dev := if drop then ls.foldl Device.dropLine d else d }

/-- The work of BFLUSH (06 R211): dirty lines of the block, declared or of one line, are written back, and with I the block is
dropped. -/
def bflushBody (va : Nat) (drop : Bool) (s : State) (k : CmdRec) : Except EngStop State :=
  match s.dev.blocksAt s.ctx.asid va with
  | [] =>
    match missedAt va s k with
    | .error e => .error e
    | .ok (s1, ls) => flushLines ls drop s1
  | b :: _ =>
    match k.loop s b.nl (blockStep k va) with
    | .error e => .error e
    | .ok s1 => flushLines (s1.dev.blockLines s.ctx.asid va) drop s1

/-- The job of BFLUSH. -/
def bflushJob (c : Cmd) : EngJob :=
  { bad := badBits c (w0Zero 1 0) (blockBits 56) allBits allBits [], gatedByCommit := false, gate := noGate,
    body := bflushBody (wordBits c.w1 0 56) (c.w0.getLsbD 27) }

/-- BFLUSH (06 R211). -/
def execBflush (r : Ring) (c : Cmd) (s : State) : Outcome := rakeStep r c (bflushJob c) s

/-! ## RFETCH and RSEND -/

/-- The memories at the two ends (06 R213): near is local HBM or a vault's direct part, far the pool or a peer. -/
def nearEnd (pa : Nat) : Bool := decide (residency pa ≤ 1)
def farEnd (pa : Nat) : Bool := residency pa == 2 || residency pa == 3

/-- The memory of an address, as an end of a transfer: CMD_FIELD names bit 0 of its word (06 R213). -/
def checkEnd (ok : Nat → Bool) (bit : Nat) (cursor : List (BitVec 32)) (kd : Kind) (k : CmdRec) (s : State) (va : Nat) :
    Except EngStop (State × (Nat × BitVec 64)) :=
  match s.translate k.kernel va kd with
  | (s1, .fault c info) => .error (s1.hitchStop k kd va cursor (.fault c info va))
  | (s1, .busy _) => .error (s1.hitchStop k kd va cursor (.busy va))
  | (s1, .migrating _ _) => .error (.wait s1)
  | (s1, .ok pa leaf) => if ok pa then .ok (s1, (pa, leaf)) else s1.faultAt causeCmdField bit 0 cursor

/-- One line of a remote transfer from byte offset `i` (06 R213). -/
def farStep (fetch lagoon : Bool) (k : CmdRec) (sva dva : Nat) (s : State) (i : Nat) : Except EngStop (State × Nat) := do
  let cur := cursorOf [i]
  let (s1, (pa, leaf)) ← checkEnd (if fetch then farEnd else nearEnd) 64 cur .read k s (sva + i)
  let (s2, _) ← checkEnd (if fetch then nearEnd else farEnd) 128 cur .write k s1 (dva + i)
  let (s3, bs) ← s2.engFetch k cur (sva + i) 128
  let s4 := if lagoon then { s3 with dev := s3.dev.fillFrame pa (leafPmode leaf) } else s3
  let s5 ← s4.engPut k cur (dva + i) bs
  pure (s5, i + 128)

/-- A remote transfer. -/
def farJob (c : Cmd) (fetch : Bool) : EngJob :=
  let len := wordBits c.w3 0 25
  { bad := badBits c (w0Zero (if fetch then 1 else 0) 0) (blockBits 56) (blockBits 56) (bitsFrom 25 + 127)
             [(len == 0, 192), (decide (2 ^ 24 < len), 192)],
    gatedByCommit := fetch, gate := noGate,
    body := fun s k => k.loop s len (farStep fetch (fetch && c.w0.getLsbD 27) k (wordBits c.w1 0 56) (wordBits c.w2 0 56)) }

/-- RFETCH (06 R213). -/
def execRfetch (r : Ring) (c : Cmd) (s : State) : Outcome := rakeStep r c (farJob c true) s

/-- RSEND (06 R213). -/
def execRsend (r : Ring) (c : Cmd) (s : State) : Outcome := rakeStep r c (farJob c false) s

/-! ## MIGRATE -/

/-- The pages that a MIGRATE names, from an address on: a page that is not mapped counts as 64 KiB (06 R214). -/
def State.pagesFrom (s : State) : Nat → Nat → List Nat
  | 0, _ => []
  | n + 1, va =>
    let step :=
      match s.dev.walk s.allClus va s.ctx.root [4, 3, 2, 1, 0] with
      | .leaf lvl _ _ => 2 ^ pageShift lvl
      | _ => 2 ^ 16
    va :: s.pagesFrom n ((va / step + 1) * step)

/-- The job of MIGRATE. -/
def migrateJob (r : Ring) (c : Cmd) : EngJob :=
  let tres := wordBits c.w0 32 4
  { bad := badBits c (w0Zero 0 15) (bitsFrom 56) (bitsFrom 16) 0 [(decide (2 < tres), 32)],
    gatedByCommit := r == .ri, gate := noGate,
    body := fun s _ =>
      let reqs : List MigReq := (s.pagesFrom (wordBits c.w2 0 16 + 1) (wordBits c.w1 0 56)).map fun va =>
        { asid := s.ctx.asid, root := s.ctx.root, va := va, tres := tres, deadline := c.w3, active := none }
      .ok { s with dev := { s.dev with mig := { s.dev.mig with reqs := s.dev.mig.reqs ++ reqs } } } }

/-- MIGRATE (06 R214): it completes when its requests are queued. -/
def execMigrate (r : Ring) (c : Cmd) (s : State) : Outcome := rakeStep r c (migrateJob r c) s

/-! ## TWBACK and CINV -/

/-- The work of TWBACK (06 R215): rows from the cursor on, in the command's class at its scope (09 R293), then DIRTY clears. -/
def twbackBody (i : Nat) (s : State) (k : CmdRec) : Except EngStop State :=
  let t := s.tile i
  if !t.dirty then .ok s
  else
    match s.backRows k.seq k.kernel k.cls k.scope t k.work.progress (t.rows.toNat + 1) with
    | (s1, .error (h, row)) => .error ((s1.advance k.seq row).hitchStop k .write (t.rowVa row) (cursorOf [row]) h)
    | (s1, .ok _) => .ok (s1.updTile i fun e => { e with dirty := false })

/-- The job of TWBACK. -/
def twbackJob (c : Cmd) : EngJob :=
  let i := wordBits c.w1 0 8
  { bad := badBits c (w0Zero 0 0) (bitsFrom 8) allBits allBits [], gatedByCommit := false,
    gate := fun s k => do
      let t ← s.engTile i
      if !t.rmap then s.faultNow causeTileFormat i
      let s1 ← s.awaitTile k i Tile.mayStore
      pure (s1, { targets := [(i, .draining)], readers := [], words := [] }),
    body := twbackBody i }

/-- TWBACK (06 R215). -/
def execTwback (r : Ring) (c : Cmd) (s : State) : Outcome := rakeStep r c (twbackJob c) s

/-- The lines of one page from byte offset `i` written back and invalidated (06 R216). -/
def cinvStep (k : CmdRec) (va len : Nat) (s : State) (i : Nat) : Except EngStop (State × Nat) :=
  let a := va + i
  let n := min (len - i) (2 ^ 16 - a % 2 ^ 16)
  match s.translate k.kernel a .read with
  | (s1, .fault c info) => .error (s1.hitchStop k .read a (cursorOf [i]) (.fault c info a))
  | (s1, .busy _) => .error (s1.hitchStop k .read a (cursorOf [i]) (.busy a))
  | (s1, .migrating _ _) => .error (.wait s1)
  | (s1, .ok pa leaf) =>
    if s1.pieceHeld k { va := a, pa := pa, n := n, leaf := leaf, past := false } || s1.dev.spanWaits pa n then .error (.wait s1)
    else .ok ({ s1 with dev := s1.dev.flushSpan pa n }, i + n)

/-- The job of CINV. -/
def cinvJob (c : Cmd) : EngJob :=
  let len := wordBits c.w2 0 32
  { bad := badBits c (w0Zero 0 0) (blockBits 56) (bitsFrom 32 + 127) allBits [(len == 0, 128)], gatedByCommit := false,
    gate := noGate, body := fun s k => k.loop s len (cinvStep k (wordBits c.w1 0 56) len) }

/-- CINV (06 R216). -/
def execCinv (r : Ring) (c : Cmd) (s : State) : Outcome := rakeStep r c (cinvJob c) s

end Sys2Proof.Machine
end

