-- ==== Sys2Proof/Machine/Script.lean ====
section
/-!
DEFINITION. KV and prefix commands as scripts of steps (07 R233 to R241, R500; 11 R353 to R365): each step that has been
made is kept in the command's notes with its answer, so that a command that waited or halted goes on where it stood.
The structures that steer these commands, their reads, commits and counts are here.
-/
namespace Sys2Proof.Machine

def causeKvState : BitVec 10 := 0x300
def causeKvSlabFull : BitVec 10 := 0x301
def causeKvRace : BitVec 10 := 0x302
def causeKvBusy : BitVec 10 := 0x303
def causeKvRefcount : BitVec 10 := 0x304
def causeKvGeometry : BitVec 10 := 0x305
def causeKvRegion : BitVec 10 := 0x306
def causePfxLimit : BitVec 10 := 0x307
def causePfxNode : BitVec 10 := 0x308
def causePfxLink : BitVec 10 := 0x309
def causePfxDir : BitVec 10 := 0x30A
def causePfxAbsent : BitVec 10 := 0x30B
def causePfxMoved : BitVec 10 := 0x30C
def causePfxRemote : BitVec 10 := 0x30D

/-! ## Scripts -/

/-- A script in its course: the state, the command, and the answers of earlier steps still to be gone through. -/
structure Scr where
  s : State
  k : CmdRec
  todo : List (Bool × List Nat)

/-- A part of a command's course that answers a value. -/
abbrev Script := StateT Scr (Except EngStop)

/-- The cursor of a KV or prefix command: dimension 0 is its restart point (07 R240). -/
def Scr.cursor (x : Scr) : List (BitVec 32) := cursorOf [(x.s.workOf x.k.seq).progress]

/-- A fault of the command; xFA holds the address of the structure at fault (07 R259). -/
def failAt (cause : BitVec 10) (info va : Nat) : Script α := fun x => x.s.faultAt cause info va x.cursor

/-- A step made once: its answer, and whether it has changed anything, are kept until the next restart point. -/
def attempt (act : State → CmdRec → List (BitVec 32) → Except EngStop (State × Bool × List Nat)) : Script (List Nat) := fun x =>
  match x.todo with
  | (_, r) :: t => .ok (r, { x with todo := t })
  | [] =>
    match act x.s x.k x.cursor with
    | .error e => .error e
    | .ok (s1, r) => .ok (r.2, { x with s := s1.updWork x.k.seq fun w => { w with log := w.log ++ [r] } })

/-- A step that always changes something, or never does. -/
def perform (effect : Bool) (act : State → CmdRec → List (BitVec 32) → Except EngStop (State × List Nat)) :
    Script (List Nat) :=
  attempt fun s k cur =>
    match act s k cur with
    | .error e => .error e
    | .ok (s1, r) => .ok (s1, effect, r)

/-- A restart point: the cursor, and what the command carries on from there. -/
def restartPoint (n : Nat) (ws : List Word) : Script Unit := fun x =>
  .ok ((), { x with s := x.s.updWork x.k.seq (fun w => { w with progress := n, words := ws, log := [] }), todo := [] })

/-- What a command has read since it last changed something it reads again on RESTART; so does it with its structures where it has
changed nothing since its restart point (07 R240, R500). `again` is what it then carries on. -/
def CmdWork.reread (w : CmdWork) (again : List Word → List Word) : CmdWork :=
  let log := (w.log.reverse.dropWhile fun r => !r.1).reverse
  if log.isEmpty then { w with words := again w.words, log := [] } else { w with log := log }

/-- So does one that lost a commit to another writer. -/
def CmdWork.afterFault (again : List Word → List Word) (f : EngFault) (w : CmdWork) : CmdWork :=
  if f.cause == causeKvRace then { w with words := again w.words, log := [] } else w.reread again

/-- A command's script run from its last restart point; `onFault` is what a fault makes of its notes. -/
def runScript (onFault : EngFault → CmdWork → CmdWork) (p : Script Unit) (s : State) (k : CmdRec) : Except EngStop State :=
  match p { s := s, k := k, todo := k.work.log } with
  | .ok (_, x) => .ok x.s
  | .error (.wait s1) => .error (.wait s1)
  | .error (.fault s1 f) => .error (.fault (s1.updWork k.seq (onFault f)) f)

/-- What a command carries on from its restart point, and its restart point. -/
def carried : Script (List Word) := fun x => .ok ((x.s.workOf x.k.seq).words, x)
def reached : Script Nat := fun x => .ok ((x.s.workOf x.k.seq).progress, x)

/-- Repeat for the numbers from `i` up, `n` times. -/
def forFrom (f : Nat → Script Unit) : Nat → Nat → Script Unit
  | _, 0 => pure ()
  | i, n + 1 => do
    f i
    forFrom f (i + 1) n

/-- Answers for the numbers from `i` up, `n` of them. -/
def mapFrom (f : Nat → Script α) : Nat → Nat → Script (List α)
  | _, 0 => pure []
  | i, n + 1 => do
    let x ← f i
    let xs ← mapFrom f (i + 1) n
    pure (x :: xs)

/-! ## Reads and writes -/

/-- Bytes as an answer: a mark for the poison of any of them, then their values. -/
def answerBytes (bs : List Marked) : List Nat := (if bs.any (·.2) then 1 else 0) :: bs.map fun b => b.1.toNat

/-- Bytes read, with their poison. -/
def getBytes (va n : Nat) : Script (List Byte × Bool) := do
  let r ← perform false fun s k cur =>
    match s.engFetch k cur (va % 2 ^ 64) n with
    | .error e => .error e
    | .ok (s1, bs) => .ok (s1, answerBytes bs)
  pure ((r.drop 1).map fun b => BitVec.ofNat 8 b, r.head? == some 1)

/-- Bytes of a structure that steers the command: poison is consumed (07 R500). -/
def getClean (va n : Nat) : Script (List Byte) := do
  let (bs, p) ← getBytes va n
  if p then failAt causePoisonConsumed 0 (va % 2 ^ 64) else pure bs

/-- A number read from such a structure. -/
def getNat (va n : Nat) : Script Nat := do
  let bs ← getClean va n
  pure (leNat bs)

/-- Bytes written, each with its mark. -/
def putMarked (va : Nat) (bs : List Marked) : Script Unit := do
  let _ ← perform true fun s k cur =>
    match s.engPut k cur (va % 2 ^ 64) bs with
    | .error e => .error e
    | .ok s1 => .ok (s1, [])
  pure ()

/-- Bytes written without marks. -/
def putBytes (va : Nat) (bs : List Byte) : Script Unit := putMarked va (clean bs)

/-- Every write of the command's class has been acknowledged: a commit is a release (07 R237). -/
def allPerformed : Script Unit := do
  let _ ← perform false fun s k _ =>
    if s.ctx.unacked (oneClass k.cls) s.ctx.postSeq then .error (.wait s) else .ok (s, [])
  pure ()

/-- The addresses of a write translated before an indivisible step (07 R240). -/
def touchBytes (va n : Nat) : Script Unit := do
  let _ ← perform false fun s k cur =>
    match s.rangeBy k.plain .write (va % 2 ^ 64) n with
    | (s1, .ok _) => .ok (s1, [])
    | (s1, .error h) =>
      let a := match h with
        | .fault _ _ b | .busy b => b
        | .wait => va % 2 ^ 64
      .error (s1.hitchStop k .write a cur h)
  pure ()

/-- The atomic home of `n` bytes of the structure at `at_` (07 R238), and whether a peer holds the first of them. Their placement is
tested however they are then accessed: what is only read needs no right to write. -/
def homeSpan (at_ va n : Nat) : Script Bool := do
  let r ← perform false fun s k cur =>
    match s.rangeBy k.plain .read (va % 2 ^ 64) n with
    | (s1, .error h) => .error (s1.hitchStop k .read (at_ % 2 ^ 64) cur h)
    | (s1, .ok ps) =>
      match ps.find? fun p => !s1.atomicHome p.pa p.leaf with
      | some p => s1.faultAt causeKvRegion (residency p.pa) (at_ % 2 ^ 64) cur
      | none => .ok (s1, [(ps.head?.map fun p => residency p.pa).getD 0])
  pure (r == [3])

/-- The atomic home of a structure that lies in one line. -/
def homeOf (va : Nat) : Script Bool := homeSpan va va 1

/-- Bytes copied in requests of at most 2 KiB, with their poison (06 R207). -/
def copyBytes (src dst n : Nat) : Script Unit :=
  forFrom (fun i => do
    let _ ← perform true fun s k cur =>
      let len := min 2048 (n - 2048 * i)
      match s.engFetch k cur ((src + 2048 * i) % 2 ^ 64) len with
      | .error e => .error e
      | .ok (s1, bs) =>
        match s1.engPut k cur ((dst + 2048 * i) % 2 ^ 64) bs with
        | .error e => .error e
        | .ok s2 => .ok (s2, [])
    pure ()) 0 ((n + 2047) / 2048)

/-! ## Indivisible changes -/

/-- A change at a location of this device: the old value, and the new one if there is one, as one action (07 R239). -/
def changeHere (va n : Nat) (f : Nat → Option Nat) (s : State) (k : CmdRec) (cur : List (BitVec 32)) :
    Except EngStop (State × Bool × List Nat) :=
  match s.rangeBy k.plain .atomic va n with
  | (s1, .error h) => .error (s1.hitchStop k .atomic va cur h)
  | (s1, .ok ps) =>
    if ps.any (s1.pieceHeld k) then .error (.wait s1)
    else
      let (s2, bs) := s1.readPieces (ringCode k.ring) ps
      if bs.any (·.2) then s2.faultAt causePoisonConsumed 0 va cur
      else
        let old := leNat (bs.map (·.1))
        match f old with
        | none => .ok (s2, false, [old])
        | some v =>
          match s2.writePieces k.cls k.scope ps (clean (leBytes n v)) with
          | none => .error (.wait s2)
          | some s3 => .ok (s3, true, [old])

/-- The kind of a ring's atomic at a peer, among the requests that a peer answers. -/
def casKind (who : Nat) : Nat := 9 + who

/-- A returning atomic of a command at a peer (04 R143): `g` is asked for once it may go (14 R451), and answered with the
bytes and the status that came back; none when the peer is gone. -/
def peerAtomic (va : Nat) (g : BitVec 39 → GPacket) (s : State) (k : CmdRec) (cur : List (BitVec 32)) :
    Except EngStop (State × Option (List Byte × BitVec 3)) :=
  match s.rangeBy k.plain .atomic va 1 with
  | (s1, .error h) => .error (s1.hitchStop k .atomic va cur h)
  | (s1, .ok ps) =>
    match ps with
    | [] => .ok (s1, none)
    | p :: _ =>
      let kind := casKind (ringCode k.ring)
      let req := g (peerOff p.pa)
      if s1.pieceHeld k p then .error (.wait s1)
      else if s1.dev.peerGone (peerOf p.pa) then .ok (s1, none)
      else
        match s1.ctx.peer.find? fun w => w.kind == kind && w.key == p.pa with
        | none =>
          .error (.wait (if s1.dev.maySend (peerOf p.pa) k.cls req then (s1.request (peerOf p.pa) k.cls kind req).1 else s1))
        | some w =>
          match w.data with
          | none => .error (.wait s1)
          | some bs =>
            .ok ({ s1 with ctx := { s1.ctx with peer := s1.ctx.peer.filter fun v => v.tag != w.tag } }, some (bs, w.status))

/-- A compare and swap at a peer: its old value when it is there (14 R453). -/
def casThere (va n old new : Nat) (s : State) (k : CmdRec) (cur : List (BitVec 32)) :
    Except EngStop (State × Bool × List Nat) :=
  match peerAtomic va (fun off => { gBlank with
      type := gAtom, ret := true, op := AtomOp.cas.code, size := BitVec.ofNat 2 (Nat.log2 n), off := off,
      scope := k.scope, len := BitVec.ofNat 9 (2 * n), payload := leBytes n old ++ leBytes n new }) s k cur with
  | .error e => .error e
  | .ok (s1, some (bs, st)) =>
    if st != 0 || bs.length != n then s1.faultAt causePoisonConsumed 0 va cur else .ok (s1, leNat bs == old, [leNat bs])
  | .ok (s1, none) => s1.faultAt causePoisonConsumed 0 va cur

/-- A change at a peer: read, then compare and swap until no other party came between. -/
def changeThere (va n : Nat) (f : Nat → Option Nat) : Nat → Script Nat
  | 0 => fun x => .error (.wait x.s)
  | fuel + 1 => do
    let v ← getNat va n
    match f v with
    | none => pure v
    | some new => do
      let r ← attempt (casThere (va % 2 ^ 64) n v new)
      if r.headD 0 = v then pure v else changeThere va n f fuel

/-- An indivisible change of a word at its home: the old value. -/
def changeWord (va n : Nat) (f : Nat → Option Nat) : Script Nat := do
  if ← homeOf va then changeThere va n f 1024
  else do
    let r ← attempt (changeHere (va % 2 ^ 64) n f)
    pure (r.headD 0)

/-! ## KV spaces and heads as the commands read them (07 R235 to R237; 11 R353, R354) -/

/-- A KV space read with an ordinary load (11 R353), at whatever alignment its address has (log entry 77). -/
def readSpace (lay ksva : Nat) : Script KvSpace := do
  let bs ← getClean ksva 64
  match KvSpace.ofBytes bs with
  | some ks => pure ks
  | none => failAt causeKvGeometry lay (ksva % 2 ^ 64)

/-- A slot index that is used is below NSLOTS (11 R354); `at_` is where it was read. -/
def slotOk (ks : KvSpace) (lay g at_ : Nat) : Script Unit :=
  if ks.nslots ≤ g then failAt causeKvState lay (at_ % 2 ^ 64) else pure ()

/-- The head as it is written: reserved bits are zero (11 R359). -/
def KvHead.image (h : KvHead) : List Byte :=
  leBytes 4 h.len ++ leBytes 4 h.plen
    ++ leBytes 8 ((if h.move then 2 ^ 36 else 0) + h.slog % 16 * 2 ^ 32 + h.ver % 2 ^ 16 * 2 ^ 16 + h.npfx % 2 ^ 16)
    ++ leBytes 8 (h.prel % 2 ^ 32) ++ leBytes 8 (h.slab % 2 ^ 56)

/-- A head, and a KV space, as words that a command carries on. -/
def KvHead.words (h : KvHead) : List Word := packWords 6 (h.image ++ leBytes 8 h.ksva ++ leBytes 8 h.pseg)
def KvHead.ofWords (ws : List Word) : KvHead := KvHead.ofBytes (wordBytes (ws.take 6))
def KvSpace.words (ks : KvSpace) : List Word :=
  [ks.pslot, ks.vfmt, ks.krec, ks.layers, ks.d, ks.heads, ks.pool, ks.nslots, ks.rcnt, ks.freeq, ks.tree].map (BitVec.ofNat 64)
def KvSpace.ofWords (ws : List Word) : KvSpace :=
  let q (i : Nat) : Nat := (ws.getD i 0).toNat
  { pslot := q 0, vfmt := q 1, krec := q 2, layers := q 3, d := q 4, heads := q 5, pool := q 6, nslots := q 7, rcnt := q 8,
    freeq := q 9, tree := q 10 }

/-- KV_STATE of a descriptor as read (07 R236, 11 R359): reserved bits, alignment and the conditions on its fields. -/
def headBad (bs : List Byte) : Bool :=
  let q (i : Nat) : Nat := fieldLE bs (8 * i) 8
  let h := KvHead.ofBytes bs
  q 1 / 2 ^ 37 != 0 || q 2 / 2 ^ 32 != 0 || q 3 / 2 ^ 56 != 0 || q 4 / 2 ^ 56 != 0 || q 5 / 2 ^ 56 != 0
    || q 6 / 2 ^ 56 != 0 || q 7 != 0 || h.slab % 4096 != 0 || h.pseg % 4 != 0 || decide (h.len < h.plen)
    || decide (65536 < h.plen) || decide (h.npfx < (h.plen + 63) / 64) || decide (1024 < h.npfx)
    || decide (64 * 2 ^ h.slog < h.len - h.plen) || (h.plen % 64 != 0 && h.len != h.plen)

/-- A descriptor's 64 bytes read as an acquire (07 R237). -/
def readDescriptor (lay dva : Nat) : Script (List Byte) := do
  let _ ← homeOf dva
  let bs ← getClean dva 64
  if headBad bs then failAt causeKvState lay (dva % 2 ^ 64) else pure bs

/-- PREL of a head names a slot of its KV space, or none (11 R354, R359). -/
def prelOk (ks : KvSpace) (lay dva : Nat) (h : KvHead) : Script Unit :=
  if h.prel = noSlot then pure () else slotOk ks lay h.prel dva

/-- The same of a head whose KV space is not at hand: it is read for this. -/
def prelOf (lay dva : Nat) (h : KvHead) : Script Unit := do
  if h.prel = noSlot then pure ()
  else do
    let ks ← readSpace lay h.ksva
    slotOk ks lay h.prel dva

/-- A head read as an acquire. -/
def readHead (lay dva : Nat) : Script KvHead := do
  let bs ← readDescriptor lay dva
  pure (KvHead.ofBytes bs)

/-- The op code of the ATOM that carries a head's commit to the peer that is its home: no op code of R95 (log entry 53). -/
def gCommit : BitVec 4 := 15

/-- A commit at a peer (07 R237): the VER expected and the new head go in one packet; the answer is the VER found. -/
def commitThere (lay dva ver : Nat) (image : List Byte) (s : State) (k : CmdRec) (cur : List (BitVec 32)) :
    Except EngStop (State × List Nat) :=
  match peerAtomic (dva % 2 ^ 64) (fun off => { gBlank with
      type := gAtom, ret := true, op := gCommit, off := off, scope := k.scope, len := 34,
      payload := leBytes 2 ver ++ image }) s k cur with
  | .error e => .error e
  | .ok (s1, some (bs, st)) =>
    if st != 0 || bs.length != 2 then s1.faultAt causePoisonConsumed 0 (dva % 2 ^ 64) cur
    else if leNat bs ≠ ver then s1.faultAt causeKvRace lay (dva % 2 ^ 64) cur
    else .ok (s1, [])
  | .ok (s1, none) => s1.faultAt causePoisonConsumed 0 (dva % 2 ^ 64) cur

/-- The update of a commit (07 R237): the whole head, if VER still holds the value read. -/
def commitAct (lay dva ver : Nat) (image : List Byte) (s : State) (k : CmdRec) (cur : List (BitVec 32)) :
    Except EngStop (State × List Nat) :=
  match s.engFetch k cur (dva % 2 ^ 64) 32 with
  | .error e => .error e
  | .ok (s1, bs) =>
    if bs.any (·.2) then s1.faultAt causePoisonConsumed 0 (dva % 2 ^ 64) cur
    else if fieldLE (bs.map (·.1)) 10 2 ≠ ver then s1.faultAt causeKvRace lay (dva % 2 ^ 64) cur
    else
      match s1.engPut k cur (dva % 2 ^ 64) (image.map fun b => (b, false)) with
      | .error e => .error e
      | .ok s2 => .ok (s2, [])

/-- A commit (07 R237): a release, with the next VER. -/
def commit (lay dva : Nat) (old new : KvHead) : Script KvHead := do
  let h := { new with ver := (old.ver + 1) % 2 ^ 16 }
  allPerformed
  let away ← homeOf dva
  let _ ← perform true (if away then commitThere lay dva old.ver h.image else commitAct lay dva old.ver h.image)
  allPerformed
  pure h

/-! ## Counts and the free queue (07 R239, R241; 11 R364, R365) -/

/-- The free queue's capacity and entries: KV_GEOMETRY for a CAP of 0 (11 R365), and for an ENT that is not aligned (log entry 77). -/
def readQueue (ks : KvSpace) (lay : Nat) : Script (Nat × Nat) := do
  let _ ← homeOf ks.freeq
  let bs ← getClean ks.freeq 32
  let cap := fieldLE bs 16 4
  let ent := fieldLE bs 24 8 % 2 ^ 56
  if cap = 0 ∨ ent % 4 ≠ 0 then failAt causeKvGeometry lay ks.freeq else pure (cap, ent)

/-- The store of a slot into a free-queue entry, once the entry is empty (11 R365). -/
def enqueueAct (va g : Nat) (s : State) (k : CmdRec) (cur : List (BitVec 32)) : Except EngStop (State × List Nat) :=
  match s.engFetch k cur (va % 2 ^ 64) 4 with
  | .error e => .error e
  | .ok (s1, bs) =>
    if bs.any (·.2) then s1.faultAt causePoisonConsumed 0 (va % 2 ^ 64) cur
    else if leNat (bs.map (·.1)) ≠ noSlot then .error (.wait s1)
    else
      match s1.engPut k cur (va % 2 ^ 64) ((leBytes 4 g).map fun b => (b, false)) with
      | .error e => .error e
      | .ok s2 => .ok (s2, [])

/-- The same at a peer, as one action there: no other release comes between (07 R239). -/
def enqueueThere (va g : Nat) (s : State) (k : CmdRec) (cur : List (BitVec 32)) : Except EngStop (State × List Nat) :=
  match casThere (va % 2 ^ 64) 4 noSlot g s k cur with
  | .error e => .error e
  | .ok (s1, true, _) => .ok (s1, [])
  | .ok (s1, false, _) => .error (.wait s1)

/-- A slot appended to the free queue (11 R365). -/
def freeSlot (ks : KvSpace) (lay g : Nat) : Script Unit := do
  let (cap, ent) ← readQueue ks lay
  let i ← changeWord ks.freeq 8 fun v => some ((v + 1) % 2 ^ 64)
  let va := ent + 4 * (i % cap)
  let away ← homeOf va
  touchBytes va 4
  allPerformed
  let _ ← perform true (if away then enqueueThere va g else enqueueAct va g)
  pure ()

/-- A count decremented; one that reaches 0 frees its slot (07 R239). The free queue is met before the count falls. -/
def decrement (ks : KvSpace) (lay g at_ : Nat) : Script Unit := do
  slotOk ks lay g at_
  let va := ks.rcnt + 4 * g
  let _ ← homeOf va
  let now ← getNat va 4
  if now = 1 then
    let _ ← readQueue ks lay
  let old ← changeWord va 4 fun v => if v = 0 then none else some (v - 1)
  if old = 0 then failAt causeKvRefcount (g % 2 ^ 22) (va % 2 ^ 64)
  else if old = 1 then freeSlot ks lay g
  else pure ()

/-- A count incremented (07 R239); a conditional increment leaves 0 as it is and says so. -/
def increment (ks : KvSpace) (lay g at_ : Nat) (conditional : Bool) : Script Bool := do
  slotOk ks lay g at_
  let va := ks.rcnt + 4 * g
  let old ← changeWord va 4 fun v => if v = noSlot ∨ (conditional ∧ v = 0) then none else some (v + 1)
  if old = noSlot then failAt causeKvRefcount (g % 2 ^ 22) (va % 2 ^ 64)
  else pure (!(conditional && old == 0))

/-- CompleteRelease (07 R241): the pending slot's count falls, and a commit clears PREL. -/
def completeRelease (ks : KvSpace) (lay dva : Nat) (h : KvHead) : Script KvHead := do
  if h.prel = noSlot then pure h
  else do
    touchBytes dva 32
    decrement ks lay h.prel dva
    commit lay dva h { h with prel := noSlot }

/-- The opening that every command writing a head makes: the head, its KV space, MOVE, and the pending release (07 R235,
R241, R243). -/
def openLayer (lay dva : Nat) : Script (KvHead × KvSpace) := do
  let h ← readHead lay dva
  let ks ← readSpace lay h.ksva
  if ks.layers ≤ lay then failAt causeKvGeometry lay (dva % 2 ^ 64)
  prelOk ks lay dva h
  if h.move then failAt causeKvBusy lay (dva % 2 ^ 64)
  else do
    let h1 ← completeRelease ks lay dva h
    pure (h1, ks)

/-- The copy-on-write of a partly filled last prefix page (07 R243). -/
def copyOnWrite (ks : KvSpace) (lay dva : Nat) (h : KvHead) : Script KvHead := do
  if h.len ≠ h.plen ∨ h.plen % 64 = 0 then pure h
  else do
    let at_ := h.pseg + 4 * (h.npfx - 1)
    let g ← getNat at_ 4
    slotOk ks lay g at_
    copyBytes (ks.pool + g * ks.pslot) h.slab ks.page
    let h1 ← commit lay dva h { h with plen := h.plen - h.plen % 64, npfx := h.npfx - 1, prel := g }
    completeRelease ks lay dva h1

/-- The page that holds position `p` (07 R236). -/
def pageOf (ks : KvSpace) (lay : Nat) (h : KvHead) (p : Nat) : Script Nat := do
  if p < h.plen then do
    let at_ := h.pseg + 4 * (p / 64)
    let g ← getNat at_ 4
    slotOk ks lay g at_
    pure (ks.pool + g * ks.pslot)
  else pure (h.slab + (p - h.plen) / 64 * ks.pslot)

end Sys2Proof.Machine
end

