-- ==== Sys2Proof/Machine/Kv.lean ====
section
/-!
DEFINITION. KVAPPEND, KVGROW, KVCOW and KVREMAP (07 R242 to R250; 11 R355).
-/
namespace Sys2Proof.Machine

/-- Bits of an address of a 64-byte aligned structure that are zero (07 R234). -/
def descriptorZero : Nat := bitsFrom 56 + bitsUpTo 5

/-! ## VPut (07 R244) -/

/-- A V block: its format byte, element format, scale and element codes. -/
structure VBlock where
  fb : Nat
  fmt : Efmt
  scale : Nat
  codes : List Nat
  deriving DecidableEq, Repr

/-- Q(v, e). -/
def Efmt.q (f : Efmt) (v : FVal) (e : Nat) : Nat := f.quantise (v.scale (127 - (e : Int)))

/-- Fits(v, e): the unclamped rounding lies within the format's finite range. -/
def Efmt.fits (f : Efmt) (v : FVal) (e : Nat) : Bool :=
  let x := v.scale (127 - (e : Int))
  match f.fmt with
  | some g =>
    let wide : Fmt := { g with ebits := g.ebits + 1, sp := .none }
    decide (wide.round .nearestEven (.conv false) x % wide.sign ≤ g.maxBits)
  | none =>
    match f, x with
    | .int8, .fin s m e => let n := roundShift .nearestEven s m (e + 6); decide (if s then n ≤ 128 else n ≤ 127)
    | _, _ => true

/-- A block opened by its element `k`: all elements +0 but that one. -/
def VBlock.opened (vf : Efmt) (k : Nat) (v : FVal) : VBlock :=
  let sc := quantScale vf [v]
  { fb := vf.code, fmt := vf, scale := sc,
    codes := (List.range 32).map fun j => if j = k ∧ sc ≠ 0xFF then vf.q v sc else 0 }

/-- The least exponent above the block's scale at which the value fits; 254 if none. -/
def VBlock.nextScale (b : VBlock) (v : FVal) : Nat :=
  (((List.range 255).drop (b.scale + 1)).find? fun e => b.fmt.fits v e).getD 254

/-- An element carried to a higher scale; NaN and infinity stay. -/
def VBlock.rescaled (b : VBlock) (e2 code : Nat) : Nat :=
  let x := b.fmt.val code
  if x.isSpecial then code else b.fmt.quantise (x.scale ((b.scale : Int) - e2))

/-- VPut into a block that a record holds, for k > 0 (07 R244). -/
def VBlock.put (vf : Efmt) (b : VBlock) (k : Nat) (v : FVal) : VBlock :=
  if b.fmt = .zero then VBlock.opened vf k v
  else if b.scale = 0xFF then b
  else if v.isSpecial then { b with scale := 0xFF }
  else if b.fmt.fits v b.scale then { b with codes := b.codes.set k (b.fmt.q v b.scale) }
  else
    let e2 := b.nextScale v
    { b with fb := b.fb ||| 8, scale := e2,
             codes := ((b.codes.zipIdx.map fun x => if x.2 < k then b.rescaled e2 x.1 else x.1)).set k (b.fmt.q v e2) }

/-- The packed record of a block (02 R71). -/
def VBlock.record (b : VBlock) : List Byte := mkRecord b.fmt (BitVec.ofNat 8 b.fb) (BitVec.ofNat 8 b.scale) b.codes

/-- The block that a record's bytes hold. -/
def VBlock.ofRecord (f : Efmt) (bs : List Byte) : VBlock :=
  { fb := (bs.getD 0 0).toNat, fmt := f, scale := (bs.getD 1 0).toNat,
    codes := (List.range 32).map fun e => (recordElem f (clean bs) e).1.toNat }

/-- An element of VT at its value (07 R244). -/
def vtValue (f32 : Bool) (n : Nat) : FVal := if f32 then fmtF32.decode n else fmtBf16.decode n

/-! ## KVAPPEND (07 R242, R243) -/

/-- The fields of a KVAPPEND. -/
structure Append where
  dva : Nat
  kt : Nat
  vt : Nat
  ntok : Nat
  row0 : Nat
  deriving DecidableEq, Repr

def appendOf (c : Cmd) : Append :=
  { dva := wordBits c.w1 0 56, kt := wordBits c.w2 0 8, vt := wordBits c.w2 8 8, ntok := wordBits c.w2 16 6 + 1,
    row0 := wordBits c.w2 22 10 }

/-- Step 3 of a KVAPPEND: the formats of both tiles, which it reads until it completes. -/
def Append.gate (a : Append) (s : State) (k : CmdRec) : Except EngStop (State × Gated) := do
  let t ← s.engTile a.kt
  let u ← s.engTile a.vt
  if !t.isMx then s.faultNow causeTileFormat a.kt
  else if u.fmt != 1 && u.fmt != 2 then s.faultNow causeTileFormat a.vt
  else do
    let s1 ← s.awaitTile k a.kt Tile.mayRead
    let s2 ← s1.awaitTile k a.vt Tile.mayRead
    pure (s2, { targets := [], readers := [a.kt, a.vt], words := [] })

/-- TILE_RANGE of both tiles (07 R242). -/
def Append.range (a : Append) (ks : KvSpace) : Script Unit := fun x =>
  let t := x.s.tile a.kt
  let u := x.s.tile a.vt
  let es := if u.fmt == 1 then 4 else 2
  let last := a.row0 + ks.heads * a.ntok - 1
  if t.rows.toNat < last ∨ t.width.toNat < 36 * ks.d / 32 then failAt causeTileRange a.kt 0 x
  else if u.rows.toNat < last ∨ u.width.toNat < ks.d * es then failAt causeTileRange a.vt 0 x
  else .ok ((), x)

/-- A K record of a grain (07 R242, 02 R75): its bytes with their poison, or a fault. -/
def kRecord (mx4 : Bool) (krec : Nat) (g : List Marked) : Except (BitVec 10) (List Marked) :=
  match packGrain mx4 g 32 with
  | .fault c => .error c
  | .record bs false => if krec < bs.length then .error causeMxFormat else .ok (clean bs)
  | .record bs true =>
    let bytes := g.map (·.1)
    let kept := if krec < bs.length ∨ (efmtOf (bytes.getD 0 0) mx4).isNone then (bytes.take 2 ++ bytes.drop 4).take krec else bs
    .ok (kept.map fun b => (b, true))

/-- The K records of a head. -/
def kRecords (mx4 : Bool) (krec : Nat) : List (List Marked) → Except (BitVec 10) (List (List Marked))
  | [] => .ok []
  | g :: gs =>
    match kRecord mx4 krec g with
    | .error c => .error c
    | .ok r =>
      match kRecords mx4 krec gs with
      | .error c => .error c
      | .ok rs => .ok (r :: rs)

/-- The K cell of a head: its records, and zeros behind them (11 R355). -/
def Append.cell (a : Append) (ks : KvSpace) (row : Nat) : Script (List (List Marked)) := fun x =>
  let t := x.s.tile a.kt
  match kRecords (t.fmt == 10) ks.krec ((List.range (ks.d / 32)).map fun b => x.s.rowRead t row (36 * b) 36) with
  | .error c => failAt c (row * 256 + a.kt) 0 x
  | .ok rs => .ok (rs ++ [clean (List.replicate (ks.kcell - rs.flatten.length) 0)], x)

/-- The element of VT at a row and channel, with its mark. -/
def Append.value (a : Append) (row ch : Nat) : Script (FVal × Bool) := fun x =>
  let u := x.s.tile a.vt
  let es := if u.fmt == 1 then 4 else 2
  let bs := x.s.rowRead u row (es * ch) es
  .ok ((vtValue (u.fmt == 1) (leNat (bs.map (·.1))), bs.any (·.2)), x)

/-- The element format of the V record at an address (07 R244). -/
def vFormat (va : Nat) : Script Efmt := do
  let (hb, _) ← getBytes va 1
  match efmtOf (hb.getD 0 0) false with
  | some f => pure f
  | none => failAt causeMxFormat 0 (va % 2 ^ 64)

/-- VPut of a value into element `e` of the V record at an address; poison goes with the data (07 R500). -/
def vPut (vf : Efmt) (va e : Nat) (v : FVal) (poison : Bool) : Script Unit := do
  if e = 0 then putMarked va ((VBlock.opened vf 0 v).record.map fun b => (b, poison))
  else
    let f ← vFormat va
    let (bs, p) ← getBytes va f.recordLen
    let old := VBlock.ofRecord f bs
    if f ≠ .zero ∧ old.scale = 0xFF then pure ()
    else putMarked va ((old.put vf e v).record.map fun b => (b, poison || p))

/-- Parts written one behind the other, each as a whole (09 R293, R320). -/
def putParts (va : Nat) : List (List Marked) → Script Unit
  | [] => pure ()
  | r :: rs => do
    putMarked va r
    putParts (va + r.length) rs

/-- One token: every byte it will write is translated, its grains and its V records are checked, and then it is
written, head by head. -/
def Append.token (a : Append) (h : KvHead) (ks : KvSpace) (n : Nat) : Script Unit := do
  let q := h.len + n - h.plen
  let t := q % 64
  let page := h.slab + q / 64 * ks.pslot
  forFrom (fun i => do
    touchBytes (ks.cellAt page i t) ks.kcell
    forFrom (fun c => touchBytes (ks.vrecAt page i c (t / 32)) ks.vrec) 0 ks.d) 0 ks.heads
  let cells ← mapFrom (fun i => a.cell ks (a.row0 + ks.heads * n + i)) 0 ks.heads
  if t % 32 ≠ 0 then
    forFrom (fun i => forFrom (fun c => do
      let _ ← vFormat (ks.vrecAt page i c (t / 32))
      pure ()) 0 ks.d) 0 ks.heads
  forFrom (fun i => do
    putParts (ks.cellAt page i t) (cells.getD i [])
    forFrom (fun c => do
      let (v, p) ← a.value (a.row0 + ks.heads * n + i) c
      vPut ks.vf (ks.vrecAt page i c (t / 32)) (t % 32) v p) 0 ks.d) 0 ks.heads

/-- The opening of a KVAPPEND, up to the first token: what it carries on from there. -/
def Append.opening (a : Append) : Script (KvHead × KvSpace) := do
  let ws ← carried
  if ws ≠ [] then pure (KvHead.ofWords ws, KvSpace.ofWords (ws.drop 6))
  else do
    let (h, ks) ← openLayer 0 a.dva
    a.range ks
    let h1 ← copyOnWrite ks 0 a.dva h
    restartPoint 0 []
    if 64 * 2 ^ h1.slog < h1.len + a.ntok - h1.plen then failAt causeKvSlabFull 0 a.dva
    else do
      restartPoint 0 (h1.words ++ ks.words)
      pure (h1, ks)

/-- The course of a KVAPPEND. -/
def Append.course (a : Append) : Script Unit := do
  let (h, ks) ← a.opening
  let n ← reached
  forFrom (fun i => do
    a.token h ks i
    restartPoint (i + 1) (h.words ++ ks.words)) n (a.ntok - n)
  let _ ← commit 0 a.dva h { h with len := h.len + a.ntok }
  pure ()

/-- The job of KVAPPEND. -/
def kvappendJob (c : Cmd) : EngJob :=
  let a := appendOf c
  { bad := badBits c (w0Zero 0 0) descriptorZero (bitsFrom 32) allBits [], gatedByCommit := false, gate := a.gate,
    body := runScript (CmdWork.afterFault id) a.course }

/-- KVAPPEND (07 R242 to R244). -/
def execKvappend (r : Ring) (c : Cmd) (s : State) : Outcome := rakeStep r c (kvappendJob c) s

/-! ## KVGROW (07 R246 to R248) -/

/-- The forwarding registers. -/
def setForward (f : Ctl → Ctl) : Script Unit := fun x => .ok ((), { x with s := x.s.setCtl f })

/-- The opening of a KVGROW: MOVE is committed and forwarding begins. A resumed one reads the head again. -/
def growOpening (dva nslab : Nat) : Script KvHead := do
  let ws ← carried
  match ws with
  | [] =>
    let (h, ks) ← openLayer 0 dva
    if h.slog = 15 then failAt causeKvSlabFull 0 dva
    else do
      putBytes (dva + 48) (leBytes 8 nslab)
      let h1 ← commit 0 dva h { h with move := true }
      setForward fun c => { c with
        fwdOld := BitVec.ofNat 56 h1.slab, fwdNew := BitVec.ofNat 56 nslab, fwdAct := true, fwdOff := 0,
        fwdSpan := 64 * 2 ^ h1.slog * ks.pslot, fwdUsed := (h1.len - h1.plen + 63) / 64 * ks.pslot }
      restartPoint 0 (1 :: h1.words)
      pure h1
  | [_] => do
    let h ← readHead 0 dva
    prelOf 0 dva h
    let n ← reached
    restartPoint n (1 :: h.words)
    pure h
  | _ :: hw => pure (KvHead.ofWords hw)

/-- The course of a KVGROW: the used bytes of the old slab, 2,048 at a time. NEWSLAB is 0 again before the commit that ends
the move (11 R359). -/
def growCourse (dva nslab : Nat) : Script Unit := do
  let h ← growOpening dva nslab
  let x ← get
  let ctl := x.s.ctx.ctl
  let used := ctl.fwdUsed
  let off := ctl.fwdOff.toNat
  forFrom (fun i => do
    let at_ := off + 2048 * i
    let n := min 2048 (used - at_)
    copyBytes (ctl.fwdOld.toNat + at_) (ctl.fwdNew.toNat + at_) n
    allPerformed
    setForward fun c => { c with fwdOff := BitVec.ofNat 48 (at_ + n) }
    restartPoint (at_ + n) (1 :: h.words)) 0 ((used - off + 2047) / 2048)
  putBytes (dva + 48) (leBytes 8 0)
  let _ ← commit 0 dva h { h with slab := nslab, slog := h.slog + 1, move := false }
  setForward fun c => { c with fwdOld := 0, fwdNew := 0, fwdAct := false, fwdOff := 0, fwdSpan := 0, fwdUsed := 0 }

/-- The job of KVGROW. -/
def kvgrowJob (c : Cmd) : EngJob :=
  { bad := badBits c (w0Zero 0 0) descriptorZero (bitsFrom 56 + bitsUpTo 11) allBits [], gatedByCommit := false,
    gate := noGate, body := runScript (CmdWork.afterFault (List.take 1)) (growCourse (wordBits c.w1 0 56) (wordBits c.w2 0 56)) }

/-- KVGROW (07 R246). -/
def execKvgrow (r : Ring) (c : Cmd) (s : State) : Outcome := rakeStep r c (kvgrowJob c) s

/-! ## KVCOW (07 R245) -/

/-- The job of KVCOW. -/
def kvcowJob (c : Cmd) : EngJob :=
  let dva := wordBits c.w1 0 56
  let layers := wordBits c.w3 0 8 + 1
  { bad := badBits c (w0Zero 0 0) descriptorZero allBits (bitsFrom 8) [], gatedByCommit := false, gate := noGate,
    body := runScript (CmdWork.afterFault id) do
      let n ← reached
      forFrom (fun l => do
        let (h, ks) ← openLayer l (dva + 64 * l)
        let _ ← copyOnWrite ks l (dva + 64 * l) h
        restartPoint (l + 1) []) n (layers - n) }

/-- KVCOW (07 R245). -/
def execKvcow (r : Ring) (c : Cmd) (s : State) : Outcome := rakeStep r c (kvcowJob c) s

/-! ## KVREMAP (07 R250) -/

/-- KV_STATE of a destination that is not empty. -/
def remapEmpty (dva l : Nat) : Script Unit := do
  let h ← readHead l (dva + 64 * l)
  if h.len ≠ 0 ∨ h.npfx ≠ 0 ∨ h.move then failAt causeKvState l (dva + 64 * l) else pure ()

/-- A layer's destination head, its KV space and the source head: carried on, or read. -/
def remapHeads (dva sva l : Nat) : Script (KvHead × KvSpace × KvHead) := do
  let ws ← carried
  if 24 ≤ ws.length then pure (KvHead.ofWords (ws.drop 1), KvSpace.ofWords (ws.drop 7), KvHead.ofWords (ws.drop 18))
  else do
    let (h, ks) ← openLayer l (dva + 64 * l)
    let src ← if 7 ≤ ws.length then pure (KvHead.ofWords (ws.drop 1)) else readHead l (sva + 64 * l)
    prelOf l (sva + 64 * l) src
    restartPoint l (1 :: h.words ++ ks.words ++ src.words)
    pure (h, ks, src)

/-- One source prefix slot counted for the destination, entered in its segment and committed. -/
def remapSlot (dva l : Nat) (ks : KvSpace) (src : KvHead) (h : KvHead) : Script KvHead := do
  let i := h.npfx
  if 1024 ≤ i then failAt causePfxLimit l (dva + 64 * l)
  else do
    let at_ := src.pseg + 4 * i
    let g ← getNat at_ 4
    let _ ← increment ks l g at_ false
    putBytes (h.pseg + 4 * i) (leBytes 4 g)
    let n := min src.plen (64 * (i + 1))
    let h1 ← commit l (dva + 64 * l) h { h with npfx := i + 1, plen := n, len := n }
    restartPoint l (1 :: h1.words ++ ks.words ++ src.words)
    pure h1

/-- Source slots from the destination's count on, `n` of them. -/
def remapSlots (dva l : Nat) (ks : KvSpace) (src : KvHead) : Nat → KvHead → Script KvHead
  | 0, h => pure h
  | n + 1, h => do
    let h1 ← remapSlot dva l ks src h
    remapSlots dva l ks src n h1

/-- Where the first `r` tokens of a page lie, as offsets and lengths: the K cells of each head, and the V records of the
blocks that hold one of them (11 R355). -/
def KvSpace.tokenBytes (ks : KvSpace) (r : Nat) : List (Nat × Nat) :=
  if 64 ≤ r then [(0, ks.page)]
  else
    ((List.range ks.heads).map fun h => (ks.cellAt 0 h 0, r * ks.kcell))
      ++ if 32 < r then [(ks.voff, ks.page - ks.voff)]
         else (List.range (ks.heads * ks.d)).map fun c => (ks.vrecAt 0 0 c 0, ks.vrec)

/-- The tokens of a slab page that hold positions below `toks`, copied. -/
def remapPage (ks : KvSpace) (src dst toks j : Nat) : Script Unit :=
  let rs := ks.tokenBytes (toks - 64 * j)
  forFrom (fun i =>
    let r := rs.getD i (0, 0)
    copyBytes (src + j * ks.pslot + r.1) (dst + j * ks.pslot + r.1) r.2) 0 rs.length

/-- One layer of a KVREMAP. -/
def remapLayer (slab : Bool) (dva sva l : Nat) : Script Unit := do
  let (h, ks, src) ← remapHeads dva sva l
  let h1 ← remapSlots dva l ks src (src.npfx - h.npfx) h
  if slab then
    let toks := src.len - src.plen
    if 64 * 2 ^ h1.slog < toks then failAt causeKvSlabFull l (dva + 64 * l)
    else do
      forFrom (remapPage ks src.slab h1.slab toks) 0 ((toks + 63) / 64)
      let _ ← commit l (dva + 64 * l) h1 { h1 with len := src.len }
      pure ()
  let now ← readHead l (sva + 64 * l)
  prelOf l (sva + 64 * l) now
  if now.ver ≠ src.ver then failAt causeKvRace l (sva + 64 * l)
  else restartPoint (l + 1) [1]

/-- What a KVREMAP keeps over a fault: that the destination was found empty, and the source head. -/
def remapAgain (ws : List Word) : List Word := if 24 ≤ ws.length then 2 :: (ws.drop 18) else ws

/-- The job of KVREMAP. -/
def kvremapJob (c : Cmd) : EngJob :=
  let dva := wordBits c.w1 0 56
  let sva := wordBits c.w2 0 56
  let layers := wordBits c.w3 0 8 + 1
  { bad := badBits c (w0Zero 1 0) descriptorZero descriptorZero (bitsFrom 8) [], gatedByCommit := false, gate := noGate,
    body := runScript (CmdWork.afterFault remapAgain) do
      let ws ← carried
      if ws = [] then do
        forFrom (remapEmpty dva) 0 layers
        restartPoint 0 [1]
      let n ← reached
      forFrom (remapLayer (c.w0.getLsbD 27) dva sva) n (layers - n) }

/-- KVREMAP (07 R250). -/
def execKvremap (r : Ring) (c : Cmd) (s : State) : Outcome := rakeStep r c (kvremapJob c) s

end Sys2Proof.Machine
end

