-- ==== Sys2Proof/Machine/Prefix.lean ====
section
/-!
DEFINITION. PFXWALK, PFXINS, PFXREL and PFXDIR (07 R251 to R255; 11 R367 to R372).
-/
namespace Sys2Proof.Machine

/-! ## Brine tree nodes (11 R367, R368) -/

/-- A node as a command has read it. -/
structure Node where
  va : Nat
  elen : Nat
  clog : Nat
  edge : List Nat
  pages : List Nat
  child : List Nat

/-- A node read and checked at a depth; of the root, and of PARENT, the edge and pages are not read (11 R367). -/
def readNode (ks : KvSpace) (depth va : Nat) (top : Bool) : Script Node := do
  let _ ← homeOf va
  let h ← getClean va 64
  let q (i : Nat) : Nat := fieldLE h (8 * i) 8
  let elen := q 0 % 2 ^ 7
  let clog := q 0 / 2 ^ 8 % 16
  let reserved := q 0 / 2 ^ 24 + q 0 / 2 ^ 12 % 16 + q 0 / 2 ^ 7 % 2 + (q 2 + q 3 + q 4 + q 5 + q 6 + q 7)
  if reserved ≠ 0 ∨ q 0 / 2 ^ 16 % 256 ≠ ks.layers - 1 ∨ elen = 0 ∨ 64 < elen ∨ 10 < clog then
    failAt causePfxNode depth (va % 2 ^ 64)
  else do
    let raw ← if top then pure [] else do
      let _ ← homeSpan va (va + 64) (256 + 4 * ks.layers)
      getClean (va + 64) (256 + 4 * ks.layers)
    let _ ← homeSpan va (va + childOffset ks.layers) (8 * 2 ^ clog)
    let tab ← getClean (va + childOffset ks.layers) (8 * 2 ^ clog)
    let child := numbers 8 (2 ^ clog) tab
    if child.any fun e => decide (1 < e) && (e % 64 != 0 || decide (2 ^ 56 ≤ e) || decide (elen < 64)) then
      failAt causePfxNode depth (va % 2 ^ 64)
    else
      pure { va := va, elen := elen, clog := clog, edge := numbers 4 elen raw,
             pages := numbers 4 ks.layers (raw.drop 256), child := child }

/-- The first entry of a probe (11 R368). -/
def firstProbe (clog tok : Nat) : Nat := if clog = 0 then 0 else tok * 0x9E3779B1 % 2 ^ 32 / 2 ^ (32 - clog)

/-- What a probe finds. -/
inductive Probe where
  | empty (i : Nat)
  | child (va : Nat)
  | none

/-- The probe for a token from entry `i` on (11 R368). -/
def probeFrom (nd : Node) (tok : Nat) : Nat → Nat → Script Probe
  | _, 0 => pure .none
  | i, n + 1 => do
    let e := nd.child.getD i 0
    if e = 0 then pure (.empty i)
    else do
      let hit ← if e = 1 then pure false else do
        let _ ← homeSpan e e 68
        let t ← getNat (e + 64) 4
        pure (t == tok)
      if hit then pure (.child e) else probeFrom nd tok ((i + 1) % 2 ^ nd.clog) n

def probe (nd : Node) (tok : Nat) : Script Probe := probeFrom nd tok (firstProbe nd.clog tok) (2 ^ nd.clog)

/-! ## PFXWALK (07 R251, R252) -/

/-- Where a walk stands: the tokens matched, the node and its depth, and the heads as the walk's commits left them. -/
structure Walk where
  p : Nat
  node : Nat
  depth : Nat
  heads : List KvHead

def headsOf : Nat → List Word → List KvHead
  | 0, _ => []
  | n + 1, ws => KvHead.ofWords ws :: headsOf n (ws.drop 6)

def Walk.words (w : Walk) (ks : KvSpace) : List Word :=
  [BitVec.ofNat 64 w.p, BitVec.ofNat 64 w.node, BitVec.ofNat 64 w.depth] ++ ks.words ++ w.heads.flatMap KvHead.words

/-- The descriptor of a layer. -/
def layerVa (sdva l : Nat) : Nat := (sdva + 64 * l) % 2 ^ 64

/-- A head that a walk starts from (07 R235, R251): empty, and of layer 0's KV space; it has one writer (07 R246). -/
def walkHead (ks : KvSpace) (sdva k0 l : Nat) : Script KvHead := do
  let h ← readHead l (layerVa sdva l)
  prelOk ks l (layerVa sdva l) h
  if h.ksva ≠ k0 ∨ h.len ≠ 0 ∨ h.npfx ≠ 0 then failAt causeKvState l (layerVa sdva l)
  else if h.move then failAt causeKvBusy l (layerVa sdva l)
  else pure h

/-- The start of a walk, or where its last commit left it. -/
def walkOpening (sdva : Nat) : Script (KvSpace × Walk) := do
  let ws ← carried
  if ws ≠ [] then
    let ks := KvSpace.ofWords (ws.drop 3)
    pure (ks, { p := (ws.getD 0 0).toNat, node := (ws.getD 1 0).toNat, depth := (ws.getD 2 0).toNat,
                heads := headsOf ks.layers (ws.drop 14) })
  else do
    let h0 ← readHead 0 sdva
    let ks ← readSpace 0 h0.ksva
    let hs ← mapFrom (walkHead ks sdva h0.ksva) 0 ks.layers
    let heads ← mapFrom (fun l => completeRelease ks l (layerVa sdva l) (hs.getD l h0)) 0 ks.layers
    let w : Walk := { p := 0, node := ks.tree, depth := 0, heads := heads }
    restartPoint 0 (w.words ks)
    pure (ks, w)

/-- The child that the walk goes on to: its edge matches, and the sequence has room for it. -/
def walkChild (ks : KvSpace) (w : Walk) (tokva ntok : Nat) : Script (Option Node) := do
  if ntok ≤ w.p then pure none
  else do
    let nd ← readNode ks w.depth w.node (w.depth == 0)
    let tok ← getNat (tokva + 4 * w.p) 4
    match ← probe nd tok with
    | .child e =>
      let c ← readNode ks (w.depth + 1) e false
      if ntok < w.p + c.elen ∨ 1024 ≤ w.depth then pure none
      else do
        let bs ← getClean (tokva + 4 * w.p) (4 * c.elen)
        pure (if numbers 4 c.elen bs = c.edge then some c else none)
    | _ => pure none

/-- Everything that a node will write is translated first (07 R240). -/
def walkTouch (ks : KvSpace) (sdva : Nat) (w : Walk) (c : Node) : Script Unit := do
  forFrom (fun l => do
    slotOk ks l (c.pages.getD l 0) (c.va + 320 + 4 * l)
    let _ ← homeOf (ks.rcnt + 4 * c.pages.getD l 0)
    touchBytes (ks.rcnt + 4 * c.pages.getD l 0) 4) 0 ks.layers
  forFrom (fun l => do
    match w.heads[l]? with
    | some h => touchBytes (h.pseg + 4 * h.npfx) 4
    | none => pure ()
    touchBytes (layerVa sdva l) 32) 0 ks.layers
  let _ ← readQueue ks 0
  touchBytes ks.freeq 8

/-- Conditional increments of the counts of layers `l` on: how many were made before one met a slot being freed. -/
def walkCount (ks : KvSpace) (c : Node) : Nat → Nat → Script Nat
  | l, 0 => pure l
  | l, n + 1 => do
    if ← increment ks l (c.pages.getD l 0) (c.va + 320 + 4 * l) true then walkCount ks c (l + 1) n else pure l

/-- The commit of a matched node in one layer. -/
def walkCommit (sdva : Nat) (w : Walk) (c : Node) (l : Nat) : Script KvHead := do
  match w.heads[l]? with
  | none => readHead l (layerVa sdva l)
  | some h => do
    putBytes (h.pseg + 4 * h.npfx) (leBytes 4 (c.pages.getD l 0))
    let n := w.p + c.elen
    commit l (layerVa sdva l) h { h with plen := n, len := n, npfx := h.npfx + 1 }

/-- The walk from where it stands. -/
def walkLoop (ks : KvSpace) (sdva tokva ntok : Nat) : Nat → Walk → Script Walk
  | 0, w => pure w
  | fuel + 1, w => do
    match ← walkChild ks w tokva ntok with
    | none => pure w
    | some c => do
      walkTouch ks sdva w c
      let n ← walkCount ks c 0 ks.layers
      if n < ks.layers then do
        forFrom (fun l => decrement ks l (c.pages.getD l 0) (c.va + 320 + 4 * l)) 0 n
        pure w
      else do
        let heads ← mapFrom (walkCommit sdva w c) 0 ks.layers
        let w1 : Walk := { p := w.p + c.elen, node := c.va, depth := w.depth + 1, heads := heads }
        restartPoint (w.depth + 1) (w1.words ks)
        if c.elen < 64 then pure w1 else walkLoop ks sdva tokva ntok fuel w1

/-- The job of PFXWALK. -/
def pfxwalkJob (c : Cmd) : EngJob :=
  let ntok := wordBits c.w0 32 32
  let sdva := wordBits c.w2 0 56
  let rva := wordBits c.w3 0 56
  { bad := badBits c (w0Zero 0 (2 ^ 32 - 1)) (bitsFrom 56 + 3) descriptorZero (bitsFrom 56 + 15) [(ntok == 0, 32)],
    gatedByCommit := true, gate := noGate,
    body := runScript (fun _ w => w.reread id) do
      let (ks, w) ← walkOpening sdva
      let x ← walkLoop ks sdva (wordBits c.w1 0 56) ntok 1025 w
      putBytes rva (leBytes 8 x.p ++ leBytes 8 x.node) }

/-- PFXWALK (07 R251, R252). -/
def execPfxwalk (r : Ring) (c : Cmd) (s : State) : Outcome := rakeStep r c (pfxwalkJob c) s

/-! ## PFXINS (07 R253, 11 R369) -/

/-- An insertion record. -/
structure Insertion where
  parent : Nat
  tok0 : Nat
  ne : Nat
  tail : Nat
  tokva : Nat
  nodeva : Nat
  slotva : Nat

def Insertion.ofBytes (bs : List Byte) : Insertion :=
  { parent := fieldLE bs 0 8, tok0 := fieldLE bs 8 4, ne := fieldLE bs 12 2, tail := fieldLE bs 14 2,
    tokva := fieldLE bs 16 8, nodeva := fieldLE bs 24 8, slotva := fieldLE bs 32 8 }

/-- The bits of an insertion record that fail (07 R253). -/
def insertionBad (bs : List Byte) : List Nat :=
  let q (i : Nat) : Nat := fieldLE bs (8 * i) 8
  let r := Insertion.ofBytes bs
  lowBits 0 (q 0 &&& descriptorZero) ++ lowBits 64 (r.tok0 &&& 63)
    ++ (if r.ne = 0 ∨ 1024 < r.ne then [96] else []) ++ (if r.tail = 0 ∨ 64 < r.tail then [112] else [])
    ++ lowBits 128 (q 2 &&& (bitsFrom 56 + 3)) ++ lowBits 192 (q 3 &&& (bitsFrom 56 + 7))
    ++ lowBits 256 (q 4 &&& (bitsFrom 56 + 3)) ++ lowBits 320 (q 5) ++ lowBits 384 (q 6) ++ lowBits 448 (q 7)

/-- A layer's head, checked against the record (07 R235, R253). -/
def insertHead (ks : KvSpace) (sdva k0 last l : Nat) : Script KvHead := do
  let h ← readHead l (layerVa sdva l)
  prelOk ks l (layerVa sdva l) h
  if h.ksva ≠ k0 ∨ h.len < last then failAt causeKvState l (layerVa sdva l) else pure h

/-- The page that holds a position, copied into a slot. -/
def insertPage (ks : KvSpace) (l : Nat) (h : KvHead) (pos slot : Nat) : Script Unit := do
  let src ← pageOf ks l h pos
  copyBytes src (ks.pool + slot * ks.pslot) ks.page

/-- The bytes of a new node (11 R369). -/
def nodeImage (ks : KvSpace) (elen par : Nat) (toks pages : List Nat) (next : Option (Nat × Nat)) : List Byte :=
  let tab :=
    match next with
    | some (tok, va) => (List.replicate 8 0).set (firstProbe 3 tok) va
    | none => List.replicate 8 0
  let fixed (n : Nat) (xs : List Nat) : List Byte := (xs.flatMap (leBytes 4)) ++ List.replicate (n - 4 * xs.length) 0
  leBytes 8 (elen + 3 * 2 ^ 8 + (ks.layers - 1) * 2 ^ 16) ++ leBytes 8 par ++ List.replicate 48 0
    ++ fixed 256 toks ++ fixed (childOffset ks.layers - 320) pages ++ tab.flatMap (leBytes 8)

/-- New node `e`, written. -/
def insertNode (ks : KvSpace) (r : Insertion) (nodes slots : List Nat) (e : Nat) : Script Unit := do
  let elen := if e + 1 < r.ne then 64 else r.tail
  let at_ := r.tokva + 4 * (r.tok0 + 64 * e)
  let bs ← getClean at_ (4 * elen)
  let next ← if e + 1 < r.ne then do
      let t ← getNat (at_ + 256) 4
      pure (some (t, nodes.getD (e + 1) 0))
    else pure none
  putBytes (nodes.getD e 0)
    (nodeImage ks elen (if e = 0 then r.parent else nodes.getD (e - 1) 0) (numbers 4 elen bs)
      ((slots.drop (e * ks.layers)).take ks.layers) next)

/-- The link of node 0 into PARENT (07 R253, 11 R368). -/
def insertLink (ks : KvSpace) (r : Insertion) (n0 : Nat) : Script Unit := do
  let tok ← getNat (r.tokva + 4 * r.tok0) 4
  let nd ← readNode ks (r.tok0 / 64) r.parent true
  match ← probe nd tok with
  | .child e => if e = n0 then pure () else failAt causePfxLink 0 r.parent
  | .none => failAt causePfxLink 0 r.parent
  | .empty i => do
    let va := r.parent + childOffset ks.layers + 8 * i
    let _ ← homeOf va
    touchBytes va 8
    allPerformed
    let old ← changeWord va 8 fun v => if v = 0 then some n0 else none
    if old = 0 ∨ old = n0 then pure () else failAt causePfxLink 0 (va % 2 ^ 64)

/-- The course of a PFXINS (07 R253). -/
def insertCourse (irva sdva : Nat) : Script Unit := do
  let bs ← getClean irva 64
  match lowest (insertionBad bs) with
  | some b => failAt causeCmdField (256 + b) 0
  | none => do
    let r := Insertion.ofBytes bs
    let nb ← getClean r.nodeva (8 * r.ne)
    let nodes := numbers 8 r.ne nb
    if nodes.any fun a => a % 64 != 0 || decide (2 ^ 56 ≤ a) then failAt causeCmdField (256 + 192) 0
    else do
      let h0 ← readHead 0 sdva
      let ks ← readSpace 0 h0.ksva
      let heads ← mapFrom (insertHead ks sdva h0.ksva (r.tok0 + 64 * (r.ne - 1) + r.tail)) 0 ks.layers
      let nd ← readNode ks (r.tok0 / 64) r.parent true
      if nd.elen < 64 then failAt causePfxNode (r.tok0 / 64) r.parent
      else do
        forFrom (fun e => do
          let _ ← homeSpan (nodes.getD e 0) (nodes.getD e 0) (childOffset ks.layers + 64)
          pure ()) 0 r.ne
        let sb ← getClean r.slotva (4 * (r.ne * ks.layers))
        let slots := numbers 4 (r.ne * ks.layers) sb
        forFrom (fun i => do
          slotOk ks (i % ks.layers) (slots.getD i 0) (r.slotva + 4 * i)
          let _ ← homeOf (ks.rcnt + 4 * slots.getD i 0)
          pure ()) 0 slots.length
        forFrom (fun e => forFrom (fun l =>
          insertPage ks l (heads.getD l h0) (r.tok0 + 64 * e) (slots.getD (e * ks.layers + l) 0)) 0 ks.layers) 0 r.ne
        forFrom (insertNode ks r nodes slots) 0 r.ne
        forFrom (fun i => putBytes (ks.rcnt + 4 * slots.getD i 0) (leBytes 4 1)) 0 slots.length
        insertLink ks r (nodes.getD 0 0)

/-- The job of PFXINS. -/
def pfxinsJob (c : Cmd) : EngJob :=
  { bad := badBits c (w0Zero 0 0) (bitsFrom 56 + 15) descriptorZero allBits [], gatedByCommit := false, gate := noGate,
    body := runScript (fun _ w => { w with words := [], log := [], progress := 0 })
      (insertCourse (wordBits c.w1 0 56) (wordBits c.w2 0 56)) }

/-- PFXINS (07 R253): RESTART runs it from its start (07 R240). -/
def execPfxins (r : Ring) (c : Cmd) (s : State) : Outcome := rakeStep r c (pfxinsJob c) s

/-! ## PFXREL (07 R254) -/

/-- A layer's head and KV space: carried on; read again after a fault; or opened, with LEN and PLEN committed as 0. -/
def releaseOpening (dva l : Nat) : Script (KvHead × KvSpace) := do
  let ws ← carried
  if 18 ≤ ws.length then pure (KvHead.ofWords (ws.drop 1), KvSpace.ofWords (ws.drop 7))
  else do
    let (h, ks) ← openLayer l dva
    let h1 ← if ws = [] then commit l dva h { h with len := 0, plen := 0 } else pure h
    restartPoint l (1 :: h1.words ++ ks.words)
    pure (h1, ks)

/-- The prefix slots of a layer released from the last down. -/
def releaseSlots (dva l : Nat) (ks : KvSpace) : Nat → KvHead → Script Unit
  | 0, _ => pure ()
  | i + 1, h => do
    let at_ := h.pseg + 4 * i
    let g ← getNat at_ 4
    touchBytes dva 32
    decrement ks l g at_
    let h1 ← commit l dva h { h with npfx := i }
    restartPoint l (1 :: h1.words ++ ks.words)
    releaseSlots dva l ks i h1

/-- The job of PFXREL with LIST = 0. -/
def pfxrelSequenceJob (c : Cmd) : EngJob :=
  let sdva := wordBits c.w1 0 56
  let layers := wordBits c.w3 0 8 + 1
  { bad := badBits c (w0Zero 1 0) descriptorZero allBits (bitsFrom 8) [], gatedByCommit := false, gate := noGate,
    body := runScript (CmdWork.afterFault (List.take 1)) do
      let n ← reached
      forFrom (fun l => do
        let (h, ks) ← releaseOpening (layerVa sdva l) l
        releaseSlots (layerVa sdva l) l ks h.npfx h
        restartPoint (l + 1) []) n (layers - n) }

/-- PFXREL with LIST = 0 (07 R254). -/
def execPfxrelSequence (r : Ring) (c : Cmd) (s : State) : Outcome := rakeStep r c (pfxrelSequenceJob c) s

/-- The job of PFXREL with LIST = 1. -/
def pfxrelListJob (c : Cmd) : EngJob :=
  let lva := wordBits c.w1 0 56
  let n := wordBits c.w0 32 32
  { bad := badBits c (w0Zero 1 (2 ^ 32 - 1)) (bitsFrom 56 + 3) descriptorZero allBits [(n == 0 || decide (4096 < n), 32)],
    gatedByCommit := false, gate := noGate,
    body := runScript (fun _ w => w.reread fun _ => []) do
      let ws ← carried
      let i ← reached
      let ks ← if ws ≠ [] then pure (KvSpace.ofWords ws) else do
        let x ← readSpace 0 (wordBits c.w2 0 56)
        restartPoint i x.words
        pure x
      forFrom (fun j => do
        let g ← getNat (lva + 4 * j) 4
        decrement ks 0 g (lva + 4 * j)
        restartPoint (j + 1) ks.words) i (n - i) }

/-- PFXREL with LIST = 1 (07 R254). -/
def execPfxrelList (r : Ring) (c : Cmd) (s : State) : Outcome := rakeStep r c (pfxrelListJob c) s

/-! ## PFXDIR (07 R255, 11 R371) -/

/-- A field of a number set. -/
def setField (n lo w v : Nat) : Nat := n - n / 2 ^ lo % 2 ^ w * 2 ^ lo + v % 2 ^ w * 2 ^ lo

/-- STATE, HOLDER and READERS of a directory entry. -/
def dirState (e : Nat) : Nat := e % 4
def dirHolder (e : Nat) : Nat := e / 2 ^ 4 % 16
def dirReaders (e : Nat) : Nat := e / 2 ^ 16 % 2 ^ 16

/-- A changed entry has the next SEQ (11 R371). -/
def dirChanged (old new : Nat) : Nat :=
  if old = new then old else setField new 160 16 (old / 2 ^ 160 % 2 ^ 16 + 1)

/-- CLAIM: the new entry, if the transition is defined (07 R255). -/
def dirClaim (dev asid hpages bpos elen e : Nat) : Option Nat :=
  if dirState e ≠ 0 then none
  else
    let e1 := setField (setField (setField (setField (setField e 0 2 1) 4 4 dev) 16 16 0) 32 7 elen) 48 16 asid
    some (dirChanged e (setField (setField e1 64 56 hpages) 128 32 bpos))

/-- SHARE. -/
def dirShare (dev e : Nat) : Option Nat :=
  if dirState e ≠ 1 ∧ dirState e ≠ 2 then none
  else if dirHolder e = dev then some e
  else some (dirChanged e (setField (setField e 0 2 2) 16 16 (dirReaders e ||| 2 ^ dev)))

/-- DROP: by the holder, or by a reader whose bit is set. -/
def dirDrop (dev e : Nat) : Option Nat :=
  if dirState e ≠ 1 ∧ dirState e ≠ 2 then none
  else if dirHolder e = dev then some (dirChanged e (setField (setField (setField e 0 2 0) 4 4 0) 16 16 0))
  else if dirState e = 2 ∧ (dirReaders e).testBit dev then
    let left := dirReaders e - 2 ^ dev
    some (dirChanged e (setField (setField e 0 2 (if left = 0 then 1 else 2)) 16 16 left))
  else none

/-- KV_REGION unless the entry lies in a pool region of mode BI with an atomic home (07 R238, 11 R371). -/
def dirPlace (va : Nat) : Script Unit := fun x =>
  match x.s.rangeBy x.k.plain .read va 32 with
  | (s1, .error h) => .error (s1.hitchStop x.k .read va x.cursor h)
  | (s1, .ok ps) =>
    let y := { x with s := s1 }
    match ps.head? with
    | some p => if residency p.pa == 2 && s1.atomicHome p.pa p.leaf then .ok ((), y) else failAt causeKvRegion (residency p.pa) va y
    | none => .ok ((), y)

/-- This device's number, from PONDID (07 R255). -/
def State.pondDev (s : State) : Nat := (s.ctx.ctl.pondid.extractLsb' 60 4).toNat

/-- An ATTNR that this device serves on the entry at a virtual address (07 R257), which its request names by its physical one. -/
def State.servesEntry (s : State) (k : CmdRec) (va : Nat) : Bool :=
  match s.rangeBy k.plain .read va 32 with
  | (_, .ok (p :: _)) => s.dev.serves.any fun v => fieldLE v.payload 16 8 == p.pa
  | _ => false

/-- The change of an entry. A DROP by the holder waits for the ATTNRs that it serves on the entry (07 R255). -/
def dirChange (va op : Nat) (f : Nat → Option Nat) (s : State) (k : CmdRec) (cur : List (BitVec 32)) :
    Except EngStop (State × Bool × List Nat) :=
  match changeHere va 32 f s k cur with
  | .ok (s1, changed, r) =>
    if changed && op == 2 && dirHolder (r.headD 0) == s.pondDev && s.servesEntry k va then .error (.wait s) else .ok (s1, changed, r)
  | x => x

/-- PFXDIR with a transition and its OP. -/
def dirCourse (va op : Nat) (f : Nat → Option Nat) : Script Unit := do
  dirPlace va
  let r ← attempt (dirChange va op f)
  let e := r.headD 0
  if (f e).isNone then failAt causePfxDir (dirState e * 4 + op) va else pure ()

/-- A PFXDIR. -/
def dirJob (c : Cmd) (op z2 z3 : Nat) (limits : List (Bool × Nat)) (f : State → Nat → Option Nat) : EngJob :=
  { bad := badBits c (w0Zero 0 3) (bitsFrom 56 + bitsUpTo 4) z2 z3 ((wordBits c.w0 24 3 != 4, 24) :: limits),
    gatedByCommit := false, gate := noGate,
    body := fun s k =>
      runScript (fun _ w => { w with words := [], log := [] }) (dirCourse (wordBits c.w1 0 56) op (f s)) s k }

/-- The job of PFXDIR CLAIM: HPAGES is kept at whatever alignment it has (log entry 77). -/
def pfxdirClaimJob (c : Cmd) : EngJob :=
  let elen := wordBits c.w3 32 7
  (dirJob c 0 (bitsFrom 56) (bitsFrom 39 + bitsUpTo 5) [(elen == 0 || decide (64 < elen), 224)] fun s =>
    dirClaim s.pondDev s.ctx.asid.toNat (wordBits c.w2 0 56) (wordBits c.w3 0 32) elen)

/-- PFXDIR CLAIM (07 R255, 11 R371). -/
def execPfxdirClaim (r : Ring) (c : Cmd) (s : State) : Outcome := rakeStep r c (pfxdirClaimJob c) s

/-- The job of PFXDIR SHARE. -/
def pfxdirShareJob (c : Cmd) : EngJob :=
  (dirJob c 1 allBits allBits [] fun s => dirShare s.pondDev)

/-- PFXDIR SHARE (07 R255). -/
def execPfxdirShare (r : Ring) (c : Cmd) (s : State) : Outcome := rakeStep r c (pfxdirShareJob c) s

/-- The job of PFXDIR DROP. -/
def pfxdirDropJob (c : Cmd) : EngJob :=
  (dirJob c 2 allBits allBits [] fun s => dirDrop s.pondDev)

/-- PFXDIR DROP (07 R255). -/
def execPfxdirDrop (r : Ring) (c : Cmd) (s : State) : Outcome := rakeStep r c (pfxdirDropJob c) s

end Sys2Proof.Machine
end

