-- ==== Sys2Proof/Machine/Sluice.lean ====
section
/-!
DEFINITION. The sluice's queues (12 R379 to R383), packets and their parse (12 R384 to R389), admission (12 R392), buffer
handles (12 R399 to R401), batching (12 R402 to R404), continuation signals (08 R274) and completion (12 R387, R388).
-/
namespace Sys2Proof.Machine

/-! ## Queue descriptors (12 R379) -/

/-- A queue descriptor as read. -/
structure QDesc where
  kick : BitVec 64
  ridx : BitVec 64
  ring : Nat
  asid : BitVec 16
  msiv : BitVec 12
  part : Nat
  en : Bool
  kpriv : Bool
  smin : Nat
  log : Nat
  root : Nat
  valid : Bool
  deriving DecidableEq, Repr

/-- The address of packet i (12 R380). -/
def QDesc.slotVa (d : QDesc) (i : BitVec 64) : Nat := d.ring + 128 * (i.toNat % 2 ^ d.log)

/-- The address of descriptor q, and one of its doublewords. -/
def Device.queuePa (d : Device) (q : Nat) : Nat := d.cfg.qtbase.toNat + 64 * q
def Device.queueDw (d : Device) (q k : Nat) : BitVec 64 := BitVec.ofNat 64 (leNat (d.viewBytes 0 (d.queuePa q + 8 * k) 8))

/-- A partition that is formed (12 R383). -/
def State.partFormed (s : State) (p : Nat) : Bool := s.allClus.any fun c => c.part == some p

/-- Descriptor q: invalid as R383 lists, bits 6:0 of ROOT counting as reserved (10 R340; log entry 59). -/
def State.queueDesc (s : State) (q : Nat) : QDesc :=
  let dw := s.dev.queueDw q
  let w3 := dw 3
  let part := (w3.extractLsb' 8 4).toNat
  let smin := (w3.extractLsb' 4 2).toNat
  let log := (w3.extractLsb' 0 4).toNat
  let root := ((dw 4).extractLsb' 0 52).toNat
  let rsv := (dw 2).extractLsb' 56 8 == 0 && w3.extractLsb' 48 16 == 0 && w3.extractLsb' 28 4 == 0
    && w3.extractLsb' 12 4 == 0 && (dw 4).extractLsb' 52 12 == 0 && (dw 4).extractLsb' 0 7 == 0
    && (dw 5).extractLsb' 3 61 == 0 && dw 6 == 0 && dw 7 == 0
  { kick := dw 0, ridx := dw 1, ring := ((dw 2).extractLsb' 0 56).toNat, asid := w3.extractLsb' 32 16,
    msiv := w3.extractLsb' 16 12, part := part, en := w3.getLsbD 7, kpriv := w3.getLsbD 6, smin := smin, log := log,
    root := root,
    valid := decide (4 ≤ log) && decide (log ≤ 12) && smin != 3 && s.partFormed part && rsv
      && decide (root < 2 ^ 39) }

/-- Bytes of a descriptor written. -/
def State.writeQueue (s : State) (q off : Nat) (bs : List Byte) : State :=
  { s with dev := s.dev.writeSpan s.cap 0 false 2 (s.dev.queuePa q + off) bs }

/-! ## Queue states (12 R383) -/

def QState.code : QState → Nat
  | .disabled => 0
  | .idle => 1
  | .bound => 2
  | .broken => 3

def Sluice.queue (sl : Sluice) (q : Nat) : Queue :=
  match sl.queues.find? fun x => x.q == q with
  | some x => x
  | none => { q := q, state := .disabled, next := 0, held := [], done := [] }

def State.sluice (s : State) (f : Sluice → Sluice) : State := { s with dev := { s.dev with sluice := f s.dev.sluice } }

/-- A queue's record replaced; one that is DISABLED with nothing held is not listed. -/
def Sluice.setQueue (sl : Sluice) (x : Queue) : Sluice :=
  let others := sl.queues.filter fun y => y.q != x.q
  { sl with queues := if x.state == .disabled && x.held.isEmpty && x.done.isEmpty then others else x :: others }

/-- A queue moves to a state, which the sluice writes to STATE. -/
def State.setQueueState (s : State) (q : Nat) (st : QState) : State :=
  let s1 := s.sluice fun sl => sl.setQueue { sl.queue q with state := st }
  s1.writeQueue q 40 [BitVec.ofNat 8 ((s1.dev.queueDw q 5).toNat % 256 / 8 * 8 + st.code)]

/-- Entries of the heap (12 R390): launches that wait in it or have groups to start, and continuations. -/
def Member.groups (m : Member) : Nat := (m.pkt.n.toNat + m.pkt.gm1) / (m.pkt.gm1 + 1)
def Launch.groups (l : Launch) : Nat := (l.members.map Member.groups).sum
def Launch.inHeap (l : Launch) : Bool := l.phase == .heap || l.phase == .prologue
def Sluice.heapCount (sl : Sluice) : Nat := (sl.launches.filter Launch.inHeap).length + (sl.conts.filter (·.inHeap)).length

/-- The row that parses the next slot of a bound queue, put on the agenda if there is a slot to parse (12 R380). -/
def State.parseNext (s : State) (q : Nat) : State :=
  let x := s.dev.sluice.queue q
  let d := s.queueDesc q
  if x.state != .bound || d.kick ≤ x.next || decide (256 ≤ s.dev.sluice.heapCount) then s
  else
    match s.readSlotAt d.asid d.root (d.slotVa x.next) 128 with
    | (s1, .error .wait) => s1.sluiceWait (.kickReport q)
    | (s1, .error _) => s1
    | (s1, .ok (bs, p)) =>
      let t := (bs.getD 0 0).toNat
      if p then s1.later (.packetLaunch q)
      else
        match t with
        | 0 => s1.dropReads
        | 2 => s1.later (.packetResume q)
        | 3 => s1.later (.packetShootdown q)
        | 4 => s1.later (.packetNop q)
        | _ => s1.later (.packetLaunch q)

/-- A slot is bound to a queue: parsing starts at RIDX. -/
def State.bindQueue (s : State) (q : Nat) : State :=
  let d := s.queueDesc q
  let s1 := s.sluice fun sl =>
    { sl.setQueue { sl.queue q with next := d.ridx } with bindList := sl.bindList.filter (· != q) }
  (s1.dropReads.setQueueState q .bound).parseNext q

/-- Slots in use. -/
def Sluice.boundCount (sl : Sluice) : Nat := (sl.queues.filter fun x => x.state == .bound).length

/-- An IDLE queue with packets takes a slot, or joins the bind list. -/
def State.tryBind (s : State) (q : Nat) : State :=
  let sl := s.dev.sluice
  if sl.boundCount < 64 && (sl.bindList.isEmpty || sl.bindList.head? == some q) then s.bindQueue q
  else if sl.bindList.contains q then s
  else s.sluice fun x => { x with bindList := x.bindList ++ [q] }

/-- A free slot goes to the oldest queue of the bind list. -/
def State.grantSlot (s : State) : State :=
  match s.dev.sluice.bindList with
  | [] => s
  | q :: _ => if s.dev.sluice.boundCount < 64 then s.bindQueue q else s

/-- One queue's scan (12 R382, R383). -/
def State.scanQueue (s : State) (q : Nat) : State :=
  let d := s.queueDesc q
  match (s.dev.sluice.queue q).state with
  | .disabled => if d.en then s.setQueueState q (if d.valid then .idle else .broken) else s
  | .broken => if !d.en then s.setQueueState q .disabled else if d.valid then s.setQueueState q .idle else s
  | .idle =>
    if !d.en then (s.setQueueState q .disabled).sluice fun sl => { sl with bindList := sl.bindList.filter (· != q) }
    else if d.ridx < d.kick then s.tryBind q
    else s
  | .bound => if !d.en then (s.setQueueState q .disabled).grantSlot else s.parseNext q

/-- DOORBELL (12 R381): KICK raised by unsigned maximum. -/
def execDoorbell (q : Nat) (v : BitVec 64) (s : State) : Outcome :=
  if s.dev.state != .ready || 4096 ≤ q then .next s
  else if (s.queueDesc q).kick < v then .next ((s.writeQueue q 0 (leBytes 8 v.toNat)).reportKick (s.dev.queuePa q))
  else .next s

/-- QUEUE_SCAN (12 R382): every queue that is not bound, in order; a bound one is looked at for EN. A scan that changes a
queue has another behind it; one that comes while the pair restarts waits (13 R429). -/
def execQueueScan (s : State) : Outcome :=
  if s.dev.state != .ready then .next s
  else if s.dev.sluice.stopped then .next (s.sluiceWait .queueScan)
  else
    let s1 := (List.range 4096).foldl State.scanQueue s
    .next (if s1.dev.sluice.queues == s.dev.sluice.queues then s1 else s1.later .queueScan)

/-- QUEUE_IDLE_TIMEOUT (12 R383): the slot goes to the bind list, and KICK is read again. -/
def execQueueIdleTimeout (q : Nat) (s : State) : Outcome :=
  let x := s.dev.sluice.queue q
  let d := s.queueDesc q
  if x.state == .bound && d.kick == d.ridx && x.held.isEmpty && !s.dev.sluice.bindList.isEmpty && !s.dev.sluice.stopped then
    .next (((s.setQueueState q .idle).grantSlot).scanQueue q)
  else .next s

/-! ## Slots -/

/-- RIDX passes every slot that has been parsed and that no prologue holds, in index order; each gets TYPE 0 first. The write
waits while the slot's page is migrating (12 R380, 10 R351). -/
def State.passSlots (s : State) (q : Nat) : Nat → State
  | 0 => s
  | fuel + 1 =>
    let x := s.dev.sluice.queue q
    let d := s.queueDesc q
    if !x.done.contains d.ridx then s
    else if s.sluiceStalls d.asid d.root (d.slotVa d.ridx) .write then s.sluiceWait (.kickReport q)
    else
      let s1 := s.writeSlotAt d.asid d.root (d.slotVa d.ridx) [0]
      let s2 := s1.writeQueue q 8 (leBytes 8 (d.ridx + 1).toNat)
      (s2.sluice fun sl => sl.setQueue { x with done := x.done.filter (· != d.ridx) }).passSlots q fuel

/-- KICK_REPORT (12 R382): slots that may be passed are, and the next one is parsed. -/
def execKickReport (q : Nat) (s : State) : Outcome :=
  .next (if s.dev.sluice.stopped then s.sluiceWait (.kickReport q) else (s.passSlots q 4096).parseNext q)

/-- The slot just parsed, at `next`, is passed, or held for a prologue. -/
def State.slotParsed (s : State) (q : Nat) (held : Bool) : State :=
  let s1 := s.sluice fun sl =>
    let x := sl.queue q
    sl.setQueue (if held then { x with next := x.next + 1, held := x.held ++ [x.next] }
                 else { x with next := x.next + 1, done := x.done ++ [x.next] })
  (s1.dropReads.passSlots q 4096).parseNext q

/-- A held slot is let go. -/
def State.releaseSlot (s : State) (q : Nat) (slot : BitVec 64) : State :=
  let x := s.dev.sluice.queue q
  if x.held.contains slot then
    (s.sluice fun sl => sl.setQueue { x with held := x.held.filter (· != slot), done := x.done ++ [slot] }).passSlots q 4096
  else s

/-! ## Buffer handles (12 R399 to R401) -/

/-- A buffer handle's descriptor. -/
structure BufDesc where
  va : Nat
  len : Nat
  asid : BitVec 16
  wb : Bool
  inv : Bool
  host : Bool
  deriving DecidableEq, Repr

/-- Handle h, if it is valid (12 R399). -/
def Device.bufDesc (d : Device) (h : Nat) : Option BufDesc :=
  let dw (k : Nat) : BitVec 64 := BitVec.ofNat 64 (leNat (d.viewBytes 0 (d.cfg.bhbase.toNat + 32 * h + 8 * k) 8))
  let len := (dw 1).toNat
  if (dw 2).getLsbD 19 && len != 0 && len % 128 == 0 && (dw 0).extractLsb' 56 8 == 0 && (dw 2).extractLsb' 20 44 == 0
      && dw 3 == 0 then
    some { va := (dw 0).toNat, len := len, asid := (dw 2).extractLsb' 0 16, wb := (dw 2).getLsbD 16,
           inv := (dw 2).getLsbD 17, host := (dw 2).getLsbD 18 }
  else none

def useHandle (u : BitVec 16) : Nat := (u.extractLsb' 0 12).toNat
def useReads (u : BitVec 16) : Bool := u.getLsbD 14
def useWrites (u : BitVec 16) : Bool := u.getLsbD 15

def Sluice.handle (sl : Sluice) (h : Nat) : HandleUse :=
  match sl.handles.find? fun x => x.bh == h with
  | some x => x
  | none => { bh := h, writer := none, readers := [] }

def Sluice.setHandle (sl : Sluice) (x : HandleUse) : Sluice :=
  { sl with handles := x :: sl.handles.filter fun y => y.bh != x.bh }

/-- One use registered (12 R400): the identifiers of the launches it depends on are added. -/
def Sluice.registerUse (sl : Sluice) (m : Member) (u : BitVec 16) : Sluice × Member :=
  let h := sl.handle (useHandle u)
  let me := m.lid.toNat
  let w := h.writer.toList
  let new := (if useReads u then w else []) ++ (if useWrites u then w ++ h.readers else [])
  let others := new.filter (· != me)
  let m1 := { m with deps := m.deps ++ others.filter (fun x => !m.deps.contains x),
                     inDep := if others.isEmpty then m.inDep else h.bh :: m.inDep }
  let h1 := if useWrites u then { h with writer := some me, readers := [] } else { h with readers := h.readers ++ [me] }
  (sl.setHandle h1, m1)

/-- A packet's uses registered in order. -/
def Sluice.registerUses (sl : Sluice) (m : Member) : Sluice × Member :=
  m.pkt.bufs.foldl (fun x u => x.1.registerUse x.2 u) (sl, m)

/-- A completed launch releases its uses (12 R400). -/
def Sluice.releaseUses (sl : Sluice) (lid : Nat) : Sluice :=
  { sl with
    handles := (sl.handles.map fun h => { h with writer := if h.writer == some lid then none else h.writer,
                                                 readers := h.readers.filter (· != lid) }).filter fun h =>
                 h.writer.isSome || !h.readers.isEmpty,
    launches := sl.launches.map fun l => { l with members := l.members.map fun m =>
                  { m with deps := m.deps.filter (· != lid) } } }

/-- The top node of an address space that a launch or an enabled queue uses. -/
def State.rootOf (s : State) (asid : BitVec 16) : Option Nat :=
  match s.dev.sluice.launches.find? fun l => l.asid == asid with
  | some l => some l.root
  | none => ((s.dev.sluice.queues.map fun x => s.queueDesc x.q).find? fun d => d.asid == asid).map (·.root)

/-- An action on a handle's range (12 R401): write back, with or without invalidation. -/
def State.bufAction (s : State) (b : BufDesc) (inval : Bool) : State :=
  match s.rootOf b.asid with
  | none => s
  | some root => s.overPages b.asid root (if inval then Device.flushSpan else Device.cleanSpan) (b.len / 2 ^ 16 + 2) b.va b.len

/-- The ranges on which a use asks for an action: before its launch starts, and after its writer completes (12 R401). -/
def State.bufBefore (s : State) (m : Member) (u : BitVec 16) : Option BufDesc :=
  (s.dev.bufDesc (useHandle u)).filter fun b => b.host || (b.inv && m.inDep.contains (useHandle u))
def State.bufAfter (s : State) (u : BitVec 16) : Option BufDesc := (s.dev.bufDesc (useHandle u)).filter fun b => useWrites u && b.wb

/-- The actions before a launch that declares handles starts (12 R401). -/
def State.actionsBefore (s : State) (m : Member) : State :=
  m.pkt.bufs.foldl (fun x u => (x.bufBefore m u).elim x fun b => x.bufAction b true) s

/-- The actions after a writer completes (12 R401). -/
def State.actionsAfter (s : State) (m : Member) : State :=
  m.pkt.bufs.foldl (fun x u => (x.bufAfter u).elim x fun b => x.bufAction b false) s

/-- An action on a handle's range has to wait (10 R343, 14 R447). -/
def State.bufWaits (s : State) (b : BufDesc) : Bool :=
  match s.rootOf b.asid with
  | none => false
  | some root => s.pagesWait b.asid root (b.len / 2 ^ 16 + 2) b.va b.len

/-- The actions before a launch starts, or after it completes, have to wait. -/
def State.beforeWaits (s : State) (m : Member) : Bool := m.pkt.bufs.any fun u => (s.bufBefore m u).any s.bufWaits
def State.afterWaits (s : State) (p : Packet) : Bool := p.bufs.any fun u => (s.bufAfter u).any s.bufWaits

/-! ## Continuation signals (08 R274) -/

/-- Entries waiting for the heap enter it, oldest first, while there is room (12 R390). -/
def Sluice.promote (sl : Sluice) : Nat → Sluice
  | 0 => sl
  | fuel + 1 =>
    if 256 ≤ sl.heapCount then sl
    else
      let ls := (sl.launches.filter fun l => l.phase == .waiting).map (·.stamp)
      let cs := (sl.conts.filter fun c => c.handed && !c.inHeap).map (·.order)
      match (ls ++ cs).min? with
      | none => sl
      | some k =>
        Sluice.promote
          { sl with
            launches := sl.launches.map fun l => if l.phase == .waiting && l.stamp == k then { l with phase := .heap } else l,
            conts := sl.conts.map fun c => if c.handed && c.order == k then { c with inHeap := true } else c } fuel

/-- A continuation handed over for enqueue. -/
def Sluice.handOver (sl : Sluice) (c : Cont) : Sluice :=
  { sl with orderNext := sl.orderNext + 1,
            conts := sl.conts.map fun x => if x == c then { x with handed := true, order := sl.orderNext } else x }.promote 1

/-- Where an address of an address space lies, as a walk finds it. -/
def State.physAt (s : State) (root va : Nat) : Option Nat :=
  match s.dev.walk s.allClus va root [4, 3, 2, 1, 0] with
  | .leaf lvl e _ => some (leafFrame e lvl + va % 2 ^ pageShift lvl)
  | _ => none

/-- The continuation whose record lies at a physical address: the signaller may name it in another address space, or by
another address (08 R274). -/
def State.contAt (s : State) (pa : Nat) : Option Cont :=
  s.dev.sluice.conts.find? fun c => !c.handed
    && ((s.dev.sluice.launch? c.launch).bind fun l => s.physAt l.root c.record.toNat) == some pa

/-- The WAIT of a record has been found `old` and decremented: at zero with ARMED = 1 the record is handed over (08 R274). -/
def State.signalled (s : State) (pa old : Nat) : State :=
  if old % 2 ^ 33 ≠ 2 ^ 32 + 1 then s
  else
    match s.contAt pa with
    | some c => (s.sluice fun sl => sl.handOver c).later .dispatch
    | none => s

/-- The decrement of a record that a peer holds, by a compare and swap from the value last found, 0 at first (08 R274, 14 R448).
With the answer that ends it still kept: whether it is there. `kind` says who asks: 1 a RESUME, 2 a completion. -/
def State.signalAsk (s : State) (pa : Nat) (kind : Nat := 1) : State × Bool :=
  let ask (x : State) (v : Nat) : State :=
    x.sluiceAsk kind pa (BitVec.ofNat 64 v) { gBlank with
      type := gAtom, ret := true, op := AtomOp.cas.code, size := 3, len := 16,
      payload := leBytes 8 v ++ leBytes 8 (if v % 2 ^ 32 = 0 then v else v - 1) }
  if s.dev.peerGone (peerOf pa) then (s, true)
  else
    match s.dev.sluice.peer.find? fun w => w.kind == kind && w.key == pa with
    | none => (ask s 0, false)
    | some w =>
      match w.data with
      | none => (s, false)
      | some bs =>
        let v := leNat bs
        if w.status != 0 || bs.length != 8 || v % 2 ^ 32 == 0 || w.va.toNat == v then (s, true)
        else (ask (s.sluice fun sl => { sl with peer := sl.peer.erase w }) v, false)

/-- The signal on a record that a peer holds: once its answer is there it is taken (08 R274). -/
def State.signalPeer (s : State) (pa : Nat) (kind : Nat := 1) : State × Option Miss :=
  match s.signalAsk pa kind with
  | (s1, false) => (s1, some .wait)
  | (s1, true) =>
    match s1.dev.sluice.peer.find? fun w => w.kind == kind && w.key == pa with
    | none => (s1, some (.fault causePoisonConsumed 0))
    | some w =>
      let s2 := s1.sluice fun sl => { sl with peer := sl.peer.erase w }
      let bs := w.data.getD []
      if w.status != 0 || bs.length != 8 then (s2, some (.fault causePoisonConsumed 0))
      else if leNat bs % 2 ^ 32 = 0 then (s2, some (.fault 0 0))
      else (s2.signalled pa (leNat bs), none)

/-- A signal on a continuation record (08 R274): PEND is decremented, and at zero with ARMED = 1 the record is handed
over. What refuses it: PEND already 0, or a record that cannot be reached, with its cause. -/
def State.signalRecord (s : State) (asid : BitVec 16) (root : Nat) (rec' : Word) (kind : Nat := 1) : State × Option Miss :=
  match s.sluiceTarget asid root rec'.toNat .atomic with
  | (s1, .error e) => (s1, some e)
  | (s1, .ok (pa, leaf)) =>
    if residency pa = 3 then s1.signalPeer pa kind
    else
      let (d, bs, p) := s1.dev.readLine s1.cap pa 8 leaf
      let s2 := { s1 with dev := d }
      let old := leNat bs
      if p then (s2, some (.fault causePoisonConsumed 0))
      else if old % 2 ^ 32 = 0 then (s2, some (.fault 0 0))
      else ({ s2 with dev := s2.dev.writeSpan s2.cap leaf false 8 pa (leBytes 8 (old - 1)) }.signalled pa old, none)

/-- A signal made ready: whether `signalRecord` would end now; what a peer has to be asked for is asked. -/
def State.signalReady (s : State) (asid : BitVec 16) (root : Nat) (rec' : Word) (kind : Nat := 1) : State × Bool :=
  match s.sluiceTarget asid root rec'.toNat .atomic with
  | (s1, .error .wait) => (s1, false)
  | (s1, .error _) => (s1, true)
  | (s1, .ok (pa, _)) => if residency pa = 3 then s1.signalAsk pa kind else (s1, true)

/-! ## Completion (12 R387, R388) -/

/-- The 64 bytes of a completion record. -/
def Member.record (m : Member) (now : BitVec 64) : List Byte :=
  let o := m.out
  let dl := if m.pkt.deadline = 0 then BitVec.allOnes 64 else m.pkt.deadline
  let late := if dl < now then 2 ^ 9 else 0
  leBytes 8 (m.lid.toNat * 2 ^ 32 + o.cause.toNat * 2 ^ 16 + late + o.status.toNat) ++ leBytes 8 o.info.toNat
    ++ leBytes 8 o.taddr.toNat ++ leBytes 8 (m.start.getD 0).toNat ++ leBytes 8 now.toNat ++ leBytes 8 o.nerr.toNat
    ++ leBytes 8 (o.ekind.toNat * 2 ^ 56 + o.eva.toNat) ++ leBytes 8 o.etid.toNat

/-- The record written at CRVA: bytes 8 to 63, then doubleword 0; not at all where it cannot be reached, lies on a poisoned
line, or is not 64-byte aligned (12 R385, R387). -/
def State.writeRecord (s : State) (asid : BitVec 16) (root : Nat) (m : Member) : State :=
  let va := m.pkt.crva.toNat
  if va = 0 ∨ va % 64 ≠ 0 then s
  else
    match s.sluiceTarget asid root va .write with
    | (s1, .error _) => s1
    | (s1, .ok (pa, leaf)) =>
      let bs := m.record s1.dev.time
      if residency pa = 3 then (s1.sluicePeerWrite (pa + 8) (bs.drop 8)).sluicePeerWrite pa (bs.take 8)
      else if s1.dev.poisoned pa (leafPmode leaf) then s1
      else
        let d := s1.dev.writeSpan s1.cap leaf false 2 (pa + 8) (bs.drop 8)
        { s1 with dev := d.writeSpan s1.cap leaf false 2 pa (bs.take 8) }

/-- STATUS where no failure was recorded. -/
def Outcomes.settled (o : Outcomes) : Outcomes :=
  if o.status ≠ 0 then o else { o with status := if o.nerr = 0 then stDone else stMemoryError }

/-- A completion that has to wait for a migrating page or node, or for a head (10 R343, R351; 14 R447). -/
def State.completionStalls (s : State) (asid : BitVec 16) (root : Nat) (p : Packet) : Bool :=
  (p.wcva != 0 && s.sluiceStalls asid root p.wcva.toNat .atomic)
    || (p.crva != 0 && p.crva.toNat % 64 == 0 && s.sluiceStalls asid root p.crva.toNat .write)
    || s.afterWaits p

/-- A completion made ready: whether it can be made now. One that has to signal a record at a peer asks for it, and waits. -/
def State.completionReady (s : State) (asid : BitVec 16) (root : Nat) (p : Packet) : State × Bool :=
  if s.completionStalls asid root p then (s, false)
  else if p.wcva = 0 then (s, true)
  else s.signalReady asid root (p.wcva.setWidth 64) 2

/-- A packet's completion (12 R388): WCVA is signalled, with an error entry if that is refused; the record is written; the
uses are released; the host is interrupted when CMPI = 1. -/
def State.completeMember (s : State) (asid : BitVec 16) (root : Nat) (m : Member) : State :=
  let (s1, m1) :=
    if m.pkt.wcva = 0 then (s, m)
    else
      match s.signalRecord asid root (m.pkt.wcva.setWidth 64) 2 with
      | (t, none) => (t, m)
      | (t, some _) => (t, { m with out := m.out.entry 4 (m.pkt.wcva.setWidth 64) 0 })
  let m2 := { m1 with out := m1.out.settled }
  let s2 := (s1.actionsAfter m2).writeRecord asid root m2
  let s3 := s2.sluice fun sl => sl.releaseUses m2.lid.toNat
  if m2.pkt.cmpi then { s3 with dev := { s3.dev with irqs := s3.dev.irqs ++ [m2.msiv] } } else s3

/-! ## The parse (12 R384 to R386) -/

/-- Doubleword k of a packet. -/
def packetDw (bs : List Byte) (k : Nat) : BitVec 64 := BitVec.ofNat 64 (leNat ((bs.drop (8 * k)).take 8))

/-- The bits that a TYPE uses in doubleword k (12 R384); a SHOOTDOWN's NPG is taken with all its 64 bits (10 R348; log entry 33). -/
def packetMask (typ k : Nat) : BitVec 64 :=
  let va : BitVec 64 := 0x00FFFFFFFFFFFFFF
  let all : BitVec 64 := BitVec.allOnes 64
  match typ, k with
  | 1, 0 => 0xFFFFFFFFFFF83FFF
  | 1, 1 | 1, 2 | 1, 8 | 1, 9 => all
  | 1, 3 | 1, 4 | 1, 5 | 1, 6 | 1, 7 => va
  | 1, 10 => 0xFFFFFFFF
  | 1, 11 => 0xFFFFFFFF0000FFFF
  | 2, 0 => 0x13FF
  | 2, 1 => all
  | 2, 3 | 2, 5 | 2, 6 => va
  | 3, 0 => 0x13FF
  | 3, 1 | 3, 4 => all
  | 3, 3 | 3, 7 => va
  | 3, 5 => 0xFFFFFFFF
  | 4, 0 => 0x3813FF
  | 4, 1 | 4, 9 => all
  | 4, 5 | 4, 6 => va
  | 4, 10 => 0xFFFFFFFF
  | _, _ => 0

/-- The buffer uses of a packet, six places. -/
def packetUses (bs : List Byte) : List (BitVec 16) :=
  (List.range 6).map fun i => BitVec.ofNat 16 (leNat ((bs.drop (72 + 2 * i)).take 2))

/-- The fields of a packet. A SHOOTDOWN keeps its CRVA in bytes 56 to 63 and has no WCVA. -/
def packetOf (bs : List Byte) : Packet :=
  let dw := packetDw bs
  let w0 := dw 0
  let sd := w0.toNat % 256 == 3
  let nbuf := (w0.extractLsb' 19 3).toNat
  { estim := w0.toNat / 2 ^ 32, vgrp := (w0.extractLsb' 28 4).toNat, gm1 := (w0.extractLsb' 22 6).toNat,
    xcore := w0.getLsbD 13, cmpi := w0.getLsbD 12, bat := w0.getLsbD 11, pro := w0.getLsbD 10,
    scls := (w0.extractLsb' 8 2).toNat, deadline := dw 1, bkey := (dw 2).extractLsb' 32 32, n := (dw 2).extractLsb' 0 32,
    kdva := (dw 3).extractLsb' 0 56, argva := (dw 4).extractLsb' 0 56,
    crva := if sd then (dw 7).extractLsb' 0 56 else (dw 5).extractLsb' 0 56,
    wcva := if sd then 0 else (dw 6).extractLsb' 0 56, propc := (dw 7).extractLsb' 0 56, proarg := dw 8,
    bufs := (packetUses bs).take nbuf, p3key := (dw 11).extractLsb' 32 32, p3mask := (dw 11).extractLsb' 0 16 }

/-- A buffer use that breaks R384, R385 or R399: no access, a bit of 13:12, or a handle that is not valid. -/
def Device.badUse (d : Device) (u : BitVec 16) : Bool :=
  u.extractLsb' 14 2 == 0 || u.extractLsb' 12 2 != 0 || (d.bufDesc (useHandle u)).isNone

/-- A SHOOTDOWN payload that breaks R348. -/
def badPayload (bs : List Byte) : Bool :=
  let va := (packetDw bs 3).toNat
  let npg := (packetDw bs 4).toNat
  let w5 := packetDw bs 5
  let psz := (w5.extractLsb' 16 8).toNat
  decide (2 < psz) || w5.extractLsb' 25 7 != 0 || decide (va % 2 ^ pageShift psz ≠ 0) || ((npg == 0) != w5.getLsbD 24)

/-- A packet that completes BAD_PACKET for its own fields (12 R385). -/
def State.badPacket (s : State) (d : QDesc) (bs : List Byte) : Bool :=
  let typ := (bs.getD 0 0).toNat
  let w0 := packetDw bs 0
  let p := packetOf bs
  let nbuf := (w0.extractLsb' 19 3).toNat
  typ == 0 || decide (4 < typ)
    || (List.range 16).any (fun k => packetDw bs k &&& ~~~(packetMask typ k) != 0)
    || p.scls == 3 || decide (p.scls < d.smin) || decide (8 < p.vgrp) || nbuf == 7
    || (!p.bat && p.bkey != 0)
    || ((packetUses bs).drop nbuf).any (· != 0) || p.bufs.any s.dev.badUse
    || p.crva.toNat % 64 != 0 || (typ != 3 && p.wcva.toNat % 128 != 0)
    || (typ == 1 && (p.kdva.toNat % 64 != 0 || p.propc.toNat % 4 != 0))
    || (typ == 2 && p.kdva.toNat % 128 != 0)
    || (typ == 3 && badPayload bs)

/-- A kernel descriptor from its bytes, unless a field breaks R386. -/
def kernelDesc (bs : List Byte) : Option KernelDesc :=
  let dw := packetDw bs
  let high (k : Nat) : Bool := (dw k).extractLsb' 56 8 != 0
  if high 0 || high 1 || high 2 || high 4 || decide ((dw 0).toNat % 4 ≠ 0) || decide ((dw 1).toNat % 4 ≠ 0)
      || decide ((dw 2).toNat % 128 ≠ 0) || decide ((dw 4).toNat % 8 ≠ 0) || decide (1024 < (dw 3).toNat)
      || decide (4096 < (dw 5).toNat) || dw 6 != 0 || dw 7 != 0 then none
  else
    some { entry := (dw 0).extractLsb' 0 56, tvec := (dw 1).extractLsb' 0 56, htbase := (dw 2).extractLsb' 0 56,
           htlim := (dw 3).extractLsb' 0 11, lmtbase := (dw 4).extractLsb' 0 56, lmtlim := (dw 5).extractLsb' 0 13 }

/-- No descriptor: for packets that have none. -/
def KernelDesc.none : KernelDesc := { entry := 0, tvec := 0, htbase := 0, htlim := 0, lmtbase := 0, lmtlim := 0 }

/-- The kernel descriptor read at parse (12 R386), or the outcome of a failed one; none if the read has to wait. -/
def State.readKernel (s : State) (asid : BitVec 16) (root : Nat) (va : BitVec 56) : State × Except (Option Outcomes) KernelDesc :=
  let bad (c : BitVec 10) (i : BitVec 22) (a : BitVec 64) : Outcomes :=
    { status := stBadPacket, cause := c, info := i, taddr := a, nerr := 0, ekind := 0, eva := 0, etid := 0 }
  match s.sluiceRead asid root va.toNat 64 with
  | (s1, .error .wait) => (s1, .error none)
  | (s1, .error (.fault c i)) => (s1, .error (some (bad c i (va.setWidth 64))))
  | (s1, .ok (bs, p)) =>
    if p then (s1, .error (some (bad causePoisonConsumed 0 (va.setWidth 64))))
    else
      match kernelDesc bs with
      | some k => (s1, .ok k)
      | none => (s1, .error (some (bad 0 0 0)))

def Outcomes.clean : Outcomes :=
  { status := 0, cause := 0, info := 0, taddr := 0, nerr := 0, ekind := 0, eva := 0, etid := 0 }

/-! ## Admission (12 R392) -/

/-- DEADLINE: 0 stands for the last moment (12 R384). -/
def Packet.due (p : Packet) : Nat := if p.deadline = 0 then 2 ^ 64 - 1 else p.deadline.toNat

/-- What counts in a partition's outstanding set: deadline, and work left in quarters of a core-nanosecond. What a launch has
used counts from its first group on, also when it is back in the heap with its remaining estimate (12 R395). -/
def Sluice.outstanding (sl : Sluice) (part : Nat) : List (Nat × Nat) :=
  (sl.launches.filter fun l => l.part == part && l.scls != 2).flatMap fun l =>
    match l.phase with
    | .window _ => l.members.map fun m => (m.pkt.due, 4000 * m.pkt.estim)
    | _ => [(l.deadline.toNat, 4000 * l.estim - (if l.nextGroup = 0 then 0 else l.used))]

/-- The admission test: background launches are not tested. -/
def State.admits (s : State) (part scls due estim : Nat) : Bool :=
  let out := s.dev.sluice.outstanding part
  let now := s.dev.time.toNat
  let pcap := ((s.dev.cfg.psched.toList.getD part 0).extractLsb' 20 12).toNat
  scls == 2
    || (due :: (out.map (·.1)).filter (due ≤ ·)).all fun d =>
         decide (4 * (4000 * estim + ((out.filter fun x => x.1 ≤ d).map (·.2)).sum) ≤ pcap * (d - now))

/-- Active cores of a cluster, by number in the cluster. -/
def ClusterSt.cores (c : ClusterSt) : List Nat := (List.range 16).filter fun k => !c.lost.contains k

/-- Contexts that tasks with a reservation can hold on one core (12 R393). -/
def perCore (vgrp : Nat) : Nat := if vgrp = 0 then 4 else min 4 (8 / vgrp)

/-- Some cluster of the partition can ever hold one group (12 R388). -/
def State.canHold (s : State) (part : Nat) (p : Packet) : Bool :=
  s.allClus.any fun c => c.part == some part && decide (min (p.gm1 + 1) p.n.toNat ≤ c.cores.length * perCore p.vgrp)

/-! ## Entering the heap -/

/-- A launch of its own from a parsed member. -/
def Sluice.launchOf (sl : Sluice) (m : Member) (part : Nat) (asid : BitVec 16) (root : Nat) (now : BitVec 64)
    (phase : Phase) : Launch :=
  { key := sl.keyNext, members := [m], phase := phase, order := sl.orderNext, stamp := sl.orderNext, part := part,
    asid := asid, root := root, deadline := BitVec.ofNat 64 m.pkt.due, scls := m.pkt.scls, estim := m.pkt.estim, used := 0,
    nextGroup := 0, notBefore := 0, proDone := !m.pkt.pro, opened := now, preempted := false, zeroed := [], p3 := 0,
    shun := none }

/-- A launch added, with the next key and place in parse order. -/
def Sluice.addLaunch (sl : Sluice) (l : Launch) : Sluice :=
  { sl with launches := sl.launches ++ [l], keyNext := sl.keyNext + 1, orderNext := sl.orderNext + 1 }

/-- A launch enters the heap, or waits for an entry (12 R390). -/
def Sluice.enterHeap (sl : Sluice) (key : Nat) : Sluice :=
  { sl.updLaunch key (fun l => { l with phase := .waiting, stamp := sl.orderNext }) with orderNext := sl.orderNext + 1 }.promote 1

/-! ## Batching (12 R402, R403) -/

/-- A LAUNCH that may join a batch. -/
def Packet.batchable (p : Packet) : Bool :=
  p.bat && !p.pro && p.scls != 2 && p.n != 0 && p.n.toNat % (p.gm1 + 1) == 0

/-- Two packets share a batch key; the partition and the address space are compared beside it. -/
def Packet.sameKey (p q : Packet) : Bool :=
  p.bkey == q.bkey && p.kdva == q.kdva && p.n == q.n && p.gm1 == q.gm1 && p.vgrp == q.vgrp && p.scls == q.scls

def Launch.window? (l : Launch) : Option Nat :=
  match l.phase with
  | .window w => some w
  | _ => none

/-- The window open for a packet's key. -/
def Sluice.windowFor (sl : Sluice) (p : Packet) (part : Nat) (asid : BitVec 16) : Option Launch :=
  sl.launches.find? fun l => l.window?.isSome && l.part == part && l.asid == asid && l.members.any fun m => m.pkt.sameKey p

/-- A batch's deadline and estimate from its members. -/
def Launch.summed (l : Launch) : Launch :=
  { l with deadline := BitVec.ofNat 64 ((l.members.map fun m => m.pkt.due).min?.getD 0),
           estim := (l.members.map fun m => m.pkt.estim).sum }

/-- The last moment of a window (12 R403). -/
def State.windowEnd (s : State) (l : Launch) : Nat :=
  let bwin := ((s.dev.cfg.psched.toList.getD l.part 0).extractLsb' 32 32).toNat
  min (l.opened.toNat + bwin) ((l.members.map fun m => m.pkt.due).min?.getD 0 - bwin)

/-- A window that closes as soon as its last member has joined. -/
def State.windowFull (s : State) (l : Launch) : Bool :=
  let bmm1 := ((s.dev.cfg.psched.toList.getD l.part 0).extractLsb' 14 6).toNat
  decide (bmm1 + 1 ≤ l.members.length) || decide (2 ^ 24 ≤ l.tasks) || decide (s.windowEnd l ≤ s.dev.time.toNat)

/-- A window closed: the batch enters the heap as one entry. -/
def State.closeWindow (s : State) (key : Nat) : State :=
  (s.sluice fun sl => (sl.updLaunch key Launch.summed).enterHeap key).later .dispatch

/-- BATCH_CLOSE (12 R403); it waits while the pair restarts (13 R429). -/
def execBatchClose (w : Nat) (s : State) : Outcome :=
  match s.dev.sluice.launches.find? fun l => l.window? == some w with
  | none => .next s
  | some l => .next (if s.dev.sluice.stopped then s.sluiceWait (.batchClose w) else s.closeWindow l.key)

/-- An admitted LAUNCH joins a window, opens one, or enters the heap alone (12 R402). -/
def State.place (s : State) (m : Member) (d : QDesc) : State :=
  let sl := s.dev.sluice
  let alone : State :=
    (s.sluice fun x => (x.addLaunch (x.launchOf m d.part d.asid d.root s.dev.time .waiting)).enterHeap x.keyNext).later .dispatch
  if !m.pkt.batchable then alone
  else
    let joined : Option (State × Nat) :=
      match sl.windowFor m.pkt d.part d.asid with
      | some l => some (s.sluice fun x => x.updLaunch l.key fun y => { y with members := y.members ++ [m] }, l.key)
      | none =>
        if 16 ≤ (sl.launches.filter fun l => l.window?.isSome).length then none
        else
          some (s.sluice fun x =>
            { x.addLaunch (x.launchOf m d.part d.asid d.root s.dev.time (.window x.windowNext)) with
              windowNext := x.windowNext + 1 }, sl.keyNext)
    match joined with
    | none => alone
    | some (s1, key) =>
      match s1.dev.sluice.launch? key with
      | some l => if s1.windowFull l then s1.closeWindow key else s1
      | none => s1

/-! ## Packets -/

/-- What a parse finds at a queue's next slot. -/
inductive Slot where
  | nothing (s : State)
  | poisoned (s : State)
  | packet (s : State) (d : QDesc) (bs : List Byte)

/-- A packet whose completion at parse, or whose signal, has to wait for a migrating page or node (10 R343, R351). -/
def State.packetStalls (s : State) (d : QDesc) (bs : List Byte) : Bool :=
  let p := packetOf bs
  s.completionStalls d.asid d.root p
    || ((bs.getD 0 0) == 2 && p.kdva.toNat % 128 == 0 && s.sluiceStalls d.asid d.root p.kdva.toNat .atomic)

/-- The next slot of a bound queue (12 R380). -/
def State.slot (s : State) (q : Nat) : Slot :=
  let x := s.dev.sluice.queue q
  let d := s.queueDesc q
  if x.state != .bound || d.kick ≤ x.next || decide (256 ≤ s.dev.sluice.heapCount) || s.dev.sluice.stopped
      || s.dev.sluice.outOfService then .nothing s
  else
    match s.readSlotAt d.asid d.root (d.slotVa x.next) 128 with
    | (s1, .error .wait) => .nothing (s1.sluiceWait (.kickReport q))
    | (s1, .error _) => .nothing s1
    | (s1, .ok (bs, p)) =>
      if p then .poisoned s1
      else if bs.getD 0 0 == 0 then .nothing s1
      else if s1.packetStalls d bs then .nothing (s1.sluiceWait (.kickReport q))
      else .packet s1 d bs

/-- A poisoned slot is written as zero and passed (12 R380). -/
def State.dropSlot (s : State) (q : Nat) : State :=
  let x := s.dev.sluice.queue q
  let d := s.queueDesc q
  if s.sluiceStalls d.asid d.root (d.slotVa x.next) .write then s.sluiceWait (.kickReport q)
  else (s.writeSlotAt d.asid d.root (d.slotVa x.next) (List.replicate 128 0)).slotParsed q false

/-- A member for the packet at the next slot, with the next launch identifier (12 R388). -/
def State.newMember (s : State) (q : Nat) (d : QDesc) (bs : List Byte) : State × Member :=
  let lid := s.dev.sluice.lidNext
  (s.sluice fun sl => { sl with lidNext := lid + 1 },
   { lid := lid, q := q, slot := (s.dev.sluice.queue q).next, msiv := d.msiv, pkt := packetOf bs, kd := KernelDesc.none,
     nop := (bs.getD 0 0) == 4, deps := [], inDep := [], ended := 0, start := none, out := Outcomes.clean,
     completed := false })

/-- A packet that completes at its parse; `s0` is the machine before the parse, which is made again if the completion has to
wait for a peer. -/
def State.completeNow (s s0 : State) (q : Nat) (d : QDesc) (m : Member) (o : Outcomes) : State :=
  match s.completionReady d.asid d.root m.pkt with
  | (s1, true) => (s1.completeMember d.asid d.root { m with out := o }).slotParsed q false
  | (_, false) => (s0.completionReady d.asid d.root m.pkt).1.sluiceWait (.kickReport q)

def Outcomes.ofStatus (st : BitVec 8) : Outcomes := { Outcomes.clean with status := st }

/-- PACKET_LAUNCH (12 R385, R386, R392, R402): the outcomes at parse in the order R385 gives, else the heap or a batch. A
packet of no assigned TYPE, and a slot on a poisoned line, are taken here too. -/
def execPacketLaunch (q : Nat) (s : State) : Outcome :=
  match s.slot q with
  | .nothing s1 => .next s1
  | .poisoned s1 => .next (s1.dropSlot q)
  | .packet s1 d bs =>
    let typ := (bs.getD 0 0).toNat
    if 2 ≤ typ ∧ typ ≤ 4 then .next s1
    else
      let (s2, m) := s1.newMember q d bs
      let p := m.pkt
      if s2.badPacket d bs then .next (s2.completeNow s1 q d m (.ofStatus stBadPacket))
      else
        match s2.readKernel d.asid d.root p.kdva with
        | (_, .error none) => .next ((s1.readKernel d.asid d.root p.kdva).1.sluiceWait (.kickReport q))
        | (s3, .error (some o)) => .next (s3.completeNow s1 q d m o)
        | (s3, .ok kd) =>
          if p.n = 0 then .next (s3.completeNow s1 q d m (.ofStatus stEmpty))
          else if 2 ^ 24 < p.n.toNat then .next (s3.completeNow s1 q d m (.ofStatus stCountRange))
          else if !s3.canHold d.part p then .next (s3.completeNow s1 q d m (.ofStatus stNoFit))
          else if !s3.admits d.part p.scls p.due p.estim then .next (s3.completeNow s1 q d m (.ofStatus stAdmitRefused))
          else
            let (sl, m1) := s3.dev.sluice.registerUses { m with kd := kd }
            .next (((s3.sluice fun _ => sl).place m1 d).slotParsed q p.pro)

/-- PACKET_RESUME (12 R389, 08 R274). -/
def execPacketResume (q : Nat) (s : State) : Outcome :=
  match s.slot q with
  | .nothing s1 => .next s1
  | .poisoned s1 => .next (s1.dropSlot q)
  | .packet s1 d bs =>
    if (bs.getD 0 0) ≠ 2 then .next s1
    else
      let (s2, m) := s1.newMember q d bs
      if s2.badPacket d bs then .next (s2.completeNow s1 q d m (.ofStatus stBadPacket))
      else
        match s2.signalRecord d.asid d.root (m.pkt.kdva.setWidth 64) with
        | (s3, none) => .next (s3.completeNow s1 q d m Outcomes.clean)
        | (_, some .wait) => .next ((s1.signalReady d.asid d.root (m.pkt.kdva.setWidth 64)).1.sluiceWait (.kickReport q))
        | (s3, some (.fault c i)) =>
          .next (s3.completeNow s1 q d m { Outcomes.ofStatus stResumeRefused with
            cause := c, info := i, taddr := if c = 0 then 0 else m.pkt.kdva.setWidth 64 })

/-- The pages that a shoot-down names. -/
def Shootdown.span (x : Shootdown) : PageSpan :=
  { asid := x.asid, va := x.va.toNat, len := x.npg.toNat * 2 ^ pageShift x.psz, all := x.all }

/-- PACKET_SHOOTDOWN (12 R385, R389; 10 R348): started; SHOOTDOWN_COMPLETE ends it. -/
def execPacketShootdown (q : Nat) (s : State) : Outcome :=
  match s.slot q with
  | .nothing s1 => .next s1
  | .poisoned s1 => .next (s1.dropSlot q)
  | .packet s1 d bs =>
    if (bs.getD 0 0) ≠ 3 then .next s1
    else
      let (s2, m) := s1.newMember q d bs
      if s2.badPacket d bs then .next (s2.completeNow s1 q d m (.ofStatus stBadPacket))
      else if !d.kpriv then .next (s2.completeNow s1 q d m (.ofStatus stPrivilege))
      else
        let w5 := packetDw bs 5
        let x : Shootdown :=
          { q := q, lid := m.lid, cmpi := m.pkt.cmpi, msiv := d.msiv, qasid := d.asid, root := d.root, crva := m.pkt.crva,
            deadline := m.pkt.deadline, asid := w5.extractLsb' 0 16, va := packetDw bs 3, npg := packetDw bs 4,
            psz := (w5.extractLsb' 16 8).toNat, all := w5.getLsbD 24 }
        let s3 := s2.sluice fun sl => { sl with shootdowns := sl.shootdowns ++ [x] }
        .next (((s3.shootDown x.span).later .shootdownComplete).slotParsed q false)

/-- An access translated and not yet performed that a shoot-down has to wait for (10 R349). -/
def Ctx.translated (c : Ctx) (p : PageSpan) : Bool :=
  let touches (r : Posted) : Bool := p.hits c.asid r.va.toNat (2 ^ r.size)
  c.posted.any touches || (c.loop.held.any fun h => match h with
    | .post r => touches r
    | _ => false)
  || (c.vatom.any fun v => v.out.any fun l => p.hits c.asid l.va.toNat 4)
  || (c.asid == p.asid && c.peer.any fun w => (w.kind == 3 && w.data.isNone) || w.kind == 1 || decide (9 ≤ w.kind))

/-- A test holds of a context, resident or saved. -/
def State.anyCtx (s : State) (f : Ctx → Bool) : Bool := s.allCtxs.any f || s.storedCtxs.any f

/-- SHOOTDOWN_COMPLETE (10 R349, 12 R388): the oldest shoot-down completes once nothing translated through a dropped
entry is outstanding. It waits while the pair restarts (13 R429). -/
def execShootdownComplete (s : State) : Outcome :=
  match s.dev.sluice.shootdowns with
  | [] => .next s
  | x :: rest =>
    let s0 := s.drain
    let p : Packet := { packetOf [] with cmpi := x.cmpi, crva := x.crva, deadline := x.deadline }
    if s.dev.sluice.stopped || s0.completionStalls x.qasid x.root p || s0.anyCtx fun c => c.translated x.span then .next s0
    else
      let s1 := (s0.shootDown x.span).sluice fun sl => { sl with shootdowns := rest }
      let m : Member := { lid := x.lid, q := x.q, slot := 0, msiv := x.msiv, pkt := p, kd := KernelDesc.none, nop := false,
                          deps := [], inDep := [], ended := 0, start := none, out := Outcomes.clean, completed := false }
      let s2 := s1.completeMember x.qasid x.root m
      .next (if rest.isEmpty then s2 else s2.later .shootdownComplete)

/-- PACKET_NOP (12 R389): enters the heap as a launch with no tasks. -/
def execPacketNop (q : Nat) (s : State) : Outcome :=
  match s.slot q with
  | .nothing s1 => .next s1
  | .poisoned s1 => .next (s1.dropSlot q)
  | .packet s1 d bs =>
    if (bs.getD 0 0) ≠ 4 then .next s1
    else
      let (s2, m) := s1.newMember q d bs
      if s2.badPacket d bs then .next (s2.completeNow s1 q d m (.ofStatus stBadPacket))
      else
        let (sl, m1) := s2.dev.sluice.registerUses m
        .next (((s2.sluice fun _ => sl).place m1 d).slotParsed q false)

end Sys2Proof.Machine
end

