-- ==== Sys2Proof/Machine/Attnr.lean ====
section
/-!
DEFINITION. ATTNR (07 R256 to R258): what the requester sends, what the holder computes (11 R371, R372) and how the reply
is merged. The layout of the two payloads, and their parts, are the model's own (log entry 48).
-/
namespace Sys2Proof.Machine

/-! ## The request -/

/-- What a holder is asked for, but for the rows of Q. -/
structure AttnAsk where
  qn : Nat
  dc : Nat
  causal : Bool
  bf16 : Bool
  layer : Nat
  sigma : F32
  qp0 : Nat
  win : Nat
  entry : Nat       -- physical address of the directory entry
  deriving DecidableEq, Repr

/-- The bytes of a block of a Q row, and of a whole row. -/
def AttnAsk.blockBytes (a : AttnAsk) : Nat := if a.bf16 then 64 else 36
def AttnAsk.rowBytes (a : AttnAsk) : Nat := 2 * 2 ^ a.dc * a.blockBytes

def AttnAsk.image (a : AttnAsk) : List Byte :=
  leBytes 1 (a.qn - 1) ++ leBytes 1 (a.dc % 4 + (if a.causal then 4 else 0) + if a.bf16 then 8 else 0) ++ leBytes 2 a.layer
    ++ leBytes 4 a.sigma.toNat ++ leBytes 4 a.qp0 ++ leBytes 4 a.win ++ leBytes 8 a.entry

def AttnAsk.ofBytes (bs : List Byte) : AttnAsk :=
  let f := fieldLE bs 1 1
  { qn := fieldLE bs 0 1 + 1, dc := f % 4, causal := f / 4 % 2 == 1, bf16 := f / 8 % 2 == 1, layer := fieldLE bs 2 2,
    sigma := BitVec.ofNat 32 (fieldLE bs 4 4), qp0 := fieldLE bs 8 4, win := fieldLE bs 12 4, entry := fieldLE bs 16 8 }

/-- A block of a Q row as it was sent. -/
def AttnAsk.block (a : AttnAsk) (bs : List Byte) : Blk :=
  if a.bf16 then Blk.ofBf16 (numbers 2 32 bs)
  else
    match readGrain bs false with
    | .ok f sc es => Blk.ofMx f sc es
    | _ => Blk.zero

/-- The rows of Q that follow the request's fields. -/
def AttnAsk.rows (a : AttnAsk) (bs : List Byte) : List (List Blk) :=
  (List.range a.qn).map fun i => (List.range (2 * 2 ^ a.dc)).map fun b =>
    a.block (((bs.drop (24 + i * a.rowBytes + b * a.blockBytes))).take a.blockBytes)

/-! ## The reply -/

def AttnRow.image (r : AttnRow) : List Byte := leBytes 4 r.m.toNat ++ leBytes 4 r.l.toNat ++ r.o.flatMap fun x => leBytes 4 x.toNat

/-- A reply's payload: 0 and the rows, each m, l and the columns of O; 1 MOVED; 2 GEOMETRY; 3 poisoned; 4 a format byte that
fails. -/
def replyImage (r : AttnReply) : List Byte :=
  match r with
  | .partials rows => leBytes 4 0 ++ leBytes 4 ((rows.head?.map fun x => x.o.length).getD 0) ++ rows.flatMap AttnRow.image
  | .moved => leBytes 4 1
  | .geometry => leBytes 4 2
  | .poisoned => leBytes 4 3
  | .format => leBytes 4 4

def attnRowsOf (d : Nat) : Nat → List Byte → List AttnRow
  | 0, _ => []
  | n + 1, bs =>
    if bs.length < 8 + 4 * d then []
    else
      let xs := numbers 4 (d + 2) bs
      { m := BitVec.ofNat 32 (xs.getD 0 0), l := BitVec.ofNat 32 (xs.getD 1 0), o := (xs.drop 2).map (BitVec.ofNat 32) }
        :: attnRowsOf d n (bs.drop (8 + 4 * d))

def replyOf (bs : List Byte) : AttnReply :=
  match fieldLE bs 0 4 with
  | 0 => .partials (attnRowsOf (fieldLE bs 4 4) 64 (bs.drop 8))
  | 1 => .moved
  | 2 => .geometry
  | 4 => .format
  | _ => .poisoned

/-! ## The holder (07 R257; 11 R372) -/

/-- Bytes of the claiming address space, which a server's context has (11 R372); those that another device holds are asked
of it (11 R373). Answers are kept until the reply is known. -/
def State.holderBytes (s : State) (cls : BitVec 4) (va n : Nat) : State × Except Hitch (List Marked) :=
  match s.rangeBy (fun s va k => s.translateIn s.ctx.asid s.ctx.root true va k) .read (va % 2 ^ 64) n with
  | (s1, .error e) => (s1, .error e)
  | (s1, .ok ps) =>
    match s1.askPieces 2 cls scopePool ps with
    | (s2, false) => (s2, .error .wait)
    | (s2, true) =>
      let (s3, bs) := s2.readPieces 2 ps
      (s3.bump, .ok bs)

/-- A packed record of a page as a block, with its length, or the reply that it is (02 R69). -/
def holderRecord (bs : List Marked) : Except AttnReply (Blk × Nat) :=
  if (bs.take 2).any (·.2) then .error .poisoned
  else
    match efmtOf ((bs.getD 0 (0, false)).1) false with
    | none => .error .format
    | some f =>
      let r := bs.take f.recordLen
      if r.any (·.2) then .error .poisoned
      else .ok (Blk.ofMx f ((r.getD 1 (0, false)).1).toNat ((List.range 32).map fun e => (recordElem f r e).1.toNat), f.recordLen)

/-- The K records of a cell, `n` of them. -/
def holderCell : Nat → List Marked → Except AttnReply (List Blk)
  | 0, _ => .ok []
  | n + 1, bs => do
    let (b, len) ← holderRecord bs
    let rest ← holderCell n (bs.drop len)
    pure (b :: rest)

/-- The two V blocks of channel `c`; one that holds only keys at ELEN and above is not read. -/
def holderColumn (ks : KvSpace) (elen : Nat) (page : List Marked) (c : Nat) : Except AttnReply (List Blk) :=
  (List.range 2).mapM fun b =>
    if elen ≤ 32 * b then .ok Blk.zero
    else
      (holderRecord ((page.drop (ks.vrecAt 0 0 c b)).take 34)).map fun x =>
        { x.1 with vals := x.1.vals.zipIdx.map fun v => if v.2 + 32 * b < elen then v.1 else .fin false 0 0 }

/-- SINIT and one ATTN over a page (07 R257), whose K and V planes are those of head 0. -/
def prefixPartial (a : AttnAsk) (elen bpos : Nat) (qs ks : List (List Blk)) (vs : List (List Blk)) : List AttnRow :=
  (scoreRows qs ks).zipIdx.map fun x =>
    let r := softRow a.sigma negInf32 0
      (x.1.zipIdx.map fun v => if maskedKey elen a.qp0 bpos a.win a.causal x.2 v.2 then none else some v.1)
    { m := r.m, l := r.l, o := valueRow r (vs.map fun _ => 0) vs }

/-- The partial over a page's bytes. -/
def pagePartial (a : AttnAsk) (ks : KvSpace) (elen bpos : Nat) (qs : List (List Blk)) (page : List Marked) : AttnReply :=
  let cells := (List.range elen).mapM fun t => holderCell (ks.d / 32) ((page.drop (ks.cellAt 0 0 t)).take ks.kcell)
  let cols := (List.range ks.d).mapM (holderColumn ks elen page)
  match cells, cols with
  | .ok k, .ok v => .partials (prefixPartial a elen bpos qs k v)
  | .error r, _ | _, .error r => r

/-- How a service goes on: it waits, it has its reply, or it has what it read. -/
inductive Serving (α : Type) where
  | wait
  | reply (r : AttnReply)
  | got (a : α)

/-- Bytes that steer the service, clean: an address that does not translate any more is MOVED. -/
def State.holderClean (s : State) (cls : BitVec 4) (va n : Nat) : State × Serving (List Byte) :=
  match s.holderBytes cls va n with
  | (s1, .error (.fault _ _ _)) => (s1, .reply .moved)
  | (s1, .error _) => (s1, .wait)
  | (s1, .ok bs) => (s1, if bs.any (·.2) then .reply .poisoned else .got (bs.map (·.1)))

/-- The KV space of the holder page list, and the slot of the layer (11 R372). -/
def State.holderSlot (s : State) (cls : BitVec 4) (hpages : Nat) (a : AttnAsk) : State × Serving (KvSpace × Nat) :=
  match s.holderClean cls hpages 8 with
  | (s1, .wait) => (s1, .wait)
  | (s1, .reply r) => (s1, .reply r)
  | (s1, .got h) =>
    match s1.holderClean cls (leNat h % 2 ^ 56) 64 with
    | (s2, .wait) => (s2, .wait)
    | (s2, .reply r) => (s2, .reply r)
    | (s2, .got kb) =>
      match KvSpace.ofBytes kb with
      | none => (s2, .reply .geometry)
      | some ks =>
        if ks.layers ≤ a.layer ∨ ks.d ≠ 64 * 2 ^ a.dc then (s2, .reply .geometry)
        else
          match s2.holderClean cls (hpages + 8 + 4 * a.layer) 4 with
          | (s3, .wait) => (s3, .wait)
          | (s3, .reply r) => (s3, .reply r)
          | (s3, .got g) => (s3, if ks.nslots ≤ leNat g then .reply .geometry else .got (ks, leNat g))

/-- The leaf through which a holder reads a directory entry: pool, mode BI. -/
def entryLeaf : BitVec 64 := 0

/-- The reading and computing part of a service (07 R257), in a server's context: none while it waits for its reads. -/
def State.serveAttn (s : State) (cls : BitVec 4) (payload : List Byte) : State × Option AttnReply :=
  let a := AttnAsk.ofBytes payload
  let (s1, eb, p) := s.readPhys a.entry 32 entryLeaf
  let e := leNat eb
  if p then (s1, some .poisoned)
  else if dirState e = 0 ∨ dirState e = 3 ∨ dirHolder e ≠ s.dev.num.toNat then (s1, some .moved)
  else
    let asid := BitVec.ofNat 16 (e / 2 ^ 48)
    match s1.rootOf asid with
    | none => (s1, some .moved)
    | some root =>
      let s2 := { s1 with ctx := { s1.ctx with asid := asid, root := root } }
      match s2.holderSlot cls (e / 2 ^ 64 % 2 ^ 56) a with
      | (s3, .wait) => (s3, none)
      | (s3, .reply r) => (s3, some r)
      | (s3, .got (ks, slot)) =>
        match s3.holderBytes cls (ks.pool + slot * ks.pslot) ks.page with
        | (s4, .error (.fault _ _ _)) => (s4, some .moved)
        | (s4, .error _) => (s4, none)
        | (s4, .ok page) => (s4, some (pagePartial a ks (e / 2 ^ 32 % 2 ^ 7) (e / 2 ^ 128 % 2 ^ 32) (a.rows payload) page))

/-- A service that still reads goes on as far as it can; its context is its own. A partial takes one pass of each array
(06 R230, 07 R257); every other reply takes none. -/
def State.serveRead (s : State) (v : Serve) : State × Serve :=
  if v.reply.isSome then (s, v)
  else
    let (s1, r) := { s with ctx := { Ctx.vacant with peer := v.peer } }.serveAttn v.cls v.payload
    ({ s1 with ctx := s.ctx },
     { v with peer := if r.isSome then [] else s1.ctx.peer, reply := r,
              passes := match r with
                | some (.partials _) => [false, true]
                | _ => [] })

/-- An answer of this device to a request of its own, at the place whose context waits for it. -/
def State.answerSelf (s : State) (tag : BitVec 16) (r : AttnReply) : State :=
  match s.allCtxs.findIdx? fun c => c.peer.any fun w => w.tag == tag && w.kind == 2 && w.data.isNone with
  | none => s
  | some p =>
    s.atPlace p fun x =>
      let fill (w : PeerWait) : PeerWait := if w.tag == tag then { w with data := some (replyImage r) } else w
      { x with ctx := { x.ctx with peer := x.ctx.peer.map fill } }.later (.attnrReply r)

/-- The reply to a service given: an AREP, in parts. -/
def State.giveReply (s : State) (v : Serve) (r : AttnReply) : State :=
  if v.src = s.dev.num.toNat then s.answerSelf v.tag r
  else
    let gs := gSplit { gBlank with type := gArep, cls := v.cls, tag := v.tag, payload := replyImage r }
    { s with dev := gs.foldl (fun d g => d.sendLane v.src v.lane g) s.dev }

/-- The core whose matrix engine serves requests (log entry 48), and the step of it that a service waits for: the end of a
pass, which also looks at the services that still read. -/
def State.kickServes (s : State) : State :=
  match s.dev.serves with
  | [] => s
  | v :: _ =>
    let t : Turn := .own 0 (.arrayPassEnd (v.passes.headD false) .agree [])
    if s.turns.contains t then s else s.queue t

/-- Every service goes on: one that has its reply and no pass left is answered. -/
def State.serveAll (s : State) : State :=
  let go (x : State) (v : Serve) : State :=
    let (x1, v1) := x.serveRead v
    match v1.reply, v1.passes with
    | some r, [] => x1.giveReply v1 r
    | _, _ => { x1 with dev := { x1.dev with serves := x1.dev.serves ++ [v1] } }
  (s.dev.serves.foldl go { s with dev := { s.dev with serves := [] } }).kickServes

/-- A request taken up (07 R257). -/
def State.startServe (s : State) (src lane : Nat) (cls : BitVec 4) (tag : BitVec 16) (payload : List Byte) : State :=
  let v : Serve := { src := src, lane := lane, cls := cls, tag := tag, payload := payload, peer := [], reply := none, passes := [] }
  { s with dev := { s.dev with serves := s.dev.serves ++ [v] } }.serveAll

/-! ## The requester (07 R256) -/

/-- The fields of an ATTNR. -/
structure Attnr where
  q : Nat
  o : Nat
  s : Nat
  qn : Nat
  dc : Nat
  layer : Nat
  deva : Nat
  deriving DecidableEq, Repr

def attnrOf (c : Cmd) : Attnr :=
  { q := wordBits c.w1 0 8, o := wordBits c.w1 8 8, s := wordBits c.w1 16 8, qn := wordBits c.w1 24 6 + 1,
    dc := wordBits c.w1 30 2, layer := wordBits c.w1 32 8, deva := wordBits c.w2 0 56 }

/-- What an ATTNR needs of its tiles. -/
def Attnr.needs (a : Attnr) : List Need :=
  [.operand a.q a.qn (2 * 2 ^ a.dc), .f32 a.o a.qn (256 * 2 ^ a.dc), .f32 a.s a.qn 8]
def Attnr.uses (a : Attnr) : List TileUse := [.reads a.q, .changes a.o, .changes a.s]

/-- The request's fields. -/
def Attnr.ask (a : Attnr) (c : Cmd) (bf16 : Bool) (entry : Nat) : AttnAsk :=
  { qn := a.qn, dc := a.dc, causal := c.w0.getLsbD 27, bf16 := bf16, layer := a.layer,
    sigma := BitVec.ofNat 32 (wordBits c.w0 32 32), qp0 := wordBits c.w3 0 32, win := wordBits c.w3 32 32, entry := entry }

/-- The directory entry read as an acquire at pool scope (07 R256), with its physical address. -/
def readEntryOf (a : Attnr) (s : State) (k : CmdRec) : Except EngStop (State × Nat × Nat) :=
  match s.rangeBy k.plain .read a.deva 32 with
  | (s1, .error h) => .error (s1.hitchStop k .read a.deva (cursorOf []) h)
  | (s1, .ok ps) =>
    match ps.head? with
    | none => .error (.wait s1)
    | some p =>
      if residency p.pa != 2 || !s1.atomicHome p.pa p.leaf then s1.faultAt causeKvRegion (residency p.pa) a.deva (cursorOf [])
      else
        match s1.engFetch k (cursorOf []) a.deva 32 with
        | .error e => .error e
        | .ok (s2, bs) =>
          if bs.any (·.2) then s2.faultAt causePoisonConsumed 0 a.deva (cursorOf [])
          else .ok (s2, leNat (bs.map (·.1)), p.pa)

/-- A wait for a reply, under the command's place. -/
def State.awaitReply (s : State) (dst seq : Nat) (cls : BitVec 4) (tag : BitVec 16) : State :=
  let w : PeerWait := { tag := tag, dst := dst, kind := 2, cls := cls, key := seq, va := 0, seq := 0, data := none, status := 0 }
  { s with dev := { s.dev with tagNext := tag + 1 }, ctx := { s.ctx with peer := s.ctx.peer ++ [w] } }

/-- The request of an ATTNR in its parts, under one tag. -/
def attnrParts (s : State) (cls : BitVec 4) (payload : List Byte) : List GPacket :=
  gSplit { gBlank with type := gAreq, scope := scopePool, cls := cls, tag := s.dev.tagNext, payload := payload }

/-- The sending part of an ATTNR (07 R256): the entry is read, the rows of Q are read with their checks, and the holder
is asked. -/
def Attnr.send (a : Attnr) (s : State) (k : CmdRec) : Except EngStop State :=
  match readEntryOf a s k with
  | .error e => .error e
  | .ok (s1, e, pa) =>
    if dirState e = 0 then s1.faultAt causePfxAbsent 0 a.deva (cursorOf [])
    else
      let t := s1.tile a.q
      let ask := a.ask k.cmd (t.fmt == 2) pa
      match s1.opRows a.q (2 * 2 ^ a.dc) 0 a.qn with
      | .error (c, i) => s1.faultAt c i 0 (cursorOf [])
      | .ok _ =>
        let rows := (List.range a.qn).flatMap fun i => (s1.rowRead t i 0 ask.rowBytes).map (·.1)
        let payload := ask.image ++ rows
        let dst := dirHolder e
        let tag := s1.dev.tagNext
        let gs := attnrParts s1 k.cls payload
        let s2 := (s1.updWork k.seq fun w => { w with progress := 1 }).awaitReply dst k.seq k.cls tag
        if dst = s2.dev.num.toNat then .ok (s2.startServe dst (k.cls.toNat % 4) k.cls tag payload)
        else if s2.dev.peerGone dst then s1.faultAt causePfxRemote dst a.deva (cursorOf [])
        else if !s1.dev.mayAll dst k.cls gs then .error (.wait s1)
        else .ok { s2 with dev := gs.foldl (fun d g => d.sendLane dst (k.cls.toNat % 4) g) s2.dev }

/-- A wait let go. -/
def State.dropWait (s : State) (tag : BitVec 16) : State :=
  { s with ctx := { s.ctx with peer := s.ctx.peer.filter fun w => w.tag != tag } }

/-- The wait that a reply answers: one whose answer it is, else the oldest. -/
def Ctx.attnrWait (c : Ctx) (r : AttnReply) : Option PeerWait :=
  match c.peer.find? fun w => w.kind == 2 && w.data == some (replyImage r) with
  | some w => some w
  | none => c.peer.find? fun w => w.kind == 2 && w.data.isNone

/-- A command that has issued and asked. -/
def Ctx.asking (c : Ctx) (seq : Nat) : Option CmdRec :=
  c.cmds.find? fun k => k.seq == seq && k.ring == .mx && k.stage == .issued && k.work.progress == 1

/-- An ATTNR halts; RESTART starts it again from the entry read (07 R258). -/
def State.failAttnr (s : State) (k : CmdRec) (cause : BitVec 10) (info : Nat) : State :=
  (s.updWork k.seq fun w => { w with progress := 0 }).failCmd .mx k.seq
    { cause := cause, info := BitVec.ofNat 22 info, va := 0, cursor := cursorOf [] }

/-- The merge of a holder's rows into S and O (07 R256, 02 R83). -/
def Attnr.merge (a : Attnr) (s : State) (rows : List AttnRow) : Except MxFail State := do
  let d := 64 * 2 ^ a.dc
  let out ← rows.zipIdx.mapM fun x => do
    let ml ← s.f32Row a.s 0 2 x.2
    let o ← s.f32Row a.o 0 d x.2
    pure (mergeRow (ml.getD 0 0) (ml.getD 1 0) x.1.m x.1.l o x.1.o)
  pure (s.putMerged a.s a.o out)

/-- ATTNR_REPLY (07 R256). -/
def execAttnrReply (r : AttnReply) (s : State) : Outcome :=
  match s.ctx.attnrWait r with
  | none => .next s
  | some w =>
    match s.ctx.asking w.key with
    | none => .next (s.dropWait w.tag)
    | some k =>
      let s1 := s.dropWait w.tag
      let a := attnrOf k.cmd
      match r with
      | .moved => .next (s1.failAttnr k causePfxMoved w.dst)
      | .geometry => .next (s1.failAttnr k causeKvGeometry a.layer)
      | .poisoned => .next (s1.failAttnr k causePoisonConsumed 0)
      | .format => .next (s1.failAttnr k causeMxFormat 0)
      | .partials rows =>
        match a.merge s1 (rows.take a.qn) with
        | .error (c, i) => .next (s1.failAttnr k c i)
        | .ok s2 => .next ((s2.updCmd k.seq fun x => { x with stage := CmdStage.moved }).later (.commandComplete .mx))

/-- ATTNR_TIMEOUT (07 R258): 100 µs after both planes towards the holder failed. -/
def execAttnrTimeout (s : State) : Outcome :=
  let lost (w : PeerWait) : Bool :=
    let p := s.dev.peers.toList.getD w.dst Peer.fresh
    w.kind == 2 && w.data.isNone && (p.unreachable || (p.failA && p.failB))
  match s.ctx.peer.find? lost with
  | none => .next s
  | some w =>
    match s.ctx.asking w.key with
    | none => .next (s.dropWait w.tag)
    | some k => .next ((s.dropWait w.tag).failAttnr k causePfxRemote w.dst)

end Sys2Proof.Machine
end

