-- ==== Sys2Proof/Machine/Mx.lean ====
section
/-!
DEFINITION. The matrix engine's commands and the steps of its arrays (06 R219 to R231, 07 R256; 13 R423, R424).
-/
namespace Sys2Proof.Machine

/-! ## Arrays and turns -/

/-- A step of the machine's own queued unless it waits already. -/
def State.once (s : State) (e : Ev) : State := if s.turns.contains (.own s.here e) then s else s.later e

/-- An array of the core. -/
def CoreSt.array (c : CoreSt) (arr : Bool) : ArraySt := if arr then c.value else c.score
def CoreSt.setArray (c : CoreSt) (arr : Bool) (a : ArraySt) : CoreSt := if arr then { c with value := a } else { c with score := a }

/-- The matrix engine looks at the MX rings of the core's contexts again. -/
def State.wakeEngines (s : State) : State :=
  (List.range 4).foldl (fun x c => x.queue (.engine (4 * s.coreNum + c) .mx)) s

/-- A row whose count has reached THR while the spare row is unused (13 R424). -/
def Bittern.due (b : Bittern) : Option Nat :=
  if b.spare != 0xFF then none
  else (b.rowCnt.zipIdx.find? fun x => decide (b.thr.toNat ≤ x.1.toNat)).map (·.2)

/-- An array that has become free: a row that is due is remapped, and the engine goes on. -/
def State.arrayReleased (s : State) (arr : Bool) : State :=
  let s1 :=
    match (s.core.array arr).bittern.due with
    | some row => s.later (.arrayRowRemap arr row)
    | none => s
  s1.wakeEngines.kickServes

/-- An array that a command still needs and does not hold: a later pass of a halted command, or an ATTN's value pass. -/
def CmdRec.wants (k : CmdRec) (arr : Bool) : Bool :=
  !k.work.holds arr && decide (k.work.pos arr < arrayPasses k.cmd arr)
    && (k.cmd.w0.toNat % 256 != 0x62 || (if arr then k.work.progress == 2 else k.work.progress == 0))

/-- The command takes an array it needs if it is free. -/
def State.takeArray (s : State) (seq : Nat) (arr : Bool) : State :=
  match s.ctx.cmds.find? fun k => k.seq == seq && k.stage == CmdStage.issued with
  | none => s
  | some k =>
    let s1 := if k.wants arr && s.arrayFree arr then s.updWork seq fun w => w.setHold arr true else s
    if (s1.workOf seq).holds arr && !s1.core.frozen then s1.once (.arrayPassEnd arr .agree []) else s1

/-- A command that uses no array and asks no holder: it does its work in one step (06 R227). -/
def CmdRec.helper (k : CmdRec) : Bool :=
  arrayPasses k.cmd false == 0 && arrayPasses k.cmd true == 0 && k.cmd.w0.toNat % 256 != 0x48

/-- What an issued matrix command does next, on a halted ring too (06 R196). -/
def State.kick (s : State) (k : CmdRec) : State :=
  let op := k.cmd.w0.toNat % 256
  if op = 0x48 then
    if k.work.progress = 0 then
      match (attnrOf k.cmd).send s k with
      | .ok s1 => s1
      | .error e => e.atCmd k
    else
      s.ctx.peer.foldl (fun x w =>
        match w.data with
        | some bs => if w.kind == 2 && w.key == k.seq then x.once (.attnrReply (replyOf bs)) else x
        | none => x) s
  else
    let s1 := (s.takeArray k.seq false).takeArray k.seq true
    if op = 0x62 && k.work.progress == 1 && !s1.core.frozen then s1.once .attnSoftmaxStart else s1

/-- The issued commands of the ring go on. -/
def State.kickAll (s : State) : State :=
  (s.ctx.cmds.filter fun k => k.ring == .mx && k.stage == CmdStage.issued).foldl State.kick s

/-! ## Commands -/

/-- A command that has issued: one of the arrays' begins its passes, ATTNR asks its holder, a helper command does its
work (06 R227). -/
def State.startMx (s : State) (k : CmdRec) (j : EngJob) : State :=
  if k.helper then s.runBody k j else s.kick k

/-- A helper command that has issued and not done its work: a RESTART has set it going again (06 R199, R231). -/
def Ctx.helperLeft (c : Ctx) : Option CmdRec :=
  c.cmds.find? fun k => k.ring == .mx && k.stage == CmdStage.issued && k.helper

/-- The matrix engine's turn at an MX ring: issued commands go on, and the head is taken up (06 R191, R228). -/
def mxStep (c : Cmd) (j : EngJob) (s : State) : Outcome :=
  let s1 := s.kickAll
  if (s1.ring .mx).stuck then .next s1
  else
    match s1.ctx.helperLeft with
    | some k => .next (s1.runBody { k with cmd := c } j)
    | none =>
      match s1.head .mx with
      | none => .next s1
      | some k =>
        if s1.ringHeld .mx then .next s1
        else
          let k1 := { k with cmd := c }
          match s1.admitHead k1 j with
          | .error e => .next (e.atCmd k1)
          | .ok (s2, k2) => .next (s2.startMx k2 j)

/-- The work of a helper command. A RESTART does it anew (06 R199, R231). -/
def helperBody (f : State → Except MxFail State) (s : State) (_ : CmdRec) : Except EngStop State :=
  match f s with
  | .ok s1 => .ok s1
  | .error (c, i) => s.faultAt c i 0 (cursorOf [])

/-- A command of the arrays has no work but its passes. -/
def noBody (s : State) (_ : CmdRec) : Except EngStop State := .ok s

/-- A matrix command from its checks. -/
def mxJob (c : Cmd) (bad : List Nat) (needs : List Need) (uses : List TileUse)
    (body : State → CmdRec → Except EngStop State) : EngJob :=
  { bad := bad, gatedByCommit := true, gate := mxGate c needs uses, body := body }

/-- What a product needs and uses. -/
def Product.needs (p : Product) : List Need := [.operand p.a p.m p.kb, .operand p.b p.n p.kb, .f32 p.c p.m (4 * p.n)]
def Product.uses (p : Product) : List TileUse := [.reads p.a, .reads p.b, if p.fresh then .writes p.c else .changes p.c]

/-- DC = 3 (06 R220). -/
def dcBad (w : Word) (lo : Nat) : Bool × Nat := (wordBits w lo 2 == 3, 64 + lo)

/-- The job of MMUL. -/
def mmulJob (c : Cmd) : EngJob :=
  let p := productOf c.w1 (c.w0.getLsbD 27)
  (mxJob c (badBits c (mxZero 1 0) (bitsFrom 53) allBits allBits []) p.needs p.uses noBody)

/-- MMUL (06 R222). -/
def execMmul (_ : Ring) (c : Cmd) (s : State) : Outcome := mxStep c (mmulJob c) s

/-- The job of MMUL2. -/
def mmul2Job (c : Cmd) : EngJob :=
  let p := productOf c.w1 (c.w0.getLsbD 27)
  let q := productOf c.w2 (c.w0.getLsbD 28)
  (mxJob c (badBits c (mxZero 3 0) (bitsFrom 53) (bitsFrom 53) allBits []) (p.needs ++ q.needs) (p.uses ++ q.uses) noBody)

/-- MMUL2 (06 R222). -/
def execMmul2 (_ : Ring) (c : Cmd) (s : State) : Outcome := mxStep c (mmul2Job c) s

/-- The job of ATTN. -/
def attnJob (c : Cmd) : EngJob :=
  let a := chunkOf c
  (mxJob c (badBits c (mxZero 1 (2 ^ 32 - 1)) (bitsFrom 55) 0 (bitsFrom 32) [dcBad c.w1 53, (decide (64 < a.klen), 110)])
    [.operand a.q a.qn (a.d / 32), .operand a.k a.klen (a.d / 32), .operand a.v a.d 2, .f32 a.o a.qn (4 * a.d), .f32 a.s a.qn 8]
    [.reads a.q, .reads a.k, .reads a.v] noBody)

/-- ATTN (06 R224, R228): Q, K and V are gated at issue. -/
def execAttn (_ : Ring) (c : Cmd) (s : State) : Outcome := mxStep c (attnJob c) s

/-- The job of MXV. -/
def mxvJob (c : Cmd) : EngJob :=
  let p := matVecOf c
  (mxJob c (badBits c (mxZero 1 0) (bitsFrom 43) allBits allBits [])
    [.operand p.w p.n p.kb, .operand p.x 1 p.kb, .f32 p.y 1 (4 * p.n)]
    [.reads p.w, .reads p.x, if p.fresh then .writes p.y else .changes p.y] noBody)

/-- MXV (06 R226). -/
def execMxv (_ : Ring) (c : Cmd) (s : State) : Outcome := mxStep c (mxvJob c) s

/-- The job of MZERO. -/
def mzeroJob (c : Cmd) : EngJob :=
  let i := wordBits c.w1 0 8
  (mxJob c (badBits c (mxZero 0 0) (bitsFrom 8) allBits allBits []) [.any i] [.writes i]
    (helperBody fun s => .ok (s.zeroTile i)))

/-- MZERO (06 R227). -/
def execMzero (_ : Ring) (c : Cmd) (s : State) : Outcome := mxStep c (mzeroJob c) s

/-- The job of SINIT. -/
def sinitJob (c : Cmd) : EngJob :=
  let a := statOf c
  let oz := c.w0.getLsbD 27
  (mxJob c
    (badBits c (mxZero 1 0) (bitsFrom 26 + 2 ^ 22 + 2 ^ 23 + if oz then 0 else 0xFF00) allBits allBits [dcBad c.w1 24])
    (.f32 a.s a.qn 8 :: if oz then [.f32 a.o a.qn (4 * a.d)] else [])
    (.writes a.s :: if oz then [.writes a.o] else [])
    (helperBody fun s => .ok (a.init oz s)))

/-- SINIT (06 R227). -/
def execSinit (_ : Ring) (c : Cmd) (s : State) : Outcome := mxStep c (sinitJob c) s

/-- The job of SFIN. -/
def sfinJob (c : Cmd) : EngJob :=
  let a := statOf c
  (mxJob c (badBits c (mxZero 0 0) (bitsFrom 26 + 2 ^ 22 + 2 ^ 23) allBits allBits [dcBad c.w1 24])
    [.f32 a.s a.qn 8, .f32 a.o a.qn (4 * a.d)] [.reads a.s, .changes a.o] (helperBody a.finalise))

/-- SFIN (06 R227). -/
def execSfin (_ : Ring) (c : Cmd) (s : State) : Outcome := mxStep c (sfinJob c) s

/-- The job of SMERGE. -/
def smergeJob (c : Cmd) : EngJob :=
  let a := mergeOf c
  (mxJob c (badBits c (mxZero 0 0) (bitsFrom 42 + 2 ^ 38 + 2 ^ 39) allBits allBits [dcBad c.w1 40])
    [.f32 a.s1 a.qn 8, .f32 a.o1 a.qn (4 * a.d), .f32 a.s2 a.qn 8, .f32 a.o2 a.qn (4 * a.d)]
    [.changes a.s1, .changes a.o1, .reads a.s2, .reads a.o2] (helperBody a.run))

/-- SMERGE (06 R227). -/
def execSmerge (_ : Ring) (c : Cmd) (s : State) : Outcome := mxStep c (smergeJob c) s

/-- The job of SCOPY. -/
def scopyJob (c : Cmd) : EngJob :=
  let src := wordBits c.w1 0 8
  let dst := wordBits c.w1 8 8
  let qn := wordBits c.w1 16 6 + 1
  (mxJob c (badBits c (mxZero 0 0) (bitsFrom 22) allBits allBits []) [.f32 src qn 8, .f32 dst qn 8] [.reads src, .writes dst]
    (helperBody (scopyRun src dst qn)))

/-- SCOPY (06 R227). -/
def execScopy (_ : Ring) (c : Cmd) (s : State) : Outcome := mxStep c (scopyJob c) s

/-- The job of ATTNR. -/
def attnrJob (c : Cmd) : EngJob :=
  let a := attnrOf c
  (mxJob c
    (badBits c (w0Zero 1 (2 ^ 32 - 1)) (bitsFrom 40) (bitsFrom 56 + bitsUpTo 4) 0
      [(wordBits c.w0 24 3 != 4, 24), dcBad c.w1 30])
    a.needs a.uses noBody)

/-- ATTNR (07 R256): SCOPE is pool. -/
def execAttnr (_ : Ring) (c : Cmd) (s : State) : Outcome := mxStep c (attnrJob c) s

/-! ## Passes (06 R228 to R231) -/

/-- A count that saturates (13 R423). -/
def bumpCount (c : BitVec 16) : BitVec 16 := if c = 0xFFFF then c else c + 1

/-- Counts raised at some places. -/
def raiseAt (xs : List (BitVec 16)) (at_ : List Nat) : List (BitVec 16) := at_.foldl (fun l i => l.modify i bumpCount) xs

/-- A mismatch entered in a bittern record: the rows blamed, and the columns of row `g` that differed, with the 16 × 16
sub-array of each differing cell (13 R423). -/
def Bittern.enter (b : Bittern) (rows : List Nat) (g : Nat) (cols : List Nat) : Bittern :=
  { b with rowCnt := raiseAt b.rowCnt rows, laneCnt := raiseAt b.laneCnt cols,
           subCnt := raiseAt b.subCnt (cols.map fun c => g / 16 * 4 + c / 16) }

/-- The rows that an outcome blames: a main row, the gauge row (row 64), or both (06 R230, 13 R424). -/
def blamedRows (o : Gauge) (g : Nat) : List Nat :=
  match o with
  | .agree => []
  | .mainRow => [g]
  | .gaugeRow => [64]
  | .allDiffer => [g, 64]

/-- The end of a pass as the gauge sees it: the pass is counted, and a mismatch is entered and committed later. -/
def State.gauged (s : State) (arr : Bool) (o : Gauge) (cols : List Nat) : State :=
  let a := s.core.array arr
  let g := a.passes % 64
  let a1 := { a with passes := a.passes + 1,
                     bittern := if o = .agree then a.bittern else a.bittern.enter (blamedRows o g) g cols }
  let s1 := { s with core := s.core.setArray arr a1 }
  if o = .agree then s1 else s1.later (.bitternCommit arr)

/-- What a pass of an array does to the command that holds it: the score pass of an ATTN hands its scores on, the two
halves of an MXV's pass are written together, every other pass writes its elements. -/
def State.passWork (s : State) (k : CmdRec) (arr : Bool) : Except MxFail State :=
  let w := k.work
  let i := w.pos arr
  let done (x : State) : State := x.updWork k.seq fun w => w.setPos arr (i + 1)
  match k.cmd.w0.toNat % 256 with
  | 0x60 => ((productOf k.cmd.w1 (k.cmd.w0.getLsbD 27)).pass s i).map done
  | 0x61 =>
    ((if arr then productOf k.cmd.w2 (k.cmd.w0.getLsbD 28) else productOf k.cmd.w1 (k.cmd.w0.getLsbD 27)).pass s i).map done
  | 0x62 =>
    let a := chunkOf k.cmd
    if arr then (a.valuePass s (softRowsOf a.qn w.elems)).map done
    else
      match a.scorePass s with
      | .error e => .error e
      | .ok rows => .ok (done (s.updWork k.seq fun w => { w with progress := 1, elems := rows.flatten }))
  | _ =>
    match (matVecOf k.cmd).pass s i with
    | .error e => .error e
    | .ok s1 => .ok (done (if i < w.pos (!arr) then s1 else s))

/-- A command none of whose passes is left. -/
def CmdRec.allPassed (k : CmdRec) (w : CmdWork) : Bool :=
  decide (arrayPasses k.cmd false ≤ w.pos false) && decide (arrayPasses k.cmd true ≤ w.pos true)

/-- After a pass: the array is let go with its last one, and the command moves on or is complete. -/
def State.afterPass (s : State) (k : CmdRec) (arr : Bool) : State :=
  let w := s.workOf k.seq
  let last := decide (arrayPasses k.cmd arr ≤ w.pos arr)
  let s1 := if last then (s.updWork k.seq fun w => w.setHold arr false).arrayReleased arr else s
  if k.allPassed w then (s1.updCmd k.seq fun x => { x with stage := CmdStage.moved }).later (.commandComplete .mx)
  else s1.kickAll

/-- A command halts at its pass; its arrays serve others meanwhile (06 R231). -/
def State.failPass (s : State) (k : CmdRec) (cause : BitVec 10) (info : Nat) : State :=
  let free (w : CmdWork) : CmdWork := (w.setHold false false).setHold true false
  let s1 := (s.updWork k.seq free).failCmd .mx k.seq
    { cause := cause, info := BitVec.ofNat 22 info, va := 0, cursor := cursorOf [] }
  (s1.arrayReleased false).arrayReleased true

/-- The command of the context that holds an array. -/
def Ctx.holder (c : Ctx) (arr : Bool) : Option CmdRec :=
  c.cmds.find? fun k => k.ring == .mx && k.stage == CmdStage.issued && k.work.holds arr

/-- A pass of an array for the oldest request that waits for one (06 R230, 07 R257), between the commands of the rings of the
core that serves. A pass that ARRAY_CHECK leaves without results is made again (log entry 48). -/
def State.servePass (s : State) (arr : Bool) (o : Gauge) (cols : List Nat) : State :=
  if s.coreNum != 0 || s.core.frozen || !s.arrayFree arr then s
  else
    match s.dev.serves.find? fun v => v.passes.head? == some arr with
    | none => s.serveAll
    | some v =>
      let done (x : Serve) : Serve := if x == v && o != .allDiffer then { x with passes := x.passes.drop 1 } else x
      let s1 := s.gauged arr o cols
      { s1 with dev := { s1.dev with serves := s1.dev.serves.map done } }.serveAll

/-- ARRAY_PASS_END (06 R229 to R231): a failed read or ARRAY_CHECK halts the command, and the pass writes nothing; every
other outcome writes the results, which are those of a pass that met no fault. The halves of an MXV's pass keep step. -/
def execArrayPassEnd (arr : Bool) (o : Gauge) (cols : List Nat) (s : State) : Outcome :=
  match s.ctx.holder arr with
  | none => .next (s.servePass arr o cols)
  | some k =>
    let other := k.cmd.w0.toNat % 256 == 0x63 && decide (k.work.pos (!arr) < k.work.pos arr)
    if s.core.frozen || other then .next s
    else
      match s.passWork k arr with
      | .error (c, i) => .next (s.failPass k c i)
      | .ok s1 =>
        if o = .allDiffer then
          let g := (s.core.array arr).passes % 64
          .next ((s.gauged arr o cols).failPass k causeArrayCheck ((if arr then 64 else 0) + g))
        else .next ((s1.gauged arr o cols).afterPass k arr)

/-- The oldest ATTN of the context whose S and O are still to be gated. -/
def Ctx.softWaiting (c : Ctx) : Option CmdRec :=
  c.cmds.find? fun k =>
    k.ring == .mx && k.stage == CmdStage.issued && k.cmd.w0.toNat % 256 == 0x62 && decide (k.work.progress < 2)

/-- S and O gated once (06 R228): they go to FILLING. -/
def Chunk.gateSoft (a : Chunk) (s : State) (k : CmdRec) : Except EngStop State :=
  if !k.work.targets.isEmpty then .ok s
  else do
    s.ownAll [a.o, a.s]
    (Need.f32 a.o a.qn (4 * a.d)).check s
    (Need.f32 a.s a.qn 8).check s
    let uses := [TileUse.changes a.o, TileUse.changes a.s]
    let s1 ← State.awaitUses k uses uses s
    let s2 := (useTargets uses).foldl (fun x t => x.updTile t.1 fun e => { e with state := t.2 }) s1
    pure (s2.updWork k.seq fun w => { w with targets := (useTargets uses).map fun t => (t.1, (s1.tile t.1).state) })

/-- ATTN_SOFTMAX_START (06 R228, 02 R81). -/
def execAttnSoftmaxStart (s : State) : Outcome :=
  match s.ctx.softWaiting with
  | none => .next s
  | some k =>
    if k.work.progress ≠ 1 || s.core.frozen then .next s
    else
      let a := chunkOf k.cmd
      match a.gateSoft s k with
      | .error e => .next (e.atCmd k)
      | .ok s1 =>
        match a.softStep s1 (scoresOf a.qn k.work.elems) with
        | .error (c, i) => .next (s1.failPass k c i)
        | .ok rows =>
          .next ((s1.updWork k.seq fun w => { w with progress := 2, elems := rows.flatMap SoftRow.image }).kickAll)

/-- MATRIX_FREEZE (06 R229): the arrays and the soft-maximum stage of the core stop where they are. -/
def execMatrixFreeze (s : State) : Outcome := .next { s with core := { s.core with frozen := true } }

/-- MATRIX_RESUME (06 R229): every pass of the core goes on, those of halted rings too (06 R196). -/
def execMatrixResume (s : State) : Outcome :=
  let s1 := { s with core := { s.core with frozen := false } }
  let s2 := (List.range 4).foldl (fun x c => x.atPlace (4 * s.coreNum + c) State.kickAll) s1
  .next s2.wakeEngines.kickServes

/-! ## Bittern records (13 R423, R424) -/

/-- ARRAY_ROW_REMAP (13 R424; 15 R471): between two commands of the array. -/
def execArrayRowRemap (arr : Bool) (row : Nat) (s : State) : Outcome :=
  let a := s.core.array arr
  let due := decide (a.bittern.thr.toNat ≤ (a.bittern.rowCnt.getD row 0).toNat) && decide (row < 65) && a.bittern.spare == 0xFF
  if due && s.arrayFree arr then
    let core := s.core.setArray arr { a with bittern := { a.bittern with spare := BitVec.ofNat 8 row } }
    .next ({ s with core := core, dev := s.dev.event 8 s.dev.num.toNat (s.coreNum * 2 ^ 8 + (if arr then 2 ^ 7 else 0) + row) }.later
      (.bitternCommit arr))
  else .next s

/-- BITTERN_COMMIT (13 R423): Bizil keeps the array's record in non-volatile storage. -/
def execBitternCommit (arr : Bool) (s : State) : Outcome :=
  let b := s.dev.bizil
  let k := s.clu.hwCore s.coreNum
  let kept := b.records.filter fun r => r.1 != k || r.2.1 != arr
  .next { s with dev := { s.dev with bizil := { b with records := kept ++ [(k, arr, (s.core.array arr).bittern)] } } }

end Sys2Proof.Machine
end

