-- ==== Sys2Proof/Machine/Migration.lean ====
section
/-!
DEFINITION. The units that move and fade pages: the migration unit (10 R351), the heat sweeper (10 R346), the lagoon
scrubber (10 R337), and the switch of an HBM channel to its spare (10 R334).
-/
namespace Sys2Proof.Machine

/-! ## The migration unit -/

/-- The frames of a target memory's ring (10 R351). -/
def Migration.frames (m : Migration) (tres : Nat) : List Nat :=
  match tres with
  | 0 => m.freeHbm
  | 1 => m.freeVault
  | _ => m.freePool

/-- The head of a ring taken. -/
def Migration.takeFrame (m : Migration) (tres : Nat) : Migration :=
  match tres with
  | 0 => { m with freeHbm := m.freeHbm.tail }
  | 1 => { m with freeVault := m.freeVault.tail }
  | _ => { m with freePool := m.freePool.tail }

/-- The migration unit changed. -/
def State.migrate (s : State) (f : Migration → Migration) : State := { s with dev := { s.dev with mig := f s.dev.mig } }

/-- A request that ends without a move, uncounted: its page already lies where it asks (06 R214). -/
def State.endMig (s : State) (r : MigReq) : State := s.migrate fun m => { m with reqs := m.reqs.erase r }

/-- A request dropped and counted (10 R351). -/
def State.dropMig (s : State) (r : MigReq) : State :=
  let s1 := s.endMig r
  { s1 with dev := { s1.dev with tel := { s1.dev.tel with migDropped := satInc s1.dev.tel.migDropped 1 } } }

/-- A migration given up whose leaf software has changed: the frame goes back, and the abandonment is counted. -/
def State.giveUpMig (s : State) (r : MigReq) (frame : Nat) : State :=
  let s1 := (s.endMig r).migrate fun m => m.putBack r.tres frame
  { s1 with dev := { s1.dev with tel := { s1.dev.tel with migAbandoned := satInc s1.dev.tel.migAbandoned 1 } } }

/-- The request that is served next: the one with the earliest deadline, the oldest of equals. -/
def earliest : List MigReq → Option MigReq
  | [] => none
  | r :: t =>
    match earliest t with
    | none => some r
    | some x => if x.deadline < r.deadline then some x else some r

/-- A leaf with another frame, and MIG as given; nothing else of it changes. -/
def leafAt (e : BitVec 64) (frame : Nat) (mig : Bool) : BitVec 64 :=
  putBit (e &&& ~~~(BitVec.ofNat 64 ((2 ^ 40 - 1) * 2 ^ 12)) ||| BitVec.ofNat 64 (frame / 2 ^ 12 % 2 ^ 40 * 2 ^ 12)) 55 mig

/-- The page of an address as a range of its address space. -/
def pageSpan (asid : BitVec 16) (va lvl : Nat) : PageSpan :=
  { asid := asid, va := va / 2 ^ pageShift lvl * 2 ^ pageShift lvl, len := 2 ^ pageShift lvl, all := false }

/-- Whether a page may move into a frame: the new leaf is consistent (10 R342), the frame is aligned to the page, and
neither end is a peer's memory. -/
def State.frameFits (s : State) (e : BitVec 64) (lvl frame : Nat) : Bool :=
  frame % 2 ^ pageShift lvl == 0 && residency frame != 3 && residency (leafFrame e lvl) != 3
    && !s.dev.poolGone (leafFrame e lvl) && s.dev.leafConsistent s.allClus (leafAt e frame false) lvl

/-- MIGRATION_START (10 R351, steps 1 and 2): one request at a time, the earliest deadline first. -/
def execMigrationStart (s : State) : Outcome :=
  if s.dev.mig.reqs.any fun r => r.active.isSome then .next s
  else
    match earliest s.dev.mig.reqs with
    | none => .next s
    | some r =>
      if r.deadline < s.dev.time then .next (s.dropMig r)
      else
        match s.dev.walk s.allClus r.va r.root [4, 3, 2, 1, 0] with
        | .leaf lvl e epa =>
          if lvl = 2 ∨ leafMig e then .next (s.dropMig r)
          else if residency (leafFrame e lvl) = r.tres then .next (s.endMig r)
          else
            match s.dev.mig.frames r.tres with
            | [] => .next (s.dropMig r)
            | new :: _ =>
              if !s.frameFits e lvl new then .next (s.dropMig r)
              else
                let old := leafFrame e lvl
                let s1 := s.migrate fun m =>
                  { m.takeFrame r.tres with
                    reqs := m.reqs.map fun x => if x == r then { x with active := some (epa, old, new) } else x }
                let s2 := { s1 with dev := s1.dev.changeEntry epa fun x => putBit x 55 true }
                .next (s2.shootDown (pageSpan r.asid r.va lvl))
        | .wait => .next s
        | _ => .next (s.dropMig r)

/-- The leaf as step 4 leaves it: a copy of the entry that software has changed to another frame is left as it is. -/
def leafMoved (old new lvl : Nat) (e : BitVec 64) : BitVec 64 := if leafFrame e lvl = old then leafAt e new false else e

/-- MIGRATION_SWITCH (10 R351, steps 3 to 5). It waits while an access translated through the page is outstanding, and while a
dirty line of either frame has no head to be written back by (14 R447); a page that software has mapped elsewhere in the
meantime is not moved. -/
def execMigrationSwitch (s : State) : Outcome :=
  match s.dev.mig.reqs.find? fun r => r.active.isSome with
  | none => .next s
  | some r =>
    match r.active with
    | none => .next s
    | some (epa, old, new) =>
      let s0 := s.drain
      match s0.dev.walk s0.allClus r.va r.root [4, 3, 2, 1, 0] with
      | .leaf lvl e pa =>
        let p := pageSpan r.asid r.va lvl
        if pa ≠ epa ∨ !leafMig e ∨ leafFrame e lvl ≠ old then .next (s0.giveUpMig r new)
        else if !s0.frameFits e lvl new then .next { s0 with dev := s0.dev.abandon epa }
        else if (s0.anyCtx fun c => c.translated p) || s0.dev.spanWaits old p.len || s0.dev.spanWaits new p.len then .next s0
        else
          let d := ((s0.dev.flushSpan old p.len).flushSpan new p.len).copyMem old new (p.len / 128)
          let s1 := { s0 with dev := d.changeEntry epa (leafMoved old new lvl) }
          .next (((s1.shootDown p).endMig r).migrate fun m => { m with returned := m.returned ++ [old] })
      | .wait => .next s0
      | _ => .next (s0.giveUpMig r new)

/-- MIGRATION_DEADLINE_DROP (06 R214, 10 R351): a request not started by its deadline. -/
def execMigrationDeadlineDrop (s : State) : Outcome :=
  match s.dev.mig.reqs.find? fun r => r.active.isNone && decide (r.deadline < s.dev.time) with
  | none => .next s
  | some r => .next (s.dropMig r)

/-- MIGRATION_ABANDON (10 R351): the write that waits goes on with the old frame. It waits while the leaf's module has no head. -/
def execMigrationAbandon (s : State) : Outcome :=
  match (s.dev.mig.reqs.find? fun r => r.active.isSome).bind (·.active) with
  | none => .next s
  | some (epa, _, _) => .next (if s.dev.noHead epa then s else { s with dev := s.dev.abandon epa })

/-! ## Heat -/

/-- The leaves below a node, through the levels given, top first. -/
def Device.leavesBelow (d : Device) (clus : List ClusterSt) : List Nat → Nat → List Nat
  | [], _ => []
  | lvl :: rest, node =>
    (List.range (if lvl = 4 then 16 else 512)).flatMap fun i =>
      let epa := node + 8 * i
      let (e, p) := d.readEntry epa
      if p || d.noHead epa || !e.getLsbD 0 then []
      else if lvl == 0 || (lvl ≤ 2 && e.getLsbD 1) then [epa]
      else if e.getLsbD 54 || e.getLsbD 55 || !d.nodeMemory clus (leafAddr e) then []
      else d.leavesBelow clus rest (leafAddr e)

/-- A leaf's heat faded by one (10 R346). -/
def faded (e : BitVec 64) : BitVec 64 :=
  let one (x : BitVec 64) (lo : Nat) := if x.extractLsb' lo 2 = 0 then x else x - BitVec.ofNat 64 (2 ^ lo)
  one (one e 56) 58

/-- The top nodes of the address spaces in use: those of launches and of queues. -/
def State.roots (s : State) : List Nat :=
  ((s.dev.sluice.launches.map (·.root)) ++ s.dev.sluice.queues.map fun x => (s.queueDesc x.q).root).eraseDups

/-- HEAT_SWEEP (10 R346): each leaf reachable from the address spaces fades once. -/
def execHeatSweep (s : State) : Outcome :=
  let leaves := (s.roots.flatMap fun r => s.dev.leavesBelow s.allClus [4, 3, 2, 1, 0] r).eraseDups
  .next { s with dev := leaves.foldl (fun d epa => d.changeEntry epa faded) s.dev }

/-! ## The lagoon scrubber -/

/-- The frame's STAMP lies outside the range that the pass keeps (10 R337). -/
def Device.scrubStale (d : Device) (f : Frame) : Bool := decide ((d.epoch - d.scrub.pass).toNat < (f.stamp - d.scrub.pass).toNat)

/-- The visit of one frame (10 R337): one that is invalidated is written back first. -/
def Device.scrubFrame (d : Device) (idx : Nat) : Device :=
  match d.lagoon.find? fun f => f.idx == idx with
  | none => d
  | some f =>
    if !d.scrubStale f then d
    else
      let d1 := d.cleanFrame idx
      { d1 with lagoon := d1.lagoon.filter fun x => x.idx != idx || x.dirty }

/-- The visit of a frame that has to be written back, and whose module has no head, waits (10 R337, 14 R447). -/
def Device.scrubWaits (d : Device) (idx : Nat) : Bool :=
  d.lagoon.any fun f => f.idx == idx && f.dirty && d.scrubStale f && d.noHead (d.framePa f)

/-- LAGOON_SCRUB_VISIT (10 R337): a pass begins as the one before it ends. -/
def execLagoonScrubVisit (s : State) : Outcome :=
  let n := s.dev.lagoonBytes / 2048
  if n = 0 || s.dev.scrubWaits s.dev.scrub.visited then .next s
  else
    let d := s.dev.scrubFrame s.dev.scrub.visited
    let sc : Scrubber :=
      if n ≤ d.scrub.visited + 1 then { base := d.scrub.pass, pass := d.epoch, visited := 0, passes := d.scrub.passes + 1 }
      else { d.scrub with visited := d.scrub.visited + 1 }
    .next { s with dev := { d with scrub := sc } }

/-! ## Spare channels -/

/-- CHANNEL_SPARE_SWITCH (10 R334, 13 R428). -/
def execChannelSpareSwitch (stack channel : Nat) (s : State) : Outcome :=
  .next { s with dev := { s.dev with switching := (stack, channel) :: s.dev.switching.erase (stack, channel) } }

/-- SPARE_CHANNEL_SWITCH_END (10 R334). -/
def execSpareChannelSwitchEnd (stack channel : Nat) (s : State) : Outcome :=
  .next { s with dev := { s.dev with switching := s.dev.switching.erase (stack, channel) } }

end Sys2Proof.Machine
end

