-- ==== Sys2Proof/Machine/Pool.lean ====
section
/-!
DEFINITION. Pool modules and fabric ports: back-invalidation snoops (14 R439), dynamic capacity (14 R443, R444), heads
and their failover (14 R435, R445, R447), lanes and retraining (14 R432, R434).
-/
namespace Sys2Proof.Machine

/-- The device changed. -/
def State.onDev (s : State) (f : Device → Device) : State := { s with dev := f s.dev }

/-! ## Snoops -/

/-- BI_SNOOP (14 R436, R439): it acts on the whole line, if the block cache holds it under BI. Copies in the scalar data caches go
either way. -/
def execBiSnoop (pa : Nat) (k : Snoop) (s : State) : Outcome :=
  match s.dev.lineAt pa with
  | none => .next s
  | some l =>
    if residency l.pa ≠ 2 ∨ l.mode ≠ 0 then .next s
    else
      match k with
      | .invalidate => .next (s.onDev fun d => d.flushLine l.pa)
      | .downgrade =>
        .next (s.onDev fun d =>
          let d1 := (d.cleanLine l.pa).dropCopies l.pa
          { d1 with lines := d1.lines.map fun x => if x.pa == l.pa then { x with excl := false } else x })

/-! ## Capacity -/

/-- A module changed. -/
def Device.updModule (d : Device) (m : Nat) (f : Module → Module) : Device := { d with modules := updAt d.modules m f }

/-- The extent that starts at an address. -/
def Device.extentAt (d : Device) (start : Nat) : Option Extent :=
  (d.modules.toList.getD (moduleOf start) Module.absent).extents.find? fun e => e.start == start

/-- An extent's state changed. -/
def Device.setExtent (d : Device) (start : Nat) (st : ExtState) : Device :=
  d.updModule (moduleOf start) fun m =>
    { m with extents := m.extents.map fun e => if e.start == start then { e with state := st } else e }

/-- An extent back to NONE. -/
def Device.dropExtent (d : Device) (start : Nat) : Device :=
  d.updModule (moduleOf start) fun m => { m with extents := m.extents.filter fun e => e.start != start }

/-- The device can take an extent (14 R443): aligned, in the module's window, with an entry free for it. -/
def Device.offerFits (d : Device) (m start len : Nat) : Bool :=
  decide (m < 4) && start % 2 ^ 28 == 0 && len % 2 ^ 28 == 0 && len != 0
    && decide (2 ^ 50 + 2 ^ 48 * m ≤ start) && decide (start + len ≤ 2 ^ 50 + 2 ^ 48 * (m + 1))
    && decide ((d.modules.toList.getD m Module.absent).extents.length < 512)

/-- The fabric ports are held: nothing of theirs happens in the first phase of a reset (15 R463). -/
def Device.portsHeld (d : Device) : Bool := d.state == .reset

/-- ADD_CAPACITY (14 R443): offered to the host driver, or declined. -/
def execAddCapacity (m start len : Nat) (s : State) : Outcome :=
  if s.dev.portsHeld || !s.dev.offerFits m start len || (s.dev.extentAt start).isSome then .next s
  else
    .next (s.onDev fun d =>
      (d.updModule m fun x => { x with extents := x.extents ++ [{ start := start, len := len, state := .offered }] }).event
        1 m start)

/-- RELEASE_CAPACITY (14 R443). -/
def execReleaseCapacity (start : Nat) (s : State) : Outcome :=
  match s.dev.extentAt start with
  | some ⟨_, _, .online⟩ => .next (s.onDev fun d => (d.setExtent start .releasing).event 2 (moduleOf start) start)
  | _ => .next s

/-- CAPACITY_ACCEPT (14 R443). -/
def execCapacityAccept (start : Nat) (s : State) : Outcome :=
  match s.dev.extentAt start with
  | some ⟨_, _, .offered⟩ => .next (s.onDev fun d => d.setExtent start .online)
  | _ => .next s

/-- CAPACITY_DECLINE (14 R443). -/
def execCapacityDecline (start : Nat) (s : State) : Outcome :=
  match s.dev.extentAt start with
  | some ⟨_, _, .offered⟩ => .next (s.onDev fun d => d.dropExtent start)
  | _ => .next s

/-- A context has an access to a range of physical addresses that has not performed. -/
def Ctx.reaching (c : Ctx) (pa n : Nat) : Bool :=
  let one (r : Posted) : Bool := r.touches pa n
  c.posted.any one
    || (c.loop.held.any fun h => match h with
      | .post r => one r
      | _ => false)
    || c.vatom.any fun v => v.out.any fun l => meets l.pa 4 pa n

/-- CONFIRM_REVOCATION (14 R443): the extent goes once every access to it has performed. -/
def execConfirmRevocation (start : Nat) (s : State) : Outcome :=
  match s.dev.extentAt start with
  | some ⟨_, len, .releasing⟩ =>
    let s0 := s.drain
    if s0.anyCtx fun c => c.reaching start len then .next s0
    else .next (s0.onDev fun d => d.dropExtent start)
  | _ => .next s

/-- Dirty lines and dirty lagoon sectors of a range dropped (14 R444). -/
def Device.dropDirty (d : Device) (pa n : Nat) : Device :=
  let d1 := (d.lines.filter fun l => l.dirty && meets l.pa 128 pa n).foldl (fun x l => x.dropLine l.pa) d
  { d1 with lagoon := d1.lagoon.filter fun f => !(f.dirty && meets (d1.framePa f) 2048 pa n) }

/-- FORCED_REMOVAL (14 R443, R444). -/
def execForcedRemoval (start : Nat) (s : State) : Outcome :=
  match s.dev.extentAt start with
  | some e =>
    if e.state = .offered then .next s
    else .next (s.onDev fun d => (d.dropExtent start).dropDirty e.start e.len)
  | none => .next s

/-! ## Ports and heads -/

def Device.port (d : Device) (p : Nat) : Port := d.ports.toList.getD p Port.absent

/-- A port changed. -/
def Device.updPort (d : Device) (p : Nat) (f : Port → Port) : Device := { d with ports := updAt d.ports p f }

/-- The head that a pool port is (14 R433) put in or out of use. -/
def Device.setHead (d : Device) (p : Nat) (inUse : Bool) : Device :=
  if 8 ≤ p then d
  else d.updModule (p / 2) fun m => if p % 2 = 0 then { m with headA := inUse } else { m with headB := inUse }

/-- The head that serves a request of a module: A for physical address bit 8 clear and B for it set while both are in
use, and the one in use otherwise (14 R435). -/
def Module.headB? (m : Module) (pa : Nat) : Option Bool :=
  match m.headA, m.headB with
  | true, true => some (pa.testBit 8)
  | true, false => some false
  | false, true => some true
  | false, false => none

/-- A port goes down: its head goes out of use, and its requests are served by the other head (14 R445); a switch plane with
both its ports down fails towards every destination (14 R455). -/
def Device.portDown (d : Device) (p : Nat) (retrains : Bool) : Device :=
  let d1 := (d.updPort p fun x => { x with up := false, retraining := retrains }).setHead p false
  if 8 ≤ p then d1.planeDown (decide (10 ≤ p)) else d1

/-- A port carries traffic again. -/
def Device.portUp (d : Device) (p : Nat) : Device :=
  (d.updPort p fun x => { x with up := true, retraining := false }).setHead p true

/-- HEAD_LINK_DOWN (14 R445): of a pool port. -/
def execHeadLinkDown (port : Nat) (s : State) : Outcome :=
  if 8 ≤ port ∨ !(s.dev.port port).up then .next s
  else .next (s.onDev fun d => (d.portDown port true).event 4 port 0)

/-- HEAD_COMPLETION_TIMEOUT (14 R445): the head goes out of use though its port is up. -/
def execHeadCompletionTimeout (port : Nat) (s : State) : Outcome := .next (s.onDev fun d => d.setHead port false)

/-- HEAD_RECOVER (14 R445; 15 R471): the port has trained again. One that three lane failures have taken down stays down until the
next boot (14 R434). -/
def execHeadRecover (port : Nat) (s : State) : Outcome :=
  if s.dev.portsHeld || decide (8 ≤ port) || decide (3 ≤ (s.dev.port port).spares) then .next s
  else .next (s.onDev fun d => (d.portUp port).event 4 port (d.port port).spares)

/-- MODULE_UNREACHABLE (14 R447). -/
def execModuleUnreachable (m : Nat) (s : State) : Outcome :=
  let x := s.dev.modules.toList.getD m Module.absent
  if s.dev.portsHeld || x.headA || x.headB || x.unreachable then .next s
  else
    let lost := s.dev.lines.filter fun l => residency l.pa == 2 && moduleOf l.pa == m && l.mode == 0 && l.dirty
    .next (s.onDev fun d =>
      let d1 := d.updModule m fun x => { x with unreachable := true }
      (lost.foldl (fun y l => y.dropLine l.pa) d1).event 5 m 0)

/-- MODULE_REENUMERATION (14 R447): back in service through the heads whose ports are up. -/
def execModuleReenumeration (m : Nat) (s : State) : Outcome :=
  if !(s.dev.modules.toList.getD m Module.absent).unreachable then .next s
  else
    .next (s.onDev fun d => d.updModule m fun x =>
      { x with unreachable := false, headA := (d.port (2 * m)).up, headB := (d.port (2 * m + 1)).up })

/-- LANE_FAILURE (14 R434): the spare, then ×4, then down until the next boot. -/
def execLaneFailure (port : Nat) (s : State) : Outcome :=
  let n := (s.dev.port port).spares + 1
  if s.dev.portsHeld || decide (3 < n) then .next s
  else
    .next (s.onDev fun d =>
      ((d.updPort port fun x => { x with spares := n, x4 := x.x4 || n == 2 }).portDown port (decide (n < 3))).event 4 port n)

/-- PORT_RETRAIN_DONE (14 R434). -/
def execPortRetrainDone (port : Nat) (s : State) : Outcome :=
  if !(s.dev.port port).retraining then .next s
  else .next (s.onDev fun d => (d.portUp port).event 4 port (d.port port).spares)

/-- IDE_FAILURE (14 R432, 15 R472): a flit that the link recovers by a retry is counted; what it cannot recover takes the port
down. -/
def execIdeFailure (rep : IdeReport) (s : State) : Outcome :=
  if !(s.dev.port rep.port).up then .next s
  else if rep.recovered then
    .next (s.onDev fun d => { d with tel := { d.tel with ideRetries := updAt d.tel.ideRetries rep.port fun c => satInc c 1 } })
  else .next (s.onDev fun d => (d.portDown rep.port false).event 4 rep.port 0)

end Sys2Proof.Machine
end

