-- ==== Sys2Proof/Machine/Launch.lean ====
section
/-!
DEFINITION. Dispatch (12 R393, R394): where a pond-1 group fits, how a task starts (01 R53), how a continuation starts
(08 R275), how a saved group comes back (13 R420), and the request for a pre-emption (12 R395).
-/
namespace Sys2Proof.Machine

/-! ## Where a group fits -/

/-- The context holds no task. -/
def Ctx.free (c : Ctx) : Bool := c.status == .free

/-- The contexts of core k, in order. -/
def coreCtxs (cs : List Ctx) (k : Nat) : List Ctx := (cs.drop (4 * k)).take 4

/-- Vector groups reserved on a core: first group and count of each resident task (05 R177). -/
def reservations (cs : List Ctx) : List (Nat × Nat) :=
  (cs.filter fun c => !c.free).map fun c => (c.ctl.vBase.toNat, c.ctl.vLimit.toNat)

/-- A base for a reservation of `v` groups beside others: the lowest (log entry 44). -/
def vectorBase (used : List (Nat × Nat)) (v : Nat) : Option Nat :=
  (List.range 8).find? fun b => decide (b + v ≤ 8) && used.all fun u => decide (u.1 + u.2 ≤ b) || decide (b + v ≤ u.1)

/-- The member of a launch that a job belongs to. -/
def State.memberOf (s : State) (j : Job) : Option Member :=
  (s.dev.sluice.launch? j.launch).bind fun l => l.members[j.mem]?

/-- XCORE of the member a job belongs to (12 R394). -/
def State.jobXcore (s : State) (j : Job) : Bool := (s.memberOf j).any fun m => m.pkt.xcore

/-- A core that the XCORE rule leaves open to a launch (12 R393, R394). -/
def State.coreOpen (s : State) (cs : List Ctx) (k launch : Nat) (xcore : Bool) : Bool :=
  (coreCtxs cs k).all fun c =>
    match c.job with
    | none => true
    | some j => if xcore then j.launch == launch else !s.jobXcore j

/-- Free contexts of core k that tasks with a reservation of `v` groups can take, each with its base. -/
def coreSlots (cs : List Ctx) (k v : Nat) : List (Nat × Nat) :=
  ((coreCtxs cs k).zipIdx.foldl
    (fun (acc : List (Nat × Nat) × List (Nat × Nat)) x =>
      if !x.1.free then acc
      else
        match vectorBase acc.2 v with
        | some b => (acc.1 ++ [(4 * k + x.2, b)], (b, v) :: acc.2)
        | none => acc) ([], reservations (coreCtxs cs k))).1

/-- The active cores of cluster u, by number (13 R427). -/
def State.coresOf (s : State) (u : Nat) : List Nat := (s.allClus.getD u ClusterSt.blank).cores.map fun k => 16 * u + k

/-- A core that takes new tasks (13 R427). -/
def State.coreTakes (s : State) (k : Nat) : Bool := !(s.allCores.getD k CoreSt.blank).retire

/-- The contexts of cluster u. -/
def cluCtxs (cs : List Ctx) (u : Nat) : List Ctx := (cs.drop (64 * u)).take 64

/-- A multi-member group is resident (01 R46). -/
def hasGroup (cs : List Ctx) : Bool := cs.any fun c => !c.free && c.ctl.pondid.extractLsb' 6 6 != 0

/-- Places for a group of `g` tasks on cluster u, lowest first, if it fits there (12 R393). -/
def State.fitsOn (s : State) (cs : List Ctx) (u g v launch : Nat) (xcore : Bool) : Option (List (Nat × Nat)) :=
  let slots := ((s.coresOf u).filter fun k => s.coreTakes k && s.coreOpen cs k launch xcore).flatMap fun k => coreSlots cs k v
  if g ≤ slots.length && !(decide (1 < g) && hasGroup (cluCtxs cs u)) then some (slots.take g) else none

/-- The clusters of a partition. -/
def State.partClusters (s : State) (p : Nat) : List Nat :=
  (List.range 10).filter fun u => (s.allClus.getD u ClusterSt.blank).part == some p

/-- The clusters on which the sluice may start tasks of a partition: none while its swap is pending (13 R422). -/
def State.openClusters (s : State) (p : Nat) : List Nat := if s.dev.swaps.contains p then [] else s.partClusters p

/-- The first cluster on which a group fits, with its places. -/
def State.fits (s : State) (part g v launch : Nat) (xcore : Bool) : Option (Nat × List (Nat × Nat)) :=
  (s.openClusters part).findSome? fun u => (s.fitsOn s.allCtxs u g v launch xcore).map fun ps => (u, ps)

/-! ## Starting a task (01 R52, R53; 12 R386) -/

/-- Group `g` of a launch: its member, and its place among that member's groups. -/
def groupAt : List Member → Nat → Nat → Option (Nat × Nat × Member)
  | [], _, _ => none
  | m :: t, g, i => if g < m.groups then some (i, g, m) else groupAt t (g - m.groups) (i + 1)

/-- Members of the k-th group of a member of a launch (01 R51). -/
def Member.groupTasks (m : Member) (k : Nat) : Nat := min (m.pkt.gm1 + 1) (m.pkt.n.toNat - (m.pkt.gm1 + 1) * k)

/-- Ones in a mask. -/
def ones {w : Nat} (x : BitVec w) : Nat := ((List.range w).filter x.getLsbD).length

/-- PONDID (01 R52). -/
def State.pondid (s : State) (l : Launch) (m : Member) (clu size idx : Nat) : BitVec 64 :=
  let p3n := if m.pkt.p3mask.getLsbD s.dev.num.toNat then ones m.pkt.p3mask else 0
  BitVec.ofNat 64 (s.dev.num.toNat * 2 ^ 60 + p3n % 32 * 2 ^ 55 + (l.groups - 1) % 2 ^ 24 * 2 ^ 31 + clu * 2 ^ 16
    + (size - 1) % 64 * 2 ^ 6 + idx % 64)

/-- The control registers of a task at its start: what the launch supplies, and a reservation with nothing allocated. -/
def startCtl (m : Member) (tid : BitVec 24) (pond : BitVec 64) (base : Nat) : Ctl :=
  { Ctl.zero with
    tvec := m.kd.tvec.extractLsb' 2 54, tid := tid, lid := m.lid, pondid := pond, vLimit := BitVec.ofNat 4 m.pkt.vgrp,
    vBase := BitVec.ofNat 3 base, htbase := m.kd.htbase.extractLsb' 7 49, htlim := m.kd.htlim,
    lmtbase := m.kd.lmtbase.extractLsb' 3 53, lmtlim := m.kd.lmtlim }

/-- A task at its start. -/
def startCtx (l : Launch) (m : Member) (j : Job) (tid : BitVec 24) (pond : BitVec 64) (base : Nat) : Ctx :=
  let c := { Ctx.vacant with
    status := .active, pc := m.kd.entry.setWidth 64, ctl := startCtl m tid pond base, asid := l.asid, root := l.root,
    job := some j }
  (c.setReg 1 (m.pkt.argva.setWidth 64) false).setReg 2 (tid.setWidth 64) false

/-- The core in focus noted as one on which an XCORE launch has put its first task. -/
def State.noteCore (s : State) (launch : Nat) : State :=
  s.sluice fun sl => sl.updLaunch launch fun l => { l with zeroed := s.coreNum :: l.zeroed.filter (· != s.coreNum) }

/-- The first task of an XCORE launch on a core finds the core semaphores at zero; a later one there leaves them (01 R46,
12 R394). -/
def State.freshSems (s : State) (launch : Nat) (xcore : Bool) : State :=
  if !xcore || (s.dev.sluice.launch? launch).any fun l => l.zeroed.contains s.coreNum then s
  else { s with core := { s.core with sems := Vector.replicate 32 0 } }.noteCore launch

/-- A task put on a place. -/
def State.install (s : State) (p : Nat) (launch : Nat) (xcore : Bool) (c : Ctx) : State :=
  s.atPlace p fun y => { y.freshSems launch xcore with ctx := c }

/-- Tasks `i`, `i + 1`, … of a group on their places. -/
def State.startTasks (s : State) (l : Launch) (m : Member) (j : Job) (clu size tid0 : Nat) : Nat → List (Nat × Nat) → State
  | _, [] => s
  | i, (p, base) :: t =>
    let c := startCtx l m j (BitVec.ofNat 24 (tid0 + i)) (s.pondid l m clu size i) base
    (s.install p l.key m.pkt.xcore c).startTasks l m j clu size tid0 (i + 1) t

/-- A multi-member group formed on a cluster finds its pond-1 semaphores at zero (01 R46). -/
def State.formGroup (s : State) (u size : Nat) : State :=
  if size ≤ 1 then s
  else s.atPlace (64 * u) fun y => { y with clu := { y.clu with psems := Vector.replicate 16 0 } }

/-- Before a launch's first task starts: the actions on its handles, and its held slots let go (12 R397, R401). -/
def State.beforeStart (s : State) (l : Launch) : State :=
  if l.nextGroup ≠ 0 then s
  else l.members.foldl (fun x m => (x.actionsBefore m).releaseSlot m.q m.slot) s

/-- Parsing goes on in every bound queue once an entry of the heap is free (12 R390). -/
def State.heapFreed (s : State) : State :=
  let s1 := s.sluice fun sl => sl.promote 256
  s1.dev.sluice.queues.foldl (fun x q => x.parseNext q.q) s1

/-- A launch with a group started; after the last one it leaves the heap. -/
def Launch.advanced (l : Launch) : Launch :=
  let l1 := { l with nextGroup := l.nextGroup + 1 }
  if l1.groups ≤ l1.nextGroup then { l1 with phase := .running } else l1

/-- The next group of a launch started on a cluster. -/
def State.startGroup (s : State) (l : Launch) (u : Nat) (ps : List (Nat × Nat)) : State :=
  match groupAt l.members l.nextGroup 0 with
  | none => s
  | some (mem, k, m) =>
    let size := m.groupTasks k
    let j : Job := { launch := l.key, mem := mem, group := l.nextGroup, prologue := false, issued := 0 }
    let s1 := (s.beforeStart l).formGroup u size
    let s2 := s1.startTasks l m j u size ((m.pkt.gm1 + 1) * k) 0 ps
    let now := s2.dev.time
    let s3 := s2.sluice fun sl => (sl.updMember l.key mem fun x => { x with start := x.start.or (some now) }).updLaunch l.key
      Launch.advanced
    s3.heapFreed

/-! ## After a task has ended -/

/-- The context issues its instruction again: it is ACTIVE, and has its turn when the agenda comes to it (01 R17). -/
def State.goOn (s : State) : State := s.setStatus .active

/-- Tasks of a launch that wait at a barrier which is now complete go on (08 R270). -/
def State.wakeBarriers (s : State) (j : Job) : State :=
  let ps := s.placesWith fun c => c.status == .stalled && c.atBarrier.isSome && c.job.any fun x => x.sameTask j
  ps.foldl (fun x p => x.atPlace p fun y =>
    match y.ctx.atBarrier with
    | some level => if y.barrierOpen level (arrivals y.ctx.barrierCount level) then y.goOn else y
    | none => y) s

/-- Members of the group that have halted look again whether the group's halt is complete (13 R418). -/
def State.nudgeHalts (s : State) (j : Job) : State :=
  (s.placesWith fun c => c.status == .halted && !c.inPlaceHalt && c.job.any fun x => x.sameTask j).foldl
    (fun x p => x.queue (.own p .haltComplete)) s

/-- The tasks of a member have ended, and no continuation of it is outstanding (08 R273, 12 R404). -/
def Sluice.memberDone (sl : Sluice) (key m : Nat) : Option (BitVec 32) :=
  match (sl.launch? key).bind fun l => l.members[m]? with
  | none => none
  | some x =>
    if !x.completed && x.pkt.n.toNat ≤ x.ended && !(sl.conts.any fun c => c.launch == key && c.mem == m) then some x.lid
    else none

/-- A swap of the cluster's partition may have waited for this task (13 R422). -/
def State.nudgeSwap (s : State) : State :=
  match s.clu.part with
  | some p => if s.dev.swaps.contains p && decide (s.here < 640) then s.later (.swapExchange p) else s
  | none => s

/-- The step that completes a member whose tasks have ended. -/
def State.afterEnd (s : State) (j : Job) : State :=
  let s1 := match s.dev.sluice.memberDone j.launch j.mem with
    | some lid => s.later (.launchComplete lid)
    | none => s
  (((s1.wakeBarriers j).nudgeHalts j).nudgeSwap).later .dispatch

/-! ## Starting a continuation (08 R275) -/

/-- Bytes read by the sluice over several lines. -/
def State.sluiceSpan (s : State) (asid : BitVec 16) (root : Nat) : Nat → Nat → Nat →
    State × Except Miss (List Byte)
  | 0, _, _ => (s, .ok [])
  | fuel + 1, va, n =>
    if n = 0 then (s, .ok [])
    else
      let k := min n (128 - va % 128)
      match s.sluiceRead asid root va k with
      | (s1, .error e) => (s1, .error e)
      | (s1, .ok (bs, p)) =>
        if p then (s1, .error (.fault causePoisonConsumed 0))
        else
          match s1.sluiceSpan asid root fuel (va + k) (n - k) with
          | (s2, .ok rest) => (s2, .ok (bs ++ rest))
          | (s2, .error e) => (s2, .error e)

/-- The vector registers of a continuation: those of the groups in VMASK from the record, read in order. -/
def State.readGroups (s : State) (asid : BitVec 16) (root base : Nat) (vm : BitVec 8) (tags : Nat) :
    Nat → State × Except Miss (List VReg)
  | 0 => (s, .ok [])
  | k + 1 =>
    match s.readGroups asid root base vm tags k with
    | (s1, .error e) => (s1, .error e)
    | (s1, .ok vs) =>
      if !vm.getLsbD (k / 4) then (s1, .ok (vs ++ [{ VReg.gated with power := .active }]))
      else
        match s1.sluiceSpan asid root 40 (base + 512 + 16384 * (k / 4) + 4096 * (k % 4)) 4096 with
        | (s2, .error e) => (s2, .error e)
        | (s2, .ok bs) =>
          (s2, .ok (vs ++ [{ data := (List.range 1024).map fun i => BitVec.ofNat 32 (leNat ((bs.drop (4 * i)).take 4)),
                             tag := BitVec.ofNat 4 (tags / 2 ^ (4 * k)), power := .active }]))

/-- The groups a continuation holds: one more than the highest in VMASK (08 R275). -/
def maskGroups (vm : BitVec 8) : Nat := ((List.range 8).filter vm.getLsbD).foldl (fun a g => max a (g + 1)) 0

/-- Registers of a continuation: those in SMASK with their poison, the others zero (08 R275). -/
def Ctx.loadRegs (c : Ctx) (sm : BitVec 32) (pois : BitVec 32) (bs : List Byte) : Ctx :=
  ((List.range 32).filter fun i => i != 0 && sm.getLsbD i).foldl
    (fun x i => x.setReg (BitVec.ofNat 5 i) (BitVec.ofNat 64 (leNat ((bs.drop (64 + 8 * i)).take 8))) (pois.getLsbD i)) c

/-- The job of a continuation's task. -/
def Cont.job (k : Cont) : Job := { launch := k.launch, mem := k.mem, group := k.group, prologue := false, issued := 0 }

/-- A failed continuation: a task of its launch that failed, and has ended (08 R275, 12 R404). -/
def State.contFailed (s : State) (k : Cont) (cause : BitVec 10) (info : BitVec 22) : State :=
  let s1 := s.sluice fun sl =>
    { sl.updMember k.launch k.mem fun m => { m with
        ended := m.ended + 1,
        out := m.out.fail (if cause = causePoisonConsumed then stPoisoned else stTaskFailed) cause info k.record } with
      conts := sl.conts.erase k }
  (s1.afterEnd k.job).heapFreed

/-- What comes of a record that could not be read: the continuation fails, or waits for a migrating page or node, or a peer. -/
def State.contMissed (s : State) (k : Cont) (e : Miss) : Except State State :=
  match e with
  | .fault cause info => .ok (s.dropReads.contFailed k cause info)
  | .wait => .error s

/-- PONDID with its reserved bits zero (01 R52). -/
def pondidMask : BitVec 64 := 0xFFFFFFFF800F0FFF

/-- A continuation started at a place, or failed when its record cannot be read; an error holds the state in which the read
waits. -/
def State.startCont (s : State) (k : Cont) (l : Launch) (m : Member) (p base : Nat) : Except State State :=
  let va := k.record.toNat
  match s.sluiceSpan l.asid l.root 8 va 320 with
  | (s1, .error e) => s1.contMissed k e
  | (s1, .ok bs) =>
    let dw (i : Nat) : BitVec 64 := packetDw bs i
    let live := dw 4
    let sm : BitVec 32 := live.extractLsb' 0 32
    let vm : BitVec 8 := live.extractLsb' 32 8
    let groups := maskGroups vm
    match s1.readGroups l.asid l.root va vm ((dw 6).toNat + (dw 7).toNat * 2 ^ 64) (4 * groups) with
    | (s2, .error e) => s2.contMissed k e
    | (s2, .ok vs) =>
      let ctl := { startCtl m ((dw 2).extractLsb' 0 24) (dw 3 &&& pondidMask) base with
        lid := (dw 2).extractLsb' 32 32, fmode := ((live.extractLsb' 40 8).setWidth 64) &&& fmodeMask,
        vqfmt := live.extractLsb' 48 4, vCount := BitVec.ofNat 4 groups }
      let c := { Ctx.vacant with
        status := .active, pc := dw 1, ctl := ctl, asid := l.asid, root := l.root, job := some k.job,
        barrierCount := k.barrierCount }
      let c1 := c.loadRegs sm ((dw 5).extractLsb' 0 32) bs
      let s3 := s2.install p k.launch m.pkt.xcore c1
      let s4 := s3.atPlace p fun y => vs.zipIdx.foldl (fun z v => z.setVphys (4 * base + v.2) v.1) y
      .ok (s4.dropReads.sluice fun sl => { sl with conts := sl.conts.erase k }).heapFreed

/-! ## A saved group comes back (13 R420) -/

/-- Bytes of the scratchpad that a tile occupies (01 R34). -/
def Tile.span (t : Tile) : Nat × Nat := (t.group.toNat * 2 ^ 17 + 16 * t.base.toNat, 16 * t.footprint)

/-- Bytes that an enabled ring occupies (01 R39). -/
def RingSt.span (x : RingSt) : Nat × Nat := (32 * x.base.toNat, 32 * 2 ^ x.log.toNat)

def spansMeet (a b : Nat × Nat) : Bool := decide (a.1 < b.1 + b.2) && decide (b.1 < a.1 + a.2)

def Ctx.ringSpans (c : Ctx) : List (Nat × Nat) := ([c.ri, c.ro, c.mx].filter (·.en)).map RingSt.span

/-- A saved task fits on a free context of a core. -/
def State.savedFits (s : State) (sv : Saved) (k : Nat) : Option (Nat × Nat) :=
  let core := s.allCores.getD k CoreSt.blank
  let cs := coreCtxs s.allCtxs k
  let taken := ((core.tiles.toList.filter (·.valid)).map Tile.span) ++ cs.flatMap Ctx.ringSpans
  let mine := (sv.tiles.map fun t => t.2.span) ++ sv.ctx.ringSpans
  if sv.tiles.any (fun t => (core.tiles.toList.getD t.1 Tile.invalid).valid) || mine.any (fun a => taken.any (spansMeet a ·)) then
    none
  else (coreSlots s.allCtxs k sv.ctx.ctl.vLimit.toNat).head?

/-- The registers of a saved task by their distance from its base. -/
def State.putSaved (s : State) (sv : Saved) (base : Nat) : State :=
  let ctx := { sv.ctx with
    status := .active, haltIdx := none, inPlaceHalt := false,
    ctl := { sv.ctx.ctl with vBase := BitVec.ofNat 3 base, preq := false } }
  let s1 := { s with ctx := ctx }
  let s2 := sv.vregs.zipIdx.foldl (fun x v => x.setVphys (4 * base + v.2) { v.1 with power := .active }) s1
  let s3 := sv.tiles.foldl (fun x t => x.setTile t.1 { t.2 with owner := BitVec.ofNat 2 s.ctxNum }) s2
  let core := sv.bytes.foldl (fun c b => c.spadWrite b.1 [(b.2, sv.ue.contains b.1)]) s3.core
  let s4 := { s3 with core := { core with sems := sv.sems.getD core.sems } }
  match sv.ctx.job with
  | some j => if sv.sems.isSome then s4.noteCore j.launch else s4
  | none => s4

/-- A saved task restored on the first core of a cluster where it fits; the core of an XCORE task is the one its
companions went to, or else one that is empty (12 R394). -/
def State.restoreOne (s : State) (u : Nat) (sv : Saved) (went : List (Nat × Nat)) : Option (State × List (Nat × Nat)) :=
  let xcore := sv.sems.isSome
  let open_ (k : Nat) : Bool :=
    s.coreTakes k
      && (match sv.ctx.job with
          | some j => s.coreOpen s.allCtxs k j.launch xcore
          | none => true)
      && (!xcore || (match went.find? fun w => w.1 == sv.core with
                     | some w => w.2 == k
                     | none => (coreCtxs s.allCtxs k).all Ctx.free))
  match ((s.coresOf u).filter open_).findSome? fun k => (s.savedFits sv k).map fun x => (k, x) with
  | none => none
  | some (k, p, base) =>
    let s1 := s.atPlace p fun y => y.putSaved sv base
    some (s1, (sv.core, k) :: went)

/-- Every saved task of a unit restored on one cluster, or none of them. -/
def State.restoreAll (s : State) (u : Nat) : List Saved → List (Nat × Nat) → Option State
  | [], _ => some s
  | sv :: t, went =>
    match s.restoreOne u sv went with
    | none => none
    | some (s1, w) => s1.restoreAll u t w

/-- The saved tasks that come back together: those that were saved together (12 R394, 13 R418). -/
def Sluice.unitOf (sl : Sluice) (sv : Saved) : List Saved := sl.saved.filter fun x => x.save == sv.save

/-- Contexts halted in place are saved as soon as save blocks are free (12 R405). -/
def State.blocksFreed (s : State) : State :=
  (s.placesWith (·.inPlaceHalt)).foldl (fun x p => x.queue (.own p .haltComplete)) s

/-- A unit restored on the first cluster where all of it fits. -/
def State.restoreUnit (s : State) (part : Nat) (us : List Saved) : Option State :=
  let multi := us.any fun x => x.ctx.ctl.pondid.extractLsb' 6 6 != 0
  let s0 := s.sluice fun sl => { sl with saved := sl.saved.filter fun x => !us.contains x }
  (s.openClusters part).findSome? fun u =>
    if multi && hasGroup (cluCtxs s.allCtxs u) then none else (s0.restoreAll u us []).map State.blocksFreed

/-! ## Choosing an entry (12 R390, R393, R405) -/

/-- A ready entry of the heap. -/
inductive Entry where
  | launch (l : Launch)
  | cont (k : Cont) (l : Launch) (m : Member)

/-- The order of entries: deadline, class, parse order (12 R390). -/
def Entry.rank (e : Entry) : Nat :=
  match e with
  | .launch l => (l.deadline.toNat * 4 + l.scls) * 2 ^ 64 + l.order
  | .cont k l _ => (l.deadline.toNat * 4 + l.scls) * 2 ^ 64 + k.order

def Entry.scls (e : Entry) : Nat :=
  match e with
  | .launch l => l.scls
  | .cont _ l _ => l.scls

/-- Classes that the thermal level lets be dispatched (12 R405). -/
def classOpen (therm scls : Nat) : Bool := scls == 0 || (scls == 1 && decide (therm < 3)) || (scls == 2 && therm == 0)

/-- The least of a list by rank, kept in order. -/
def insertEntry (e : Entry) : List Entry → List Entry
  | [] => [e]
  | x :: t => if e.rank < x.rank then e :: x :: t else x :: insertEntry e t

/-- The ready entries in their order: their dependences are complete. -/
def State.ready (s : State) : List Entry :=
  let sl := s.dev.sluice
  let ls := (sl.launches.filter fun l => l.phase == .heap && l.notBefore ≤ s.dev.time
    && l.members.all fun m => m.deps.isEmpty).map Entry.launch
  let cs := (sl.conts.filter (·.inHeap)).filterMap fun k =>
    (sl.launch? k.launch).bind fun l => (l.members[k.mem]?).map fun m => Entry.cont k l m
  ((ls ++ cs).filter fun e => classOpen sl.therm e.scls).foldr insertEntry []

/-- A free worker, other than the one that has abandoned the step (13 R429). -/
def State.freeWorker (s : State) (shun : Option Nat) : Option Nat :=
  (List.range 8).find? fun w => (s.allCtxs.getD (640 + 4 * w) Ctx.vacant).free && shun != some w

/-- A turn for a step of the machine's own, at any place. -/
def Turn.runs (e : Ev) (t : Turn) : Bool :=
  match t with
  | .own _ x => x == e
  | _ => false

/-- The actions before a launch's first task have to wait (12 R401; 10 R343, 14 R447). -/
def State.startWaits (s : State) (l : Launch) : Bool := l.nextGroup == 0 && l.members.any s.beforeWaits

/-- What an entry does now, if it can do anything; `first` says that it is the ready minimum. -/
def State.tryEntry (s : State) (first : Bool) (e : Entry) : Option State :=
  match e with
  | .cont k l m =>
    match s.fits l.part 1 m.pkt.vgrp l.key m.pkt.xcore with
    | some (_, (p, base) :: _) =>
      match s.startCont k l m p base with
      | .ok t => some t
      | .error _ => none
    | _ => none
  | .launch l =>
    if l.members.all (·.nop) then
      match l.members.head? with
      | some m =>
        let e : Ev := .launchComplete m.lid
        if !first || s.dev.sluice.waiting.contains e || s.turns.any (Turn.runs e) then none else some (s.later e)
      | none => none
    else if !l.proDone then if first && (s.freeWorker l.shun).isSome then some (s.later .prologueStart) else none
    else
      match s.dev.sluice.saved.find? fun x => x.pond.isNone && x.ctx.job.any fun j => j.launch == l.key with
      | some sv =>
        match s.restoreUnit l.part (s.dev.sluice.unitOf sv) with
        | some s1 =>
          let more := s1.dev.sluice.saved.any fun x => x.pond.isNone && x.ctx.job.any fun j => j.launch == l.key
          let s2 := s1.sluice fun sl => sl.updLaunch l.key fun y =>
            if more then y
            else { y with preempted := false, phase := if y.groups ≤ y.nextGroup then .running else .heap }
          some s2.heapFreed
        | none => none
      | none =>
        match groupAt l.members l.nextGroup 0 with
        | none => none
        | some (_, k, m) =>
          match s.fits l.part (m.groupTasks k) m.pkt.vgrp l.key m.pkt.xcore with
          | some (u, ps) => if s.startWaits l then none else some (s.startGroup l u ps)
          | none => none

/-- The first entry that can do something. -/
def State.tryEntries (s : State) : Bool → List Entry → Option State
  | _, [] => none
  | first, e :: t =>
    match s.tryEntry first e with
    | some s1 => some s1
    | none => s.tryEntries false t

/-- A group that left at a barrier comes back once the barrier has completed (08 R271); one of a background launch only while
the thermal level lets running background tasks be (12 R405). -/
def State.returnPond (s : State) : Option State :=
  (s.dev.sluice.saved.filter fun x => x.pond.isSome).findSome? fun sv =>
    match sv.ctx.job, sv.pond with
    | some j, some level =>
      let probe := { s with ctx := { s.ctx with job := some j, ctl := sv.ctx.ctl } }
      (s.dev.sluice.launch? j.launch).bind fun l =>
        if (l.scls == 2 && decide (2 ≤ s.dev.sluice.therm)) || !probe.barrierOpen level (arrivals sv.ctx.barrierCount level) then none
        else s.restoreUnit l.part (s.dev.sluice.unitOf sv)
    | _, _ => none

/-! ## Requesting a pre-emption (12 R395) -/

/-- Places of contexts that a pending pre-emption empties. -/
def State.leaving (s : State) : List Nat := s.placesWith fun c => !c.free && c.ctl.preq && !c.inPlaceHalt

/-- Save blocks that are free (13 R420). -/
def State.freeBlocks (s : State) : Nat := s.dev.cfg.savesize.toNat / 2 ^ 21 - s.dev.sluice.saved.length

/-- Two resident tasks are pre-empted together: those of one pond-1 group (13 R418), and those of an XCORE launch on one core
(12 R394). -/
def State.linked (s : State) (p : Nat) (a : Job) (q : Nat) (b : Job) : Bool :=
  a.launch == b.launch && (a.group == b.group || (p / 4 == q / 4 && s.jobXcore a))

/-- What is pre-empted together with some places, link by link. -/
def State.linkedTo (s : State) (jobs : List (Nat × Job)) : Nat → List Nat → List Nat
  | 0, ps => ps
  | k + 1, ps =>
    let mine := jobs.filter fun x => ps.contains x.1
    let more := (jobs.filter fun x => !ps.contains x.1 && mine.any fun y => s.linked y.1 y.2 x.1 x.2).map (·.1)
    if more.isEmpty then ps else s.linkedTo jobs k (ps ++ more)

/-- The unit that a pre-emption of a context takes with it, on its cluster. -/
def State.victims (s : State) (p : Nat) : List Nat :=
  let u := p / 64
  let jobs := (cluCtxs s.allCtxs u).zipIdx.filterMap fun x => if x.1.free then none else x.1.job.map fun j => (64 * u + x.2, j)
  s.linkedTo jobs 32 [p]

/-- A place put before those of a smaller or equal key. -/
def insertPlace (key : Nat → Nat) (p : Nat) : List Nat → List Nat
  | [] => [p]
  | x :: t => if key x ≤ key p then p :: x :: t else x :: insertPlace key p t

/-- Candidates on a cluster: background tasks, then standard ones with a deadline later than the entry's, latest first. -/
def State.candidates (s : State) (u : Nat) (deadline : Nat) : List Nat :=
  let ps := ((cluCtxs s.allCtxs u).zipIdx.filter fun x => !x.1.free && x.1.job.isSome).map fun x => 64 * u + x.2
  let info (p : Nat) : Option (Nat × Nat) :=
    ((s.allCtxs.getD p Ctx.vacant).job.bind fun j => s.dev.sluice.launch? j.launch).map fun l => (l.scls, l.deadline.toNat)
  let bg := ps.filter fun p => (info p).any fun x => x.1 == 2
  let std := ps.filter fun p => (info p).any fun x => x.1 == 1 && decide (deadline < x.2)
  bg ++ std.foldr (insertPlace fun p => (info p).elim 0 (·.2)) []

/-- The contexts with some places empty. -/
def vacated (cs : List Ctx) (ps : List Nat) : List Ctx := cs.zipIdx.map fun x => if ps.contains x.2 then Ctx.vacant else x.1

/-- The shortest run of candidates whose leaving makes the group fit on the cluster: those that leave, and its places. -/
def State.makeRoom (s : State) (cs : List Ctx) (u g v launch : Nat) (xcore : Bool) :
    List Nat → List Nat → Option (List Nat × List (Nat × Nat))
  | [], _ => none
  | p :: t, out =>
    let out1 := out ++ (s.victims p).filter fun q => !out.contains q
    match s.fitsOn (vacated cs out1) u g v launch xcore with
    | some ps => some (out1, ps)
    | none => s.makeRoom cs u g v launch xcore t out1

/-- A pre-emption pending on a context (01 R18, 13 R417): one that is stalled at a pre-emption point halts there. -/
def State.requestHalt (s : State) : State :=
  let s1 := s.setCtl fun c => { c with preq := true }
  if s1.ctx.status == .stalled && !s1.kernel && !s1.inLoopS && s1.ctx.ending.isNone then s1.halt none
  else s1

def State.requestAll (s : State) (ps : List Nat) : State := ps.foldl (fun x p => x.atPlace p State.requestHalt) s

/-- A group that waits to be placed. -/
structure Wanted where
  part : Nat
  deadline : Nat
  g : Nat
  v : Nat
  launch : Nat
  mem : Nat
  group : Nat
  xcore : Bool
  deriving DecidableEq, Repr

/-- What a ready interactive entry waits to have placed. -/
def Entry.wants (e : Entry) : Option Wanted :=
  match e with
  | .cont k l m => some ⟨l.part, l.deadline.toNat, 1, m.pkt.vgrp, l.key, k.mem, k.group, m.pkt.xcore⟩
  | .launch l =>
    match groupAt l.members l.nextGroup 0 with
    | some (i, k, m) => if l.proDone then some ⟨l.part, l.deadline.toNat, m.groupTasks k, m.pkt.vgrp, l.key, i, l.nextGroup, m.pkt.xcore⟩ else none
    | none => none

/-- The contexts with a group's places taken. -/
def Wanted.taking (w : Wanted) (cs : List Ctx) (ps : List (Nat × Nat)) : List Ctx :=
  let job : Job := { launch := w.launch, mem := w.mem, group := w.group, prologue := false, issued := 0 }
  ps.foldl (fun l x => l.set x.1 { Ctx.vacant with
    status := .active, job := some job,
    ctl := { Ctl.zero with vBase := BitVec.ofNat 3 x.2, vLimit := BitVec.ofNat 4 w.v, pondid := BitVec.ofNat 64 ((w.g - 1) * 2 ^ 6) } }) cs

/-- The request made for one entry that cannot be placed even where pending pre-emptions leave room, unless no save block is
free. `cs` is what the contexts are going to be. -/
def State.requestFor (s : State) (cs : List Ctx) (w : Wanted) : State × List Ctx :=
  let us := s.openClusters w.part
  match us.findSome? fun u => s.fitsOn cs u w.g w.v w.launch w.xcore with
  | some ps => (s, w.taking cs ps)
  | none =>
    let open_ (p : Nat) : Bool := !(cs.getD p Ctx.vacant).free && !s.leaving.contains p
    match us.findSome? fun u => s.makeRoom cs u w.g w.v w.launch w.xcore ((s.candidates u w.deadline).filter open_) [] with
    | some (out, ps) =>
      if out.length + s.leaving.length ≤ s.freeBlocks then (s.requestAll out, w.taking (vacated cs out) ps) else (s, cs)
    | none => (s, cs)

/-- Room asked for, for every ready interactive entry in its turn (12 R395). -/
def State.preemptFor (s : State) (es : List Entry) : State :=
  ((es.filterMap fun e => if e.scls == 0 then e.wants else none).foldl (fun x w => x.1.requestFor x.2 w)
    (s, vacated s.allCtxs s.leaving)).1

/-- An entry that fits and waits for memory all the same: a continuation whose record cannot be read yet, after what it asks of a
peer is asked, and a launch whose actions wait (10 R343, R351; 12 R401; 14 R447). -/
def State.askFor (s : State) (e : Entry) : State × Bool :=
  match e with
  | .cont k l m =>
    match s.fits l.part 1 m.pkt.vgrp l.key m.pkt.xcore with
    | some (_, (p, base) :: _) =>
      match s.startCont k l m p base with
      | .ok _ => (s, false)
      | .error t => (t, true)
    | _ => (s, false)
  | .launch l => (s, s.startWaits l)

/-- Every entry that waits for memory, in turn. -/
def State.askAll (s : State) (es : List Entry) : State × Bool :=
  es.foldl (fun x e => let (t, w) := x.1.askFor e; (t, x.2 || w)) (s, false)

/-- DISPATCH (12 R393): the first ready entry that fits starts its next group; a group whose barrier has completed comes
back; failing both, the interactive entries ask for room. -/
def execDispatch (s : State) : Outcome :=
  let sl := s.dev.sluice
  if s.dev.state != .ready || sl.outOfService then .next s
  else if sl.stopped then .next (s.sluiceWait .dispatch)
  else
    match s.returnPond with
    | some s1 => .next (s1.later .dispatch)
    | none =>
      let es := s.ready
      match s.tryEntries true es with
      | some s1 => .next (s1.later .dispatch)
      | none =>
        let (s1, waits) := (s.preemptFor es).askAll es
        .next (if waits then s1.sluiceWait .dispatch else s1)

end Sys2Proof.Machine
end

