-- ==== Sys2Proof/Machine/Ends.lean ====
section
/-!
DEFINITION. How tasks end (08 R273, 13 R408 to R410), prologues (12 R396 to R398), the completion of a launch (12 R388,
R404), rollback (13 R413, R414), and what clears or ends a stall.
-/
namespace Sys2Proof.Machine

/-! ## Rollback (13 R414) -/

/-- One journal slot played back. -/
def State.undo (s : State) (u : Undo) : State :=
  match u with
  | .vreg k d t => s.setVphys k { data := d, tag := t, power := .active }
  | .vst i rows ue st gen =>
    let core := rows.foldl (fun c r => c.spadWrite r.1 (r.2.zipIdx.map fun b => (b.1, ue.contains (r.1 + b.2)))) s.core
    { s with core := core }.updTile i fun t => { t with state := st, gen := gen }

/-- Steps 4 to 6: held entries are discarded, waits given back, the journal played back newest first. -/
def State.discardIteration (s : State) : State :=
  let l := s.ctx.loop
  let s1 := l.taken.foldl State.giveBack s
  (l.journal.foldl State.undo s1).setLoop fun x => { x with held := [], heldRo := 0, taken := [], journal := [] }

/-- Step 7: the checkpoint restored, with PC at S of the LOOP.S level. The write pointers stay as step 2 left them, and
become those of the re-run's checkpoint. -/
def State.restoreCheckpoint (s : State) (k : Checkpoint) : State :=
  let s1 := { s with ctx := { s.ctx with
    regs := k.regs, pois := k.pois, masks := k.masks, sg := k.sg, lastLoad := k.lastLoad,
    ctl := { s.ctx.ctl with vrb := k.vrb, fmode := k.fmode, vqfmt := k.vqfmt, enqst := k.enqst } } }
  let s2 := s1.setLoop fun l => { l with
    levels := k.levels, ckpt := some { k with riW := s.ctx.ri.wptr, roW := s.ctx.ro.wptr, mxW := s.ctx.mx.wptr },
    unrecoverable := false, retried := true, rolling := false }
  match k.levels with
  | lv :: _ => s2.setPc lv.start
  | [] => s2

/-- Commands of the discarded iteration that halted on a fault are abandoned without a trap (13 R414). -/
def State.dropFaulted (s : State) (r : Ring) : State :=
  let s1 := s.dropDeferred r (·.uncommitted)
  if (s1.ring r).stuck then
    match s1.ctx.haltedCmd r with
    | none => s1.updRing r RingSt.resume
    | some k => if k.uncommitted then s1.skipRing r else s1
  else s1

/-- Step 3 is over: every command of the iteration that had issued has completed. -/
def State.iterationDone (s : State) : Bool := !s.ctx.cmds.any (·.uncommitted)

/-- Faulted commands of the iteration dropped in every ring. -/
def State.dropAllFaulted (s : State) : State := ((s.dropFaulted .ri).dropFaulted .ro).dropFaulted .mx

/-- A step to be tried again after a round of the engines. -/
def State.retryLater (s : State) (e : Ev) : State :=
  { s with turns := s.turns ++ [.engine s.here .ri, .engine s.here .ro, .engine s.here .mx, .own s.here e] }

/-- ROLLBACK_RESUME (13 R413, R414). -/
def execRollbackResume (s : State) : Outcome :=
  if !s.ctx.loop.rolling then .next s
  else
    let s1 := s.dropAllFaulted
    if !s1.iterationDone then .next (s1.retryLater .rollbackResume)
    else
      match s1.ctx.loop.ckpt with
      | none => .next s1
      | some k => .next ((s1.discardIteration.restoreCheckpoint k).setStatus .active)

/-! ## What ends a stall -/

/-- A stalled context with nothing else to do than to issue. -/
def Ctx.issues (c : Ctx) : Bool := c.status == .stalled && c.ending.isNone && !c.loop.rolling

/-- STALL_CLEAR (01 R18): the stalled instruction issues again. -/
def execStallClear (s : State) : Outcome := .next (if s.ctx.issues then s.goOn else s)

/-- A SAFEPT word (03 R97). -/
def isSafept (w : InstrWord) : Bool := w.toNat / 2 ^ 26 == 0x3C && w.toNat % 16 == 5

/-- The next instruction of the context is a SAFEPT, as memory stands. -/
def State.safeptNext (s : State) : Bool :=
  (s.standingNat s.kernel s.ctx.pc.toNat 4).any fun w => isSafept (BitVec.ofNat 32 w)

/-- SAFE_POINT_OVERDUE (01 R56, 13 R421): the task, which is to issue its next instruction, ends without a handler, unless that is a
SAFEPT. A STALLED or HALTED context issues none. -/
def execSafePointOverdue (s : State) : Outcome :=
  if s.kernel || s.ctx.ending.isSome || s.ctx.sinceSafe < 4096 || s.ctx.status != .active || s.safeptNext then .next s
  else .next (s.killTask stTaskFailed causeSafePointOverdue 0 s.ctx.pc)

/-- The 50 µs of the workers' steps that wait at a migrating node are over: each is made once more, and a walk that still meets
the node faults (10 R343). -/
def State.sluiceOverdue (s : State) : State :=
  if s.dev.sluice.waiting.isEmpty then s
  else s.dev.sluice.waiting.foldl State.later (s.sluice fun sl => { sl with busyOver := true })

/-- PT_NODE_BUSY (10 R343): the walk that waits at a migrating node is made again; it faults if the node is still
migrating, and else the access goes on. -/
def execPtNodeBusy (s : State) : Outcome :=
  match s.ctx.busy with
  | none => .next s.sluiceOverdue
  | some b =>
    let s0 := { s with ctx := { s.ctx with busy := none } }
    match s0.translate b.kernel b.va.toNat (kindOf b.kind), b.ring with
    | (s1, .busy info), none =>
      let info := match b.lane with
        | none => info
        | some j => laneInfo j info
      .next (s1.takeTrap causePtNodeBusy info b.va)
    | (s1, .busy info), some r =>
      let f : EngFault := { cause := causePtNodeBusy, info := info, va := b.fa, cursor := b.cursor }
      .next (s1.failCmd r b.cmd f)
    | (s1, _), none => .next (if s1.ctx.issues then s1.goOn else s1)
    | (s1, _), some r => .next (s1.queue (.engine s1.here r))

/-! ## Vector registers (01 R27, R28) -/

/-- REGISTER_DROWSY (01 R27): contents and tag are kept. -/
def execRegisterDrowsy (reg : Nat) (s : State) : Outcome :=
  let v := s.core.vregs.toList.getD reg VReg.gated
  .next (if v.power = .active then s.setVphys reg { v with power := .drowsy } else s)

/-- DEBUGGER_READ (01 R28): a read of a DROWSY register wakes it; nothing else changes. -/
def execDebuggerRead (reg : Nat) (s : State) : Outcome :=
  let v := s.core.vregs.toList.getD reg VReg.gated
  .next (if v.power = .drowsy then s.setVphys reg { v with power := .active } else s)

/-- What a debugger reads of a register: contents, tag and power state (01 R28). -/
def State.debuggerView (s : State) (reg : Nat) : List Elem × BitVec 4 × Power :=
  let v := s.core.vregs.toList.getD reg VReg.gated
  if v.power = .gated then (List.replicate 1024 0, tagVoid, .gated) else (v.data, v.tag, v.power)

/-! ## The end of a task -/

/-- Owned tiles are freed without write-back (13 R410). -/
def State.freeTiles (s : State) : State :=
  s.ownedTiles.foldl (fun x i => x.updTile i fun t => { t with valid := false, state := .empty }) s

/-- The vector reservation is GATED (01 R27). -/
def State.releaseVectors (s : State) : State := s.setGroups 0 s.ctx.ctl.vLimit.toNat VReg.gated

/-- The context FREE, and its task counted as ended (08 R273). -/
def State.retireTask (s : State) (j : Job) : State :=
  let s1 := s.freeTiles.releaseVectors
  ({ s1 with ctx := Ctx.vacant }.sluice fun sl => sl.updMember j.launch j.mem fun m => { m with ended := m.ended + 1 }).afterEnd j

/-- The task has ended in WAITC: its continuation is outstanding since the record was armed, and is handed over when PEND was 0
then (08 R273, R274). -/
def State.retireWait (s : State) (j : Job) (rec' : Word) (pend : Nat) : State :=
  let s1 := { s.freeTiles.releaseVectors with ctx := Ctx.vacant }
  let mine (c : Cont) : Bool := !c.handed && c.record == rec' && c.launch == j.launch
  let s2 :=
    match (if pend = 0 then s1.dev.sluice.conts.find? mine else none) with
    | some c => s1.sluice fun sl => sl.handOver c
    | none => s1
  s2.afterEnd j

/-- The first two steps of a kill (13 R410): the iteration's commands are withdrawn and the rings disabled. -/
def State.beginKill (s : State) : State :=
  if s.ctx.loop.killing then s
  else
    let s1 := if s.inLoopS then s.withdraw else s
    (((s1.disableRing .ri).disableRing .ro).disableRing .mx).setLoop fun l => { l with killing := true, rolling := false }

/-- Faults that issued commands of a killed task meet are not delivered: the commands are abandoned (13 R410). A signal
that a full FIFO holds is dropped with the FIFO. -/
def State.killFaulted (s : State) : State :=
  let skip (r : Ring) (y : State) : State :=
    let x := y.dropDeferred r fun _ => true
    if (x.ring r).stuck then x.skipRing r else x
  let s1 := skip .mx (skip .ro (skip .ri s))
  { s1 with ctx := { s1.ctx with cmds := s1.ctx.cmds.filter fun c => c.stage != .signalling } }

/-- A killed task: it waits for its issued commands and for the accesses that have retired, then ends (13 R410). -/
def State.endKilled (s : State) (j : Job) (status : BitVec 8) (cause : BitVec 10) (info : BitVec 22) (addr : Word) : State :=
  let s1 := s.beginKill.killFaulted
  if !s1.ctx.cmds.isEmpty then s1.retryLater .taskEnd
  else
    let s2 := s1.discardIteration.drain
    if !s2.quiet (BitVec.allOnes 16) s2.ctx.cmdSeq then s2
    else (s2.recordOutcome fun o => o.fail status cause info addr).retireTask j

/-! ## Prologues (12 R396 to R398) -/

/-- The launch whose prologue a worker ran completes with an outcome; the error entries of the prologue's accesses stay (12
R387, R388). -/
def State.dropPrologue (s : State) (l : Launch) (m : Member) (o : Outcomes) : State :=
  let s1 := s.completeMember l.asid l.root { m with out := m.out.fail o.status o.cause o.info o.taddr }
  let s2 := s1.sluice fun sl => { sl with launches := sl.launches.filter fun x => x.key != l.key }
  (((s2.releaseSlot m.q m.slot).parseNext m.q).heapFreed).later .dispatch

/-- The fields that a prologue may change, read again from the slot (12 R397), with what R385 asks of them. -/
def Packet.reread (p : Packet) (bs : List Byte) : Option Packet :=
  let q := packetOf bs
  let high (k : Nat) : Bool := (packetDw bs k).extractLsb' 56 8 != 0
  if high 3 || high 4 || decide (q.kdva.toNat % 64 ≠ 0) then none
  else some { p with n := q.n, kdva := q.kdva, argva := q.argva, estim := q.estim, deadline := q.deadline }

/-- The checks of R385, R386, R388 and R392 on the fields read again: an outcome, or the member to go on with; no outcome if a
read has to wait (10 R343, R351). The launch's own old figures do not count in the test. -/
def State.recheck (s : State) (l : Launch) (m : Member) : State × Except (Option Outcomes) Member :=
  let d := s.queueDesc m.q
  match s.readSlotAt l.asid l.root (d.slotVa m.slot) 128 with
  | (s1, .error .wait) => (s1, .error none)
  | (s1, .error (.fault c i)) => (s1, .error (some { Outcomes.ofStatus stBadPacket with cause := c, info := i }))
  | (s1, .ok (bs, p)) =>
    if p then (s1, .error (some { Outcomes.ofStatus stBadPacket with cause := causePoisonConsumed }))
    else
      match m.pkt.reread bs with
      | none => (s1, .error (some (.ofStatus stBadPacket)))
      | some pkt =>
        match s1.readKernel l.asid l.root pkt.kdva with
        | (s2, .error o) => (s2, .error o)
        | (s2, .ok kd) =>
          let others := s2.sluice fun sl => { sl with launches := sl.launches.filter fun x => x.key != l.key }
          let moved := pkt.estim != m.pkt.estim || pkt.deadline != m.pkt.deadline
          if pkt.n = 0 then (s2, .error (some (.ofStatus stEmpty)))
          else if 2 ^ 24 < pkt.n.toNat then (s2, .error (some (.ofStatus stCountRange)))
          else if !s2.canHold l.part pkt then (s2, .error (some (.ofStatus stNoFit)))
          else if moved && !others.admits l.part pkt.scls pkt.due pkt.estim then (s2, .error (some (.ofStatus stAdmitRefused)))
          else (s2, .ok { m with pkt := pkt, kd := kd })

/-- The launch goes on with the fields read again: to its tasks, or, no sooner than `after`, to its prologue once more (12 R397). -/
def State.goAhead (s : State) (l : Launch) (m : Member) (done : Bool) (after : Word) : State :=
  (s.sluice fun sl => sl.updLaunch l.key fun x =>
    { x with members := [m], phase := .heap, proDone := done, deadline := BitVec.ofNat 64 m.pkt.due, estim := m.pkt.estim,
             notBefore := if done then 0 else after }).later .dispatch

/-- A worker whose prologue has ended. An action register that holds poison is consumed (log entry 45). What follows needs a
commit of the pair, so it waits while that restarts (13 R429), and while memory that it needs does. -/
def State.endPrologue (s : State) (j : Job) (e : Ending) : State :=
  let c := s.ctx
  let s1 := { s with ctx := Ctx.vacant }
  let drop (l : Launch) (m : Member) (o : Outcomes) : Except State State :=
    match s1.completionReady l.asid l.root m.pkt with
    | (t, true) => .ok (t.dropReads.dropPrologue l m o)
    | (t, false) => .error t
  let done : Except State State :=
    match (s1.dev.sluice.launch? j.launch).bind fun l => (l.members[j.mem]?).map fun m => (l, m) with
    | none => .ok s1
    | some (l, m) =>
      if s.dev.sluice.stopped then .error s1
      else
        match e with
        | .killed status cause info addr =>
          drop l m { Outcomes.ofStatus status with cause := cause, info := info, taddr := addr }
        | _ =>
          let act := (c.reg 3).toNat % 4
          if c.regPoison 3 || (act == 2 && c.regPoison 4) then
            drop l m { Outcomes.ofStatus stPrologueFault with
              cause := causePoisonConsumed, info := if c.regPoison 3 then 3 else 4, taddr := c.pc }
          else
            match act with
            | 1 => drop l m (.ofStatus stCancelled)
            | 3 => drop l m (.ofStatus stPrologueFault)
            | _ =>
              match s1.recheck l m with
              | (t, .error none) => .error t
              | (_, .error (some o)) => drop l m o
              | (t, .ok m1) => .ok (t.dropReads.goAhead l m1 (act == 0) (c.reg 4))
  match done with
  | .ok t => t
  | .error t => { t with ctx := c }

/-- PROLOGUE_START (12 R396, R397): the ready minimum's prologue on a free worker. -/
def execPrologueStart (s : State) : Outcome :=
  if s.dev.sluice.stopped || s.dev.sluice.outOfService then .next s
  else
    match s.ready.head? with
    | some (.launch l) =>
      match l.members, s.freeWorker l.shun with
      | [m], some w =>
        if l.proDone || m.nop then .next s
        else
          let d := s.queueDesc m.q
          let slot : Word := BitVec.ofNat 64 (d.slotVa m.slot)
          let j : Job := { launch := l.key, mem := 0, group := 0, prologue := true, issued := 0 }
          let c : Ctx := { Ctx.vacant with
            status := .active, pc := m.pkt.propc.setWidth 64, ctl := { Ctl.zero with lid := m.lid }, asid := l.asid,
            root := l.root, job := some j }
          let c1 := (c.setReg 1 slot false).setReg 2 m.pkt.proarg false
          let s1 := s.sluice fun sl => sl.updLaunch l.key fun x => { x with phase := .prologue }
          .next ((s1.atPlace (640 + 4 * w) fun y => { y with ctx := c1 }).queue (.stream (640 + 4 * w)))
      | _, _ => .next s
    | _ => .next s

/-- PROLOGUE_OVERRUN (12 R398). -/
def execPrologueOverrun (worker : Nat) (s : State) : Outcome :=
  if 8 ≤ worker then .next s
  else
    .next (s.atPlace (640 + 4 * worker) fun y =>
      if y.ctx.ending.isNone && y.ctx.job.any (fun j => j.prologue && decide (65536 ≤ j.issued)) then
        y.killTask stPrologueFault 0 0 0
      else y)

/-- TASK_END (08 R273; 13 R410; 12 R397): the task whose issue has stopped ends once it may. -/
def execTaskEnd (s : State) : Outcome :=
  match s.ctx.ending, s.ctx.job with
  | some e, some j =>
    if j.prologue then
      let s1 := s.drain
      .next (if s1.quiet (BitVec.allOnes 16) s1.ctx.cmdSeq then s1.endPrologue j e else s1)
    else
      match e with
      | .exit => .next (s.retireTask j)
      | .waitc r k => .next (if k = 0 && s.dev.sluice.stopped then s else s.retireWait j r k)
      | .killed status cause info addr => .next (s.endKilled j status cause info addr)
  | some _, none => .next { s.freeTiles.releaseVectors with ctx := Ctx.vacant }
  | none, _ => .next s

/-! ## The end of a launch -/

/-- A member that may complete now: a NOP when it is the ready minimum (12 R389), another when its tasks have ended. -/
def State.mayComplete (s : State) (l : Launch) (i : Nat) (m : Member) : Bool :=
  if m.nop then
    match s.ready.head? with
    | some (.launch x) => x.key == l.key
    | _ => false
  else (s.dev.sluice.memberDone l.key i).isSome

/-- The launch and the place of the member that an identifier names. -/
def Sluice.byLid (sl : Sluice) (lid : BitVec 32) : Option (Launch × Nat × Member) :=
  sl.launches.findSome? fun l =>
    (l.members.zipIdx.find? fun x => x.1.lid == lid && !x.1.completed).map fun x => (l, x.2, x.1)

/-- LAUNCH_COMPLETE (12 R387, R388, R389, R404). -/
def execLaunchComplete (lid : BitVec 32) (s : State) : Outcome :=
  match s.dev.sluice.byLid lid with
  | none => .next s
  | some (l, i, m) =>
    if !s.mayComplete l i m || s.dev.sluice.stopped then .next s
    else
      match s.completionReady l.asid l.root m.pkt with
      | (s1, false) => .next (s1.sluiceWait (.launchComplete lid))
      | (s1, true) =>
        let s2 := (s1.completeMember l.asid l.root m).sluice fun sl =>
          let sl1 := sl.updMember l.key i fun x => { x with completed := true }
          { sl1 with launches := sl1.launches.filter fun x => x.key != l.key || x.members.any fun y => !y.completed }
        .next (s2.heapFreed.later .dispatch)

/-! ## Errors that cannot be carried as poison (13 R408) -/

/-- A worker abandons its step on an uncorrectable error: the prologue it ran is to be run again, by another (13 R429). -/
def State.abandonPrologue (s : State) : State :=
  match s.ctx.job with
  | some j =>
    if s.onWorker && j.prologue then
      ({ s with ctx := Ctx.vacant }.sluice fun sl => sl.updLaunch j.launch fun l =>
        { l with phase := .heap, shun := some ((s.here - 640) / 4) }).later .dispatch
    else s
  | none => s

/-- The task of the context in focus killed with no cause (13 R408). -/
def State.killUnnamed (s : State) : State :=
  if s.ctx.status == .free || s.ctx.ending.isSome then s else s.killTask stPoisoned 0 0 0

/-- CONTROL_STATE_ERROR (13 R408): every task resident on the core is killed, and the core is to be retired. A worker abandons
its step (13 R429). -/
def execControlStateError (s : State) : Outcome :=
  if s.onWorker then .next s.abandonPrologue else
  let k := s.coreNum
  let s1 := (List.range 4).foldl (fun x c => x.atPlace (4 * k + c) State.killUnnamed) s
  .next { s1 with core := { s1.core with retire := true } }

end Sys2Proof.Machine
end

