-- ==== Sys2Proof/Machine/Preempt.lean ====
section
/-!
DEFINITION. Pre-emption (13 R417 to R420), partition swaps (13 R422), thermal shedding (12 R405), the sluice's lock-step
restart (13 R429, R430), errors found by the codes (13 R406) and row sparing (13 R425).
-/
namespace Sys2Proof.Machine

/-! ## A halt is complete -/

/-- No command of the context is issued and incomplete, and neither a lane of a VATOM nor an answer of a peer is awaited (13 R417). -/
def Ctx.quiesced (c : Ctx) : Bool :=
  !(c.cmds.any fun k => k.stage == .issued || k.stage == .moved) && !c.peer.any (·.data.isNone) && c.vatom.isNone

/-- The context has halted and its rings are quiet. -/
def Ctx.halted (c : Ctx) : Bool := c.status == .halted && c.quiesced

/-- The live registers of a halt: those of the live-mask entry of a SAFEPT, else all (08 R276, 13 R419). -/
def State.liveOf (s : State) : State × BitVec 32 × BitVec 8 :=
  match s.ctx.haltIdx with
  | none => (s, BitVec.allOnes 32, BitVec.allOnes 8)
  | some k =>
    match s.liveMask k.toNat with
    | (s1, some (sm, vm)) => (s1, sm, vm)
    | (s1, none) => (s1, BitVec.allOnes 32, BitVec.allOnes 8)

/-- A region-mapped tile at a save (10 R350): written back if dirty, and filled again at its next use. A write-back that
faults leaves the tile to be saved with its bytes; one that has to wait is not done yet. It does not wait for commands that stay in
the rings over the save (13 R417). -/
def State.settleRegion (s : State) (i : Nat) : State × Bool :=
  let t := s.tile i
  let forget (x : State) : State := x.updTile i fun e => { e with state := .empty, touched := false, dirty := false }
  if !t.rmap then (s, true)
  else if !t.dirty then (forget s, true)
  else
    match s.backRows 0 false 0 scopeDevice t 0 (t.rows.toNat + 1) with
    | (s1, .error (.fault _ _ _, _)) => (s1, true)
    | (s1, .error _) => (s1, false)
    | (s1, .ok _) => (forget s1, true)

/-- The region-mapped tiles of the context in focus settled, and whether all of them could be. -/
def State.settleRegions (s : State) : State × Bool :=
  s.ownedTiles.foldl (fun x i => let (s1, ok) := x.1.settleRegion i; (s1, x.2 && ok)) (s, true)

/-- Every translation that a context has kept is dropped (13 R419). -/
def Ctx.untranslated (c : Ctx) : Ctx := c.dropPages { asid := c.asid, va := 0, len := 0, all := true }

/-- Bytes of the scratchpad over spans, each with its address. -/
def CoreSt.spanBytes (c : CoreSt) (spans : List (Nat × Nat)) : List (Nat × Byte) :=
  spans.flatMap fun x => (List.range x.2).map fun k => (x.1 + k, c.spad.read (x.1 + k))

/-- Registers outside a live mask are zero with poison clear (13 R419). -/
def Ctx.keepLive (c : Ctx) (sm : BitVec 32) : Ctx :=
  { c with regs := Vector.ofFn fun i => if sm.getLsbD i.val then c.regs.get i else 0, pois := c.pois &&& sm }

/-- The vector registers of the reservation: those in the mask as they are, the others zero and VOID. -/
def State.keepVectors (s : State) (vm : BitVec 8) : List VReg :=
  (List.range (4 * s.ctx.ctl.vCount.toNat)).map fun i =>
    if vm.getLsbD (i / 4) then s.core.vregs.toList.getD (4 * s.ctx.ctl.vBase.toNat + i) VReg.gated
    else { VReg.gated with power := .active }

/-- XCORE of the launch of the context in focus (12 R394). -/
def State.xcoreHere (s : State) : Bool := s.ctx.job.any s.jobXcore

/-- The group left at a barrier (08 R271), rather than for a pre-emption. -/
def Ctx.leftPond (c : Ctx) : Option Nat :=
  match c.atBarrier with
  | some level => if level != 1 && !c.ctl.preq then some level else none
  | none => none

/-- The context in focus, whose tiles are settled, moved into a save block (13 R419, R420) as a part of save `save`: its place
is FREE. What is not in the table is lost, and zero: TCAUSE, TVAL, TPC, the kernel scratch registers, LIVEM, the crossbar's count
and that of the instructions since a safe point; TVEC comes back from the launch's kernel descriptor (01 R53; log entry 34). -/
def State.saveHere (s : State) (save : Nat) : State :=
  let (s2, sm, vm) := s.liveOf
  let owned := s2.ownedTiles.map fun i => (i, s2.tile i)
  let spans := ((owned.filter fun x => !x.2.rmap || x.2.dirty).map fun x => x.2.span) ++ s2.ctx.ringSpans
  let bytes := s2.core.spanBytes spans
  let tvec := ((s2.ctx.job.bind s2.memberOf).map fun m => m.kd.tvec.extractLsb' 2 54).getD s2.ctx.ctl.tvec
  let ctl := { s2.ctx.ctl with tcode := 0, tinfo := 0, tval := 0, tpc := 0, kscr0 := 0, kscr1 := 0, tvec := tvec, xc := 0,
                               lmIdx := 0, lmVmask := 0, lmSmask := 0, lmValid := false }
  let ctx := { s2.ctx.keepLive sm with ctl := ctl, haltIdx := none, inPlaceHalt := false, sinceSafe := 0 }.untranslated
  let sv : Saved :=
    { ctx := ctx, core := s2.coreNum, tiles := owned, bytes := bytes,
      ue := s2.core.ue.filter fun a => spans.any fun x => decide (x.1 ≤ a) && decide (a < x.1 + x.2),
      vregs := s2.keepVectors vm, sems := if s2.xcoreHere then some s2.core.sems else none,
      pond := s2.ctx.leftPond, save := save }
  let s3 := s2.freeTiles.releaseVectors
  { s3 with ctx := Ctx.vacant }.sluice fun sl => { sl with saved := sl.saved ++ [sv] }

/-- The launch returns to the heap (12 R395, R405), or waits for an entry (12 R390). -/
def State.returnLaunch (s : State) (key : Nat) : State :=
  s.sluice fun sl =>
    let sl1 := sl.updLaunch key fun l => { l with preempted := true }
    match sl1.launch? key with
    | some l => if l.phase == .running then sl1.enterHeap key else sl1
    | none => sl1

/-- The partition of the cluster in focus. -/
def State.partHere (s : State) : Option Nat := s.clu.part

/-- Places of a partition. -/
def State.partPlaces (s : State) (part : Nat) : List Nat :=
  (s.partClusters part).flatMap fun u => (List.range 64).map fun k => 64 * u + k

/-- Every context of a partition is FREE or has halted (13 R422). -/
def State.partHalted (s : State) (part : Nat) : Bool :=
  (s.partPlaces part).all fun p =>
    let c := s.allCtxs.getD p Ctx.vacant
    c.free || c.halted

/-- The service class of the launch whose task a context holds. -/
def State.classOf (s : State) (c : Ctx) : Option Nat :=
  (c.job.bind fun j => s.dev.sluice.launch? j.launch).map (·.scls)

/-- A context that resumes where it halted (12 R405). -/
def State.resumeInPlace (s : State) : State :=
  if s.ctx.status == .halted then
    ({ s with ctx := { s.ctx with inPlaceHalt := false, haltIdx := none } }.setCtl fun c => { c with preq := false }).goOn
  else s

/-- The unit saved: its tiles are settled first, and while one has to wait nothing is saved. -/
def State.saveUnit (s : State) (unit : List Nat) : State :=
  let pond := s.ctx.leftPond
  let settle (x : State × Bool) (p : Nat) : State × Bool :=
    let (y, ok) := (x.1.focus p).settleRegions
    (y, x.2 && ok)
  let (s0, ok) := unit.foldl settle (s, true)
  let s1 := s0.focus s.here
  if !ok then s1
  else
    let key := s1.ctx.job.map (·.launch)
    let save := s1.dev.sluice.orderNext
    let s2 := (unit.foldl (fun x p => x.atPlace p fun y => y.saveHere save) s1).sluice fun sl =>
      { sl with orderNext := sl.orderNext + 1 }
    let s3 := match key, pond with
      | some k, none => s2.returnLaunch k
      | _, _ => s2
    s3.later .dispatch

/-- HALT_COMPLETE (13 R417 to R420; 12 R394, R405): when every member of the unit has halted and its rings are quiet, the
unit is saved, which is a commit of the pair and waits while that restarts (13 R429). A pre-empted unit that finds no free save block stays HALTED in place while shedding asks for it, which it
does of background tasks, and resumes otherwise; a group that leaves at a barrier (08 R271) waits for none. -/
def execHaltComplete (s : State) : Outcome :=
  if s.ctx.status != .halted then .next s
  else if !s.ctx.quiesced then
    .next (if s.ctx.peer.any (·.data.isNone) || s.ctx.vatom.isSome then s else s.retryLater .haltComplete)
  else
    let swapping := match s.partHere with
      | some p => s.dev.swaps.contains p && !s.onWorker
      | none => false
    if swapping then
      match s.partHere with
      | some p => .next (if s.partHalted p then s.queue (.own s.here (.swapExchange p)) else s)
      | none => .next s
    else
      let unit := s.victims s.here
      if !unit.all (fun p => (s.allCtxs.getD p Ctx.vacant).halted) || s.dev.sluice.stopped then .next s
      else
        let pond := s.ctx.leftPond
        if pond.isNone && s.freeBlocks < unit.length then
          if 2 ≤ s.dev.sluice.therm && s.classOf s.ctx == some 2 then
            .next (unit.foldl (fun x p => x.atPlace p fun y => { y with ctx := { y.ctx with inPlaceHalt := true } }) s)
          else .next (unit.foldl (fun x p => x.atPlace p State.resumeInPlace) s)
        else .next (s.saveUnit unit)

/-! ## Thermal shedding (12 R405, 15 R470) -/

/-- What the thermal level asks for: from level 2 on, running background tasks are asked to halt, and below it those halted in
place resume. Prologues are no tasks. While the pair restarts nothing is decided (13 R429). -/
def State.shed (s : State) : State :=
  if s.dev.sluice.stopped then s
  else if 2 ≤ s.dev.sluice.therm then
    s.requestAll (s.placesWith fun c => !c.free && s.classOf c == some 2 && !c.inPlaceHalt && !c.job.any (·.prologue))
  else (s.placesWith (·.inPlaceHalt)).foldl (fun x p => x.atPlace p State.resumeInPlace) s

/-! ## Partition swap (13 R422) -/

/-- PARTITION_SWAP: every context of the partition is asked to halt; the exchange follows when all have. -/
def execPartitionSwap (part : Nat) (s : State) : Outcome :=
  if !s.partFormed part || s.dev.swaps.contains part then .next s
  else
    let s1 := { s with dev := { s.dev with swaps := part :: s.dev.swaps } }
    let ps := (s1.partPlaces part).filter fun p => !(s1.allCtxs.getD p Ctx.vacant).free
    let s2 := s1.requestAll ps
    .next (if s2.partHalted part then s2.later (.swapExchange part) else s2)

/-- A core with the exchanged parts of another image: scratchpad, tile table, vector registers, semaphores. Arrays and
the failures of the hardware stay. -/
def CoreSt.exchange (mine other : CoreSt) : CoreSt :=
  { mine with spad := other.spad, ue := other.ue, tiles := other.tiles, vregs := other.vregs, sems := other.sems }

/-- A context that comes back from a cellar: a halted one goes on. -/
def Ctx.fromCellar (c : Ctx) : Ctx :=
  if c.status == .halted then
    { c.untranslated with status := .active, haltIdx := none, inPlaceHalt := false, ctl := { c.ctl with preq := false } }
  else c

/-- The running image of a cluster. -/
def State.clusterImage (s : State) (u : Nat) : ClusterImage :=
  { cores := (s.allCores.drop (16 * u)).take 16, ctxs := cluCtxs s.allCtxs u,
    psems := (s.allClus.getD u ClusterSt.blank).psems }

/-- An empty cellar leaves the cores idle. -/
def ClusterImage.idle : ClusterImage :=
  { cores := List.replicate 16 CoreSt.blank, ctxs := List.replicate 64 Ctx.vacant, psems := Vector.replicate 16 0 }

/-- One cluster exchanged with its cellar. -/
def State.exchangeCluster (s : State) (u : Nat) : State :=
  let mine := s.clusterImage u
  let im := (s.allClus.getD u ClusterSt.blank).cellar.getD ClusterImage.idle
  (List.range 64).foldl (fun x k =>
    (x.atPlace (64 * u + k) fun y =>
      let y1 := { y with ctx := (im.ctxs.getD k Ctx.vacant).fromCellar }
      let y2 := if k % 4 = 0 then { y1 with core := y1.core.exchange (im.cores.getD (k / 4) CoreSt.blank) } else y1
      if k = 0 then { y2 with clu := { y2.clu with psems := im.psems, cellar := some mine } } else y2)) s

/-- The lines of the partition's slices written back and invalidated (10 R328). -/
def State.flushSlices (s : State) (part : Nat) : State :=
  let us := s.partClusters part
  let ls := (s.dev.blocks.filter fun b => us.contains b.slice).flatMap (·.lines)
  { s with dev := ls.foldl (fun d la => d.flushLine la) s.dev }

/-- SWAP_EXCHANGE (13 R422). Background tasks that come back at level 2 or 3 are asked to halt (12 R405). -/
def execSwapExchange (part : Nat) (s : State) : Outcome :=
  if !s.dev.swaps.contains part || !s.partHalted part then .next s
  else
    let s1 := s.flushSlices part
    let s2 := (s1.partClusters part).foldl State.exchangeCluster s1
    .next ({ s2 with dev := { s2.dev with swaps := s2.dev.swaps.filter (· != part) } }.shed.later .dispatch)

/-- The thermal level at a temperature (15 R470, table *Thermal levels*): a level is entered at its upper temperature and left
below its lower one. -/
def thermalLevel (old : Nat) (celsius : Int) : Nat :=
  let entered := if 100 ≤ celsius then 3 else if 95 ≤ celsius then 2 else if 90 ≤ celsius then 1 else 0
  let kept := if celsius < 85 then 0 else if celsius < 90 then 1 else if celsius < 95 then 2 else 3
  max entered (min old kept)

/-- THERMAL_LEVEL_CHANGE: the hottest sensor's reading is taken and gives the level, which DEVSTAT shows and which is acted on. -/
def execThermalLevelChange (celsius : Int) (s : State) : Outcome :=
  let l := thermalLevel s.dev.sluice.therm celsius
  let s1 := { s with dev := { s.dev with therm := BitVec.ofNat 2 l, celsius := celsius } }.sluice fun sl => { sl with therm := l }
  .next (s1.shed.later .dispatch)

/-! ## Lock-step (12 R378; 13 R429, R430) -/

/-- LOCKSTEP_MISMATCH: parsing, dispatch and completion stop, and the event is reported; the third within a second takes
the device out of service. -/
def execLockstepMismatch (s : State) : Outcome :=
  let now := s.dev.time
  let ms := now :: s.dev.sluice.mismatches.filter fun t => decide (now.toNat - t.toNat < 10 ^ 9)
  let out := decide (3 ≤ ms.length)
  let s1 := s.sluice fun sl => { sl with stopped := true, mismatches := ms, outOfService := sl.outOfService || out }
  let d := s1.dev.event 7 s1.dev.num.toNat ms.length
  .next { s1 with dev := if out then { d with state := .outOfService } else d }

/-- LOCKSTEP_RESTART (12 R378): parsing, dispatch and completion go on from the committed state. -/
def execLockstepRestart (s : State) : Outcome :=
  if s.dev.sluice.outOfService || !s.dev.sluice.stopped then .next s
  else
    let s1 := s.sluice fun sl => { sl with stopped := false }
    let s2 := s1.dev.sluice.queues.foldl (fun x q => x.later (.kickReport q.q)) s1
    let done := s2.dev.sluice.launches.flatMap fun l =>
      l.members.zipIdx.filterMap fun m => s2.dev.sluice.memberDone l.key m.2
    .next ((done.foldl (fun x lid => x.later (.launchComplete lid)) s2).shed.later .dispatch)

/-! ## Row sparing (13 R425, R426) -/

/-- Spare rows of a bank in use. -/
def spareCount (used : List (Nat × Nat)) (bank : Nat) : Nat := (used.filter fun x => x.1 == bank).length

/-- A row of a scratchpad bank of the core in focus, or of a vault bank of its cluster, copied to a spare row while traffic
continues (13 R425); a bank whose spares are used up keeps serving (13 R426). -/
def State.spareRow (s : State) (bank row : Nat) (vault : Bool) : State :=
  let x : Sparing := { bank := bank, row := row, vault := vault }
  if vault then
    let c := s.clu
    if 8 ≤ spareCount c.vaultSpares bank + (c.vaultCopying.filter fun y => y.bank == bank).length || c.vaultCopying.contains x then s
    else { s with clu := { c with vaultCopying := x :: c.vaultCopying } }
  else
    let c := s.core
    if 4 ≤ spareCount c.sparesUsed bank + (c.copying.filter fun y => y.bank == bank).length || c.copying.contains x then s
    else { s with core := { c with copying := x :: c.copying } }

/-- ROW_SPARE_START (13 R425). -/
def execRowSpareStart (bank row : Nat) (vault : Bool) (s : State) : Outcome := .next (s.spareRow bank row vault)

/-- A line entered in the repair log (15 R469), which holds up to 256 entries. -/
def Device.logHbm (d : Device) (la : Nat) : Device :=
  let b := d.bizil
  { d with bizil := { b with repairLog := if b.repairLog.contains la then b.repairLog else (b.repairLog ++ [la]).take 256 } }

/-- What a step has left to report: a poisoned HBM line is logged and reported to the host (13 R407; 15 R469, R471); a
write-back that was dropped is an error entry of the launch of the task in focus, with the physical address (14 R444, R447;
log entry 72). -/
def State.reportLines (s : State) : State :=
  if s.dev.lost.isEmpty && s.dev.unlogged.isEmpty then s
  else
    let s1 := s.dev.lost.foldl (fun x pa => x.errorEntry 3 (BitVec.ofNat 64 pa)) s
    { s1 with dev := s.dev.unlogged.foldl (fun d la => (d.logHbm la).event 3 d.num.toNat la)
                { s1.dev with lost := [], unlogged := [] } }

/-- A corrected error changes no value; the second one in a row has the row of an SRAM copied to a spare, and that of HBM logged
(13 R406, R425; 15 R469). -/
def State.correctedError (s : State) (r : RowPlace) : State :=
  match r with
  | .scratchpad bank row =>
    if s.core.corrected.contains (bank, row) then s.spareRow bank row false
    else { s with core := { s.core with corrected := (bank, row) :: s.core.corrected } }
  | .vault bank row =>
    if s.clu.vaultCorrected.contains (bank, row) then s.spareRow bank row true
    else { s with clu := { s.clu with vaultCorrected := (bank, row) :: s.clu.vaultCorrected } }
  | .hbm pa =>
    let row := Config.hbmRow (lineOf pa)
    if residency pa ≠ 0 then s
    else if s.dev.hbmCorrected.contains row then { s with dev := s.dev.logHbm (lineOf pa) }
    else { s with dev := { s.dev with hbmCorrected := row :: s.dev.hbmCorrected } }

/-! ## Errors found by the codes (13 R406, R407) -/

/-- A cached line marked poisoned. -/
def Device.markLine (d : Device) (la : Nat) : Device :=
  { d with lines := d.lines.map fun (x : CLine) => if x.pa == la then { x with poison := true } else x }

/-- The row of the vault that holds a line of the block cache has shown an error (13 R425). -/
def State.spareVaultRow (s : State) (la : Nat) : State :=
  match s.dev.blocks.find? fun b => b.lines.contains la with
  | none => s
  | some b =>
    let (bank, row) := Config.vaultRow b.slice la
    s.atPlace (64 * b.slice) fun y => y.spareRow bank row true

/-- An uncorrectable error in a byte of the scratchpad: the byte is marked, and its row is copied to a spare (10 R324; 13 R406,
R425). -/
def State.spadError (s : State) (a : Nat) : State :=
  { s with core := { s.core with ue := insertNat a s.core.ue } }.spareRow (16 * (a / 2 ^ 17) + a / 16 % 16) (a / 2 ^ 8 % 2 ^ 9) false

/-- UNCORRECTABLE_ERROR (13 R406): what table *Error origins* gives for the place. -/
def execUncorrectableError (site : ErrorSite) (s : State) : Outcome :=
  match site with
  | .scalarRegister r =>
    .next (if s.onWorker then s.abandonPrologue
           else if r = 0 ∨ 32 ≤ r then s
           else { s with ctx := { s.ctx with pois := putBit s.ctx.pois r true, lastLoad := s.ctx.lastLoad.filter (·.1 != r) } })
  | .vectorRegister k =>
    let v := s.core.vregs.toList.getD k VReg.gated
    .next (if v.power = .gated then s else s.setVphys k { v with tag := tagPoison })
  | .scratchpad a => .next (if a < 2 ^ 20 then s.spadError a else s)
  | .scalarCacheLine pa =>
    .next { s with dev := { s.dev with dcache := s.dev.dcache.filter fun c => c.core != s.coreNum || c.pa != lineOf pa } }
  | .blockLine pa =>
    match s.dev.lineAt pa with
    | none => .next s
    | some l =>
      let s1 := s.spareVaultRow l.pa
      .next { s1 with dev := if l.dirty then (s1.dev.markLine l.pa).cleanLine l.pa else s1.dev.dropLine l.pa }
  | .lagoonSector i =>
    match s.dev.lagoon.find? fun f => f.idx == i with
    | none => .next s
    | some f =>
      if f.dirty then
        let b := s.dev.lagoonBase + 2048 * f.idx
        let d := (List.range 16).foldl (fun x k => x.setPoison (b + 128 * k) true) s.dev
        .next { s with dev := d.cleanFrame f.idx }
      else .next { s with dev := { s.dev with lagoon := s.dev.lagoon.filter fun x => x.idx != f.idx } }
  | .hbmLine pa => .next (if pa < 2 ^ 39 then { s with dev := s.dev.setPoison (lineOf pa) true } else s)
  | .poolLine pa =>
    .next (if residency pa = 2 then { s with dev := s.dev.setPoison (lineOf pa) true } else s)
  | .corrected r => .next (s.correctedError r)

/-- ROW_SPARE_SWITCH (13 R425): the row is switched to its spare at once; what it holds is the same, and the spare row has shown
no error. -/
def execRowSpareSwitch (bank row : Nat) (vault : Bool) (s : State) : Outcome :=
  let x : Sparing := { bank := bank, row := row, vault := vault }
  if vault then
    if s.clu.vaultCopying.contains x then
      .next { s with clu := { s.clu with vaultCopying := s.clu.vaultCopying.erase x,
                                         vaultSpares := (bank, row) :: s.clu.vaultSpares,
                                         vaultCorrected := s.clu.vaultCorrected.erase (bank, row) } }
    else .next s
  else if s.core.copying.contains x then
    .next { s with core := { s.core with copying := s.core.copying.erase x, sparesUsed := (bank, row) :: s.core.sparesUsed,
                                         corrected := s.core.corrected.erase (bank, row) } }
  else .next s

end Sys2Proof.Machine
end

