-- ==== Sys2Proof/Machine/Fabric.lean ====
section
/-!
DEFINITION. Garetor: packets as they arrive and are applied in lane order (14 R449 to R453, R457, R458), what resolves a
request (14 R454, R457), acknowledgements, planes and their failover (14 R455), unreachable devices (14 R456) and the
exchange of device time (14 R459).
-/
namespace Sys2Proof.Machine

def Device.peer (d : Device) (n : Nat) : Peer := d.peers.toList.getD n Peer.fresh

def Device.updPeer (d : Device) (n : Nat) (f : Peer → Peer) : Device := { d with peers := updAt d.peers n f }

def Device.rxLane (d : Device) (src lane : Nat) : RxLane := (d.peer src).rx.toList.getD lane RxLane.fresh

def Device.updRx (d : Device) (src lane : Nat) (f : RxLane → RxLane) : Device :=
  d.updPeer src fun p => { p with rx := updAt p.rx lane f }

/-! ## Answers to the accesses of this device -/

/-- What waited for an answer goes on: an ending task, a halted context, a stalled instruction, the rings' engines. -/
def State.resumeWork (s : State) : State :=
  let s1 :=
    if s.ctx.ending.isSome then s.later .taskEnd
    else if s.ctx.status = .halted then s.later .haltComplete
    else if s.ctx.issues then s.later .stallClear
    else s
  [Ring.ri, Ring.ro, Ring.mx].foldl
    (fun x r => if x.ctx.cmds.any fun k => k.ring == r then x.queue (.engine x.here r) else x) s1

/-- An answer put where a request waits for it. -/
def fillWait (dst : Nat) (tag : BitVec 16) (bs : List Byte) (st : BitVec 3) (w : PeerWait) : PeerWait :=
  if w.tag == tag && w.dst == dst && w.data.isNone then { w with data := some bs, status := st } else w

/-- A wait of the context in focus is answered: an access that brings nothing back has performed. -/
def State.answerHere (s : State) (dst : Nat) (tag : BitVec 16) (bs : List Byte) (st : BitVec 3) (entry : BitVec 8) : State :=
  match s.ctx.peer.find? fun w => w.tag == tag && w.dst == dst && w.data.isNone with
  | none => s
  | some w =>
    if w.kind = 3 then
      let s1 := { s with ctx := { s.ctx with peer := s.ctx.peer.filter fun x => x.tag != tag } }
      (if entry = 0 then s1 else s1.errorEntry entry w.va).resumeWork
    else
      let s1 := { s with ctx := { s.ctx with peer := s.ctx.peer.map (fillWait dst tag bs st) } }
      if w.kind = 2 then s1.later (.attnrReply (replyOf bs)) else s1.resumeWork

/-- The place whose context waits for an answer. -/
def State.waiter (s : State) (dst : Nat) (tag : BitVec 16) : Option Nat :=
  s.allCtxs.findIdx? fun c => c.peer.any fun w => w.tag == tag && w.dst == dst && w.data.isNone

/-- An answer that a service of this device as a holder waits for (07 R257). -/
def State.answerServe (s : State) (dst : Nat) (tag : BitVec 16) (bs : List Byte) (st : BitVec 3) : State :=
  let waits (v : Serve) : Bool := v.peer.any fun w => w.tag == tag && w.dst == dst && w.data.isNone
  let fill (v : Serve) : Serve := { v with peer := v.peer.map (fillWait dst tag bs st) }
  if s.dev.serves.any waits then (s.onDev fun d => { d with serves := d.serves.map fill }).serveAll else s

/-- An answer that a step of the sluice waits for (log entry 40): the step finds it when it is made again. -/
def State.answerSluice (s : State) (dst : Nat) (tag : BitVec 16) (bs : List Byte) (st : BitVec 3) : State :=
  s.sluice fun sl => { sl with peer := sl.peer.map (fillWait dst tag bs st) }

/-- An answer given to the context that waits for it, to a service or to the sluice; `entry` is the kind of error entry that an
access which brings nothing back leaves, 0 for none. -/
def State.answer (s : State) (dst : Nat) (tag : BitVec 16) (bs : List Byte) (st : BitVec 3) (entry : BitVec 8) : State :=
  match s.waiter dst tag with
  | none => (s.answerServe dst tag bs st).answerSluice dst tag bs st
  | some p => s.atPlace p fun x => x.answerHere dst tag bs st entry

/-- A packet resolved: it leaves the retry buffer, and what waited for room may go (14 R451). -/
def Device.resolve (d : Device) (dst : Nat) (g : GPacket) : Device :=
  (d.updPeer dst fun p => { p with tx := p.tx.map fun t => { t with sent := t.sent.filter fun x => x != g } }).pump dst

/-- The unresolved requests with a tag: more than one for an AREQ in parts. -/
def Device.askedAll (d : Device) (dst : Nat) (tag : BitVec 16) : List GPacket :=
  ((d.peer dst).tx.toList.flatMap (·.sent)).filter fun g =>
    g.tag == tag && (g.type == gRead || g.type == gAtom || g.type == gRed || g.type == gWrite || g.type == gAreq)

/-- The unresolved request with a tag. -/
def Device.asked (d : Device) (dst : Nat) (tag : BitVec 16) : Option GPacket := (d.askedAll dst tag).head?

/-- Types that an acknowledgement resolves (14 R450). -/
def ackResolves (g : GPacket) : Bool :=
  g.type == gWrite || g.type == gData || g.type == gRed || g.type == gArep || (g.type == gAtom && !g.ret)

/-- A cumulative acknowledgement (14 R449, R454): what it resolves has performed. -/
def State.acknowledge (s : State) (src : Nat) (lane : Nat) (upTo : BitVec 16) : State :=
  let t := (s.dev.peer src).tx.toList.getD lane TxLane.fresh
  (t.sent.filter fun g => ackResolves g && decide ((upTo - g.seq).toNat < 2 ^ 15)).foldl
    (fun x g =>
      let y := x.onDev fun d => d.resolve src g
      if g.type = gData ∨ g.type = gArep then y else y.answer src g.tag [] 0 0) s

/-- The acknowledgement that a header carries. -/
def State.headerAck (s : State) (p : GPacket) : State :=
  if p.av then s.acknowledge p.src.toNat p.ackl.toNat p.ack else s

/-! ## Applying a packet -/

/-- The refusals of R457 and R458: a span whose bit is 0 for the source, or the lagoon. -/
def Device.refuses (d : Device) (p : GPacket) : Bool :=
  !(d.accessMap.toList.getD p.src.toNat 0).getLsbD (p.off.toNat / 2 ^ 34) || decide (d.lagoonBase ≤ p.off.toNat)

/-- A RESULT for a packet, on the plane of the source's last packet (14 R450, R454). -/
def Device.sendResult (d : Device) (p : GPacket) (st : BitVec 3) (bs : List Byte) : Device :=
  d.emit p.src.toNat p.lane.toNat
    { gBlank with type := gResult, dst := p.src, src := d.num, lane := p.lane, cls := p.cls, status := st, tag := p.tag,
                  len := BitVec.ofNat 9 bs.length, payload := bs, planeB := (d.rxLane p.src.toNat p.lane.toNat).planeB }

/-- The result of a returning atomic kept (14 R453). -/
def Device.keepResult (d : Device) (p : GPacket) (bs : List Byte) (st : BitVec 3) : Device :=
  if p.type = gAtom ∧ p.ret then
    d.updRx p.src.toNat p.lane.toNat fun x => { x with results := (p.seq, bs, st) :: x.results.take 1023 }
  else d

/-- A packet refused: its result is what resolves it (14 R457). -/
def State.refuse (s : State) (p : GPacket) (st : BitVec 3) : State :=
  s.onDev fun d => (d.keepResult p [] st).sendResult p st []

/-- The atomic operation of an op code (03 R95). -/
def atomOpOf (c : BitVec 4) : Option AtomOp :=
  [AtomOp.swap, .cas, .add, .and, .or, .xor, .min, .max, .minn, .maxn, .fadd][c.toNat]?

/-- The result of a returning atomic kept and sent. -/
def State.answerAtomic (s : State) (p : GPacket) (st : BitVec 3) (bs : List Byte) : State :=
  s.onDev fun d => (d.keepResult p bs st).sendResult p st bs

/-- A head's commit made at its home (07 R237; log entry 53): the payload is the VER expected and the head's 32 bytes, which
are written if VER holds that value; the answer is the VER found, or that the line is poisoned. -/
def State.applyCommit (s : State) (p : GPacket) : State :=
  let (s1, bs, poisoned) := s.readPhys p.off.toNat 32 0
  let ver := (bs.drop 10).take 2
  if poisoned then s1.answerAtomic p 3 ver
  else
    let s2 := if ver = p.payload.take 2 then s1.writePhys p.off.toNat ((p.payload.drop 2).take 32) 0 false 0 else s1
    s2.answerAtomic p 0 ver

/-- An ATOM or RED made at its location (14 R452, R453). One that meets a poisoned line, and returns nothing, tells its
source so. STATUS says which value it brings is poisoned (04 R145; log entry 48). -/
def State.applyAtomic (s : State) (p : GPacket) : State :=
  match atomOpOf p.op with
  | none => s.refuse p 2
  | some op =>
    if p.size.toNat < 2 then s.refuse p 2
    else
      let n := 2 ^ p.size.toNat
      let (s1, old, poisoned) := s.atomAt op p.off.toNat p.size.toNat 0 (leNat (p.payload.take n)) (leNat (p.payload.drop n))
        (p.status == 3) (p.status == gNewPoisoned) 0
      let st : BitVec 3 := if poisoned then 3 else 0
      if p.type = gAtom ∧ p.ret then s1.answerAtomic p st (leBytes n old)
      else if poisoned then s1.onDev fun d => d.sendResult p 3 []
      else s1

/-- A sequenced answer sent back in the packet's lane (14 R450). -/
def Device.reply (d : Device) (p : GPacket) (type : BitVec 4) (st : BitVec 3) (bs : List Byte) : Device :=
  d.sendLane p.src.toNat p.lane.toNat
    { gBlank with type := type, cls := p.cls, tag := p.tag, status := st, len := BitVec.ofNat 9 bs.length, payload := bs }

/-- The answer that a DATA or AREP is: the request it answers, in all its parts, is resolved and has performed (14 R454). -/
def State.accept (s : State) (p : GPacket) (payload : List Byte) : State :=
  let asked := (s.dev.askedAll p.src.toNat p.tag).filter fun g =>
    (p.type == gData && g.type == gRead) || (p.type == gArep && g.type == gAreq)
  if asked.isEmpty then s
  else
    let s1 := s.onDev fun d => asked.foldl (fun x g => x.resolve p.src.toNat g) d
    s1.answer p.src.toNat p.tag payload p.status 0

/-- A part of an AREQ or AREP (log entry 48): a part of 256 bytes has another behind it. -/
def State.takePart (s : State) (p : GPacket) (f : State → List Byte → State) : State :=
  let src := p.src.toNat
  let lane := p.lane.toNat
  let parts := (s.dev.rxLane src lane).parts
  let all := ((parts.find? fun x => x.1 == p.tag).elim [] (·.2)) ++ p.payload
  let rest := parts.filter fun x => x.1 != p.tag
  let keep (ps : List (BitVec 16 × List Byte)) : State := s.onDev fun d => d.updRx src lane fun x => { x with parts := ps }
  if p.len.toNat < gMaxPayload then f (keep rest) all else keep ((p.tag, all) :: rest)

/-- A packet applied (14 R450, R452, R457, R458). -/
def State.apply (s : State) (p : GPacket) : State :=
  if p.type = gData then s.accept p p.payload
  else if p.type = gArep then s.takePart p fun x bs => x.accept p bs
  else if p.type = gAreq then s.takePart p fun x bs => x.startServe p.src.toNat p.lane.toNat p.cls p.tag bs
  else if s.dev.refuses p then s.refuse p 2
  else if p.type = gAtom ∧ p.op = gCommit then s.applyCommit p
  else if p.type = gWrite then
    { s with dev := s.dev.writeSpan [] 0 (p.status == 3) p.payload.length p.off.toNat p.payload }.reportKick p.off.toNat
  else if p.type = gRead then
    let n := p.rlen.toNat
    let (d, bs, poisoned) := s.dev.readSpan [] 0 4 p.off.toNat n
    { s with dev := d.reply p gData (if poisoned then 3 else 0) bs }
  else s.applyAtomic p

/-- The base-die unit reports the access not applied (10 R334, 14 R457): an atomic whose channel is being switched. -/
def Device.unitBusy (d : Device) (p : GPacket) : Bool :=
  (p.type == gAtom || p.type == gRed) && d.switching.contains (homeChannel p.off.toNat)

/-- An ACK packet for a lane (14 R454). -/
def Device.sendAck (d : Device) (src lane : Nat) : Device :=
  d.emit src lane { gBlank with type := gAck, dst := BitVec.ofNat 4 src, src := d.num, lane := BitVec.ofNat 2 lane,
                                planeB := (d.rxLane src lane).planeB }

/-- E passes a packet that is done with; the sixty-fourth that is unacknowledged sends an ACK (14 R452, R454). -/
def Device.passed (d : Device) (src lane : Nat) : Device :=
  let d1 := d.updRx src lane fun x => { x with expect := x.expect + 1, unacked := x.unacked + 1, retrying := none }
  if 64 ≤ (d1.rxLane src lane).unacked then d1.sendAck src lane else d1

/-- The packet expected next is applied, or kept at the head of its lane when the unit does not apply it. -/
def State.applyHead (s : State) (p : GPacket) : State :=
  let src := p.src.toNat
  let lane := p.lane.toNat
  if s.dev.unitBusy p && !s.dev.refuses p then s.onDev fun d => d.updRx src lane fun x => { x with retrying := some p }
  else (s.apply p).onDev fun d => d.passed src lane

/-- Buffered packets that now follow in order are applied (14 R452). -/
def State.drainLane (s : State) (src lane : Nat) : Nat → State
  | 0 => s
  | k + 1 =>
    let x := s.dev.rxLane src lane
    if x.retrying.isSome then s
    else
      match x.buffer.find? fun g => g.seq == x.expect with
      | none => s
      | some g =>
        let s1 := s.onDev fun d => d.updRx src lane fun y => { y with buffer := y.buffer.filter fun h => h.seq != g.seq }
        (s1.applyHead g).drainLane src lane k

/-- Bytes in the apply buffer, of all sources (14 R452). -/
def Device.applyBytes (d : Device) : Nat :=
  (d.peers.toList.map fun p => (p.rx.toList.map fun x => (x.buffer.map fun g => 24 + g.payload.length).sum).sum).sum

/-- A discard counted on its plane (14 R450, 15 R472). -/
def Device.discard (d : Device) (planeB : Bool) : Device :=
  if planeB then { d with tel := { d.tel with discardB := satInc d.tel.discardB 1 } }
  else { d with tel := { d.tel with discardA := satInc d.tel.discardA 1 } }

/-- A duplicate: dropped, but a returning ATOM is answered again (14 R452, R453), and the acknowledgement of its lane is owed
again, since the one sent may be lost (14 R454). -/
def Device.duplicate (d : Device) (p : GPacket) : Device :=
  let d1 := d.updRx p.src.toNat p.lane.toNat fun x => { x with unacked := x.unacked + 1 }
  if p.type = gAtom ∧ p.ret then
    match (d.rxLane p.src.toNat p.lane.toNat).results.find? fun x => x.1 == p.seq with
    | some (_, bs, st) => d1.sendResult p st bs
    | none => d1
  else d1

/-- The plane of a source's last packet (14 R454). -/
def Device.heardOn (d : Device) (src : Nat) (planeB : Bool) : Device :=
  d.updPeer src fun q => { q with rx := q.rx.map fun x => { x with planeB := planeB } }

/-- A header that the format allows (14 R450). -/
def formed (type : BitVec 4) (p : GPacket) : Bool := p.type == type && p.ver == 1 && p.rsv == 0

/-- A sequenced packet arrives (14 R452); in RESET no port carries traffic (15 R463). -/
def State.arriveSeq (s : State) (type : BitVec 4) (p : GPacket) : State :=
  if s.dev.state = .reset then s
  else if !formed type p then s.onDev fun d => d.discard p.planeB
  else
    let src := p.src.toNat
    let lane := p.lane.toNat
    let s1 := (s.onDev fun d => d.heardOn src p.planeB).headerAck p
    let x := s1.dev.rxLane src lane
    let d := (p.seq - x.expect).toNat
    if d = 0 then
      if x.retrying.isSome then s1 else (s1.applyHead p).drainLane src lane (x.buffer.length + 1)
    else if d < 1024 then
      if x.buffer.any fun g => g.seq == p.seq then s1
      else if 2 ^ 22 < s1.dev.applyBytes + 24 + p.payload.length then s1.onDev fun e => e.sendResult p 4 []
      else s1.onDev fun e => e.updRx src lane fun y => { y with buffer := y.buffer ++ [p] }
    else if 64512 ≤ d then s1.onDev fun e => e.duplicate p
    else s1.onDev fun e => e.discard p.planeB

/-- A packet without a sequence number arrives. -/
def State.arriveLoose (s : State) (type : BitVec 4) (p : GPacket) (f : State → State) : State :=
  if s.dev.state = .reset then s
  else if !formed type p then s.onDev fun d => d.discard p.planeB
  else f ((s.onDev fun d => d.heardOn p.src.toNat p.planeB).headerAck p)

/-- WRITE (14 R452). -/
def execWrite (p : GPacket) (s : State) : Outcome := .next (s.arriveSeq gWrite p)

/-- READ (14 R452). -/
def execRead (p : GPacket) (s : State) : Outcome := .next (s.arriveSeq gRead p)

/-- DATA (14 R454). -/
def execData (p : GPacket) (s : State) : Outcome := .next (s.arriveSeq gData p)

/-- ATOM (14 R453). -/
def execAtom (p : GPacket) (s : State) : Outcome := .next (s.arriveSeq gAtom p)

/-- RED (14 R452). -/
def execRed (p : GPacket) (s : State) : Outcome := .next (s.arriveSeq gRed p)

/-- AREQ (07 R257): the holder computes and replies. -/
def execAreq (p : GPacket) (s : State) : Outcome := .next (s.arriveSeq gAreq p)

/-- AREP (07 R256). -/
def execArep (p : GPacket) (s : State) : Outcome := .next (s.arriveSeq gArep p)

/-- ACK (14 R454): what it says is in its header. -/
def execAck (p : GPacket) (s : State) : Outcome := .next (s.arriveLoose gAck p id)

/-- The error entry that a refusal leaves (14 R457): 0 for none. -/
def refusalEntry (g : GPacket) (st : BitVec 3) : BitVec 8 :=
  if st = 3 then 3
  else if g.type = gRed then 1
  else if g.type = gAtom ∧ st = 1 then 2
  else 3

/-- RESULT (14 R457): BUSY and HELD resolve nothing; any other resolves its request. -/
def execResult (p : GPacket) (s : State) : Outcome :=
  .next (s.arriveLoose gResult p fun s1 =>
    if 4 ≤ p.status.toNat then s1
    else
      match s1.dev.asked p.src.toNat p.tag with
      | none => s1
      | some g =>
        if g.type = gAreq then s1
        else
          let s2 := s1.onDev fun d => d.resolve p.src.toNat g
          s2.answer p.src.toNat p.tag p.payload p.status (if p.status = 0 then 0 else refusalEntry g p.status))

/-! ## The destination's timers -/

/-- ACK_SEND (14 R454). -/
def execAckSend (src lane : Nat) (s : State) : Outcome :=
  if (s.dev.rxLane src lane).unacked = 0 then .next s else .next (s.onDev fun d => d.sendAck src lane)

/-- BUSY_RESEND (14 R452): the packet goes again on the same plane. -/
def execBusyResend (dst lane : Nat) (seq : BitVec 16) (s : State) : Outcome :=
  match ((s.dev.peer dst).tx.toList.getD lane TxLane.fresh).sent.find? fun g => g.seq == seq with
  | none => .next s
  | some g => .next (s.onDev fun d => d.emit dst lane g)

/-- APPLY_RETRY (14 R457): whether the unit applies it this time. -/
def execApplyRetry (src lane : Nat) (applied : Bool) (s : State) : Outcome :=
  match (s.dev.rxLane src lane).retrying with
  | none => .next s
  | some p =>
    if !applied then .next s
    else
      let s1 := (s.apply p).onDev fun d => d.passed src lane
      .next (s1.drainLane src lane ((s1.dev.rxLane src lane).buffer.length + 1))

/-- HELD_SEND (14 R457). -/
def execHeldSend (src lane : Nat) (s : State) : Outcome :=
  match (s.dev.rxLane src lane).retrying with
  | none => .next s
  | some p => .next (s.onDev fun d => d.sendResult p 5 [])

/-- APPLY_REFUSE (14 R457): refused NOT_APPLIED, and E passes it. -/
def execApplyRefuse (src lane : Nat) (s : State) : Outcome :=
  match (s.dev.rxLane src lane).retrying with
  | none => .next s
  | some p =>
    let s1 := (s.refuse p 1).onDev fun d => d.passed src lane
    .next (s1.drainLane src lane ((s1.dev.rxLane src lane).buffer.length + 1))

/-! ## Planes -/

/-- PLANE_FAIL_TIMEOUT (14 R455). -/
def execPlaneFailTimeout (dst : Nat) (plane : Bool) (s : State) : Outcome :=
  if ((s.dev.peer dst).tx.toList.flatMap (·.sent)).any fun g => g.planeB == plane then
    .next (s.onDev fun d => d.failPlane dst plane)
  else .next s

/-- PLANE_LINK_DOWN (14 R455): both ports of the plane report down. -/
def execPlaneLinkDown (plane : Bool) (s : State) : Outcome :=
  .next (s.onDev fun d =>
    let d1 := (planePorts plane).foldl
      (fun x p => if (x.port p).up then (x.portDown p true).event 4 p 0 else x) d
    d1.planeDown plane)

/-- PLANE_RESTORE (14 R455): a plane returns only with both its ports up. When both had failed, what is unresolved
goes on the plane that returns. -/
def execPlaneRestore (dst : Nat) (plane : Bool) (s : State) : Outcome :=
  if !(s.dev.peer dst).failed plane || !((planePorts plane).all fun p => (s.dev.port p).up) then .next s
  else
    .next (s.onDev fun d =>
      let d1 := d.updPeer dst fun p => p.setFailed plane false
      if (d.peer dst).failed (!plane) then d1.replay dst plane fun _ => true else d1)

/-- PLANE_RETRY (14 R456): with both planes failed, both are tried again. -/
def execPlaneRetry (dst : Nat) (s : State) : Outcome :=
  let p := s.dev.peer dst
  if p.failA && p.failB && !p.unreachable then
    .next (s.onDev fun d => (d.replay dst false fun _ => true).replay dst true fun _ => true)
  else .next s

/-- Every access to a destination that has not performed completes as one to an unreachable device (14 R456). -/
def State.completeLost (s : State) (dst : Nat) : State :=
  let gs := (s.dev.peer dst).tx.toList.flatMap fun t => t.sent ++ t.wait
  let s1 := s.onDev fun d => d.updPeer dst fun p => { p with tx := p.tx.map fun t => { t with sent := [], wait := [] } }
  gs.foldl
    (fun x g =>
      if g.type = gAreq then
        match x.waiter dst g.tag with
        | some p => x.queue (.own p .attnrTimeout)
        | none => x
      else if g.type = gData ∨ g.type = gArep then x
      else x.answer dst g.tag [] 2 (if g.type = gRed then 1 else 3)) s1

/-- PEER_UNREACHABLE (14 R456). -/
def execPeerUnreachable (dst : Nat) (s : State) : Outcome :=
  let p := s.dev.peer dst
  if p.failA && p.failB && !p.unreachable then
    .next ((s.onDev fun d => (d.updPeer dst fun q => { q with unreachable := true }).event 5 dst 0).completeLost dst)
  else .next s

/-- The Garetor state towards a device reset (14 R456): lanes from 0 again, nothing kept; the planes stay as they are. -/
def State.resetPair (s : State) (n : Nat) : State :=
  (s.completeLost n).onDev fun d => d.updPeer n fun p => { Peer.fresh with failA := p.failA, failB := p.failB }

/-- GARETOR_RESET (14 R456; 15 R461, R465): the write of GRST is discarded unless the device is READY. -/
def execGaretorReset (n : Nat) (s : State) : Outcome :=
  .next (if s.dev.state = .ready then s.resetPair n else s.onDev fun d => { d with cfgerr := true })

/-! ## Device time -/

/-- A TIME packet towards a device (14 R459; log entry 65). -/
def Device.timePacket (d : Device) (dst : Nat) (planeB : Bool) (payload : List Byte) : GPacket :=
  { gBlank with type := gTime, dst := BitVec.ofNat 4 dst, src := d.num, len := BitVec.ofNat 9 payload.length, payload := payload,
                planeB := planeB }

/-- The estimate that an exchange gives (14 R459; log entry 65): the single step while it is still to be made and while the
rule allows it; after it TIME is steered towards the estimate. -/
def Device.timeEstimate (d : Device) (t : BitVec 64) : Device :=
  if !d.timeSet && (d.state == .boot || (d.state == .ready && !d.formed)) then { d with time := t, timeSet := true, steer := 0 }
  else { d with steer := (t.toNat : Int) - d.time.toNat }

/-- TIME (14 R459; log entry 65): the exchange of the reference, which brings its TIME, gives the estimate and is answered; an
answer, which brings that TIME back with the sender's own behind it, changes nothing. -/
def execTime (p : GPacket) (s : State) : Outcome :=
  .next (s.arriveLoose gTime p fun s1 => s1.onDev fun d =>
    if p.len ≠ 8 then d
    else
      let answer := d.timePacket p.src.toNat p.planeB (p.payload.take 8 ++ leBytes 8 d.time.toNat)
      { d with syncloss := false, follows := d.follows || decide (p.src < d.num), outbox := d.outbox ++ [answer] }.timeEstimate
        (BitVec.ofNat 64 (leNat (p.payload.take 8))))

/-- TIME_EXCHANGE (14 R459): by the lowest-numbered device in service, with every other on both planes. A device knows that it
is not the lowest once it has taken an exchange of a lower one. -/
def execTimeExchange (s : State) : Outcome :=
  if s.dev.state ≠ .ready || s.dev.follows then .next s
  else
    .next (s.onDev fun d =>
      let now := leBytes 8 d.time.toNat
      { d with outbox := d.outbox ++ ((List.range 16).filter fun n => n != d.num.toNat).flatMap fun n =>
          [d.timePacket n false now, d.timePacket n true now] })

/-- SYNC_LOSS (14 R459): no exchange has come for 1 ms. -/
def execSyncLoss (s : State) : Outcome :=
  .next (s.onDev fun d => { d with syncloss := true, follows := false }.event 6 d.num.toNat 0)

end Sys2Proof.Machine
end

