-- ==== Sys2Proof/Machine/Boot.lean ====
section
/-!
DEFINITION. Resets and their phases (15 R463, R464), boot and the checks of its images (15 R466), life-cycle changes
(15 R468), repair at boot (15 R469), and power (15 R470).
-/
namespace Sys2Proof.Machine

/-! ## Reset -/

/-- The bittern record that Bizil keeps of an array (13 R423). -/
def Bizil.record (b : Bizil) (core : Nat) (value : Bool) : Bittern :=
  match b.records.find? fun r => r.1 == core && r.2.1 == value with
  | some r => r.2.2
  | none => Bittern.fresh

/-- A core after a reset: the records of its arrays, `k` being the core as built, come from Bizil; which of its rows are worn stays
known unless power went. -/
def CoreSt.afterReset (old : CoreSt) (b : Bizil) (k : Nat) (cold : Bool) : CoreSt :=
  { CoreSt.blank with
    score := { passes := 0, bittern := b.record k false }, value := { passes := 0, bittern := b.record k true },
    sparesUsed := if cold then [] else old.sparesUsed, corrected := if cold then [] else old.corrected, retire := !cold && old.retire }

/-- A cluster after a reset. -/
def ClusterSt.afterReset (old : ClusterSt) (cold : Bool) : ClusterSt :=
  if cold then ClusterSt.blank
  else { ClusterSt.blank with retired := old.retired, lost := old.lost, spared := old.spared, vaultSpares := old.vaultSpares,
                                   vaultCorrected := old.vaultCorrected }

/-- Turns that come from outside. -/
def Turn.isInput : Turn → Bool
  | .input _ _ => true
  | _ => false

/-- A reset begins (15 R463): every task, queue, packet and launch is gone, without a record. What lies outside the
device, and what Bizil keeps, stays; memory is zeroed by the wipe. -/
def State.startReset (s : State) (kind : ResetKind) : State :=
  let cold := kind == .cold
  let d : Device := { Device.reset with
    num := s.dev.num, mem := s.dev.mem, poison := s.dev.poison, accessMap := s.dev.accessMap, resetKind := kind,
    celsius := s.dev.celsius,
    bizil := { s.dev.bizil with report := none, loaded := [], hostImage := none }, tagNext := s.dev.tagNext }
  let clus := s.allClus.map fun c => c.afterReset cold
  let cores := s.allCores.zipIdx.map fun x =>
    x.1.afterReset d.bizil ((clus.getD (x.2 / 16) ClusterSt.blank).hwCore x.2) cold
  { s with here := 0, ctx := Ctx.vacant, core := cores.getD 0 CoreSt.blank, clu := clus.getD 0 ClusterSt.blank,
           ctxs := s.allCtxs.map fun _ => Ctx.vacant, cores := cores, clus := clus,
           dev := d, turns := s.turns.filter Turn.isInput, ir := 0 }

/-- COLD_RESET (15 R463): power-up, or PCIe fundamental reset. -/
def execColdReset (s : State) : Outcome := .next (s.startReset .cold)

/-- WARM_RESET_REQUEST (15 R463). -/
def execWarmResetRequest (s : State) : Outcome := .next (s.startReset .warm)

/-- MAINT_RESET_REQUEST (15 R463). -/
def execMaintResetRequest (s : State) : Outcome := .next (s.startReset .maint)

/-- RESET_PHASE_END (15 R463, R468; 14 R459): BOOT begins, TIME counts from 0, and a life-cycle change takes effect. -/
def execResetPhaseEnd (s : State) : Outcome :=
  if s.dev.state ≠ .reset then .next s
  else
    .next (s.onDev fun d =>
      { d with state := .boot, time := 0,
               bizil := { d.bizil with life := d.bizil.pendingLife.getD d.bizil.life, pendingLife := none } })

/-! ## Boot -/

/-- A signature of a message verifies under its key (15 R466): ECDSA over the SHA-384 of the message. -/
def signedOk (x : Signed) (message : List Byte) : Bool := Config.ecdsaVerify x.key (Config.sha384 message) x.sig

/-- Mofort's key, whose digest was fused at manufacture, and in state OWNED the owner's, whose digest the owner has fused. -/
def Bizil.mofortKey (b : Bizil) (x : Signed) : Bool := Config.sha384 x.key == b.mofortDigest
def Bizil.ownerKey (b : Bizil) (x : Signed) : Bool := b.life == .owned && b.ownerDigest == some (Config.sha384 x.key)

/-- A signature of a message by Mofort, by the owner, or by a verifying key (15 R466, R468). -/
def Bizil.byMofort (b : Bizil) (x : Signed) (message : List Byte) : Bool := b.mofortKey x && signedOk x message
def Bizil.byOwner (b : Bizil) (x : Signed) (message : List Byte) : Bool := b.ownerKey x && signedOk x message
def Bizil.verifies (b : Bizil) (x : Signed) (message : List Byte) : Bool := (b.mofortKey x || b.ownerKey x) && signedOk x message

/-- What the signature of a stage covers of its header (log entry 71): the digest and the security version. -/
def stageHeader (x : StageImage) : List Byte := x.digest ++ leBytes 2 x.version.toNat

/-- Why a stage is rejected: table *Boot errors*; 0 when it is not. -/
def Bizil.stageError (b : Bizil) (x : StageImage) (minimum : BitVec 16) : BitVec 8 :=
  if Config.sha384 x.image ≠ x.digest then 1 else if !b.verifies x.signed (stageHeader x) then 2 else if x.version < minimum then 3 else 0

/-- The errors of the stages that an image has, in the order they load. -/
def Bizil.stageErrors (b : Bizil) (img : List StageImage) : List (BitVec 8) := List.zipWith b.stageError img b.minimum.toList

/-- The first error of the four stages; a stage that is not there fails its digest. -/
def Bizil.stagesError (b : Bizil) (img : List StageImage) : BitVec 8 :=
  if img.length < 4 then 1 else ((b.stageErrors img).find? (· != 0)).getD 0

/-- The stages that Bizil has loaded when it stops: those before the first that is rejected. -/
def Bizil.loads (b : Bizil) (img : List StageImage) : List StageImage := img.take ((b.stageErrors img).takeWhile (· == 0)).length

/-- The image that a boot loads: the host's, if it has supplied one, else the flash's; none from a flash that does not read. -/
def Device.bootImage (d : Device) (rep : BootReport) : Option (List StageImage) :=
  if d.bizil.hostImage.isSome then d.bizil.hostImage else if rep.flashOk then some rep.stages else none

/-- The boot error of a report: flash, the stages, then HBM training. -/
def Device.bootError (d : Device) (rep : BootReport) : BitVec 8 :=
  match d.bootImage rep with
  | none => 5
  | some img =>
    let e := d.bizil.stagesError img
    if e ≠ 0 then e else if !rep.hbmOk then 4 else 0

/-- Something that a boot has to report (log entry 71): the reset has blanked EVQ, so it is kept until the host has given an event
queue. -/
def Device.bootEvent (d : Device) (kind num addr : Nat) : Device := { d with bootEvents := d.bootEvents ++ [(kind, num, addr)] }

/-- Ports as they trained (14 R432, R434): what their lanes have lost counts from here, a spare in use as one failure and four
lanes as two; one that did not train, or trained at four lanes, is reported, and a switch plane with no port up has failed (14
R455; 15 R471). -/
def Device.trainPorts (d : Device) (rep : BootReport) : Device :=
  let d1 := (List.range 12).foldl
    (fun x p =>
      if !rep.portsUp.contains p then x.bootEvent 4 p 0
      else if rep.portsX4.contains p then (x.portUp p).bootEvent 4 p 2
      else x.portUp p)
    { d with ports := Vector.ofFn fun (i : Fin 12) =>
        let x4 := rep.portsX4.contains i.val
        { up := false, retraining := false, spares := if x4 then 2 else if rep.portsSpare.contains i.val then 1 else 0, x4 := x4 } }
  (d1.planeDown false).planeDown true

/-- One logged row of HBM at a maintenance reset: repaired where it can be, at most four rows of a bank, and then its entries
leave the log (15 R469); else it stays and is reported. `before` is how many rows had been burned before this reset. -/
def Device.repairRow (rep : BootReport) (before : Nat) (d : Device) (row : Nat) : Device :=
  let b := d.bizil
  let burned := (b.burned.take (b.burned.length - before)).filter fun r => Config.hbmBank r == Config.hbmBank row
  if rep.repaired.contains row && decide (burned.length < 4) then
    { d with bizil := { b with burned := row :: b.burned, repairLog := b.repairLog.filter fun la => Config.hbmRow la != row } }
  else d.bootEvent 8 d.num.toNat ((b.repairLog.find? fun la => Config.hbmRow la == row).getD 0)

/-- Repairs of a maintenance reset (13 R428, 15 R469). -/
def Device.repair (d : Device) (rep : BootReport) : Device :=
  if d.resetKind ≠ .maint then d
  else ((d.bizil.repairLog.map Config.hbmRow).eraseDups).foldl (Device.repairRow rep d.bizil.burned.length) d

/-- Memory that the wipe zeroes: local HBM and the vaults (15 R464). -/
def wiped (pa : Nat) : Bool := decide (residency pa ≤ 1)

/-- The wipe of R464: local HBM and the vaults are zero, and no lagoon frame is valid. -/
def Device.wipe (d : Device) : Device :=
  { d with mem := d.mem.filter (fun c => !wiped c.1), poison := d.poison.filter (fun la => !wiped la), lagoon := [] }

/-- BOOT_COMPLETE (15 R463, R466, R468): a rejection leaves the device in RECOVERY; a retired device stays there for good, wiped. -/
def execBootComplete (rep : BootReport) (s : State) : Outcome :=
  if s.dev.state ≠ .boot then .next s
  else if s.dev.bizil.life = .retired then .next (s.onDev fun d => { d.wipe with state := .recovery })
  else
    let e := s.dev.bootError rep
    let img := (s.dev.bootImage rep).getD []
    let b := { s.dev.bizil with loaded := s.dev.bizil.loads (img.take 4), hostImage := none }
    if e ≠ 0 then .next (s.onDev fun d => { d with state := .recovery, booterr := e, bizil := b })
    else
      .next (s.onDev fun d =>
        let map : Vector (BitVec 32) 16 := Vector.ofFn fun i => rep.accessMap.getD i.val 0
        let d1 := ({ d with bizil := b, num := rep.num, accessMap := map }.trainPorts rep).repair rep
        match (if d1.timeSet then none else rep.timeEstimate) with
        | some t => { d1 with state := .wipe, booterr := 0, time := t, timeSet := true }
        | none => { d1 with state := .wipe, booterr := 0 })

/-- RECOVERY_IMAGE (15 R466): the host's image is loaded in place of the flash's. -/
def execRecoveryImage (img : List StageImage) (s : State) : Outcome :=
  if s.dev.state ≠ .recovery ∨ s.dev.bizil.life = .retired then .next s
  else .next (s.onDev fun d => { d with state := .boot, bizil := { d.bizil with hostImage := some img } })

/-- WIPE_COMPLETE (15 R463, R464; 14 R459): READY, with no partition formed. -/
def execWipeComplete (s : State) : Outcome :=
  if s.dev.state ≠ .wipe then .next s
  else .next (s.onDev fun d => { d.wipe with state := .ready, syncloss := d.syncloss || !d.timeSet })

/-! ## Life-cycle (15 R468) -/

/-- What a signature of a mailbox command covers (log entry 71): the command's number and what it brings. -/
def signedCommand (n : Nat) (bs : List Byte) : List Byte := BitVec.ofNat 8 n :: bs

/-- A change made: it takes effect through a warm reset, and until it has there is no other. The test interfaces are fused off as the
part is deployed, and the device secret is destroyed as it is retired. -/
def State.changeLife (s : State) (l : Life) (owner : Option (List Byte)) : State :=
  if s.dev.bizil.pendingLife.isSome then s else
  (s.onDev fun d =>
    let b := d.bizil
    { d with bizil := { b with pendingLife := some l, ownerDigest := owner, testFused := b.testFused || l == .deployed,
                               secret := b.secret && l != .retired } }).startReset .warm

/-- DEPLOY. -/
def execDeploy (by_ : Signed) (s : State) : Outcome :=
  let b := s.dev.bizil
  .next (if b.life = .manufacture ∧ b.byMofort by_ (signedCommand 1 []) then s.changeLife .deployed none else s)

/-- TAKE_OWNERSHIP. -/
def execTakeOwnership (by_ : Signed) (digest : List Byte) (s : State) : Outcome :=
  let b := s.dev.bizil
  .next (if b.life = .deployed ∧ b.byMofort by_ (signedCommand 2 digest) then s.changeLife .owned (some digest) else s)

/-- RELEASE_OWNERSHIP. -/
def execReleaseOwnership (by_ : Signed) (s : State) : Outcome :=
  let b := s.dev.bizil
  .next (if b.life = .owned ∧ b.byOwner by_ (signedCommand 3 []) then s.changeLife .deployed none else s)

/-- RETIRE. -/
def execRetire (by_ : Signed) (s : State) : Outcome :=
  let b := s.dev.bizil
  .next (if (b.life = .deployed ∨ b.life = .owned) ∧ b.verifies by_ (signedCommand 4 []) then s.changeLife .retired b.ownerDigest
         else s)

/-- RAISE_SECURITY_MINIMUM (15 R466): a minimum is only ever raised. -/
def execRaiseSecurityMinimum (by_ : Signed) (stage : Nat) (v : BitVec 16) (s : State) : Outcome :=
  let b := s.dev.bizil
  .next (if b.life ≠ .retired ∧ b.verifies by_ (signedCommand 5 (leBytes 1 stage ++ leBytes 2 v.toNat)) then
    s.onDev fun d => { d with bizil := { d.bizil with
      minimum := updAt d.bizil.minimum stage fun m => if m < v then v else m } }
  else s)

/-! ## Power (15 R470) -/

/-- Power goes: nothing in the device runs. -/
def State.cutPower (s : State) : State :=
  { s with dev := { s.dev with powered := false }, turns := s.turns.filter Turn.isInput }

/-- POWER_OFF: board power is removed. -/
def execPowerOff (s : State) : Outcome := .next s.cutPower

/-- The temperatures, in °C, at which the device goes out of service and at which the board's controller removes power. -/
def outOfServiceAt : Int := 108
def powerOffAt : Int := 115

/-- OUT_OF_SERVICE_TEMPERATURE: at the hottest sensor's reading of 108 °C Bizil stops dispatch and raises an event; from 115 °C on the board removes power. -/
def execOutOfServiceTemperature (s : State) : Outcome :=
  if s.dev.celsius < outOfServiceAt then .next s
  else
    let s1 := s.sluice fun sl => { sl with outOfService := true }
    let s2 := s1.onDev fun d => { d with state := .outOfService }.event 7 d.num.toNat 0
    .next (if powerOffAt ≤ s.dev.celsius then s2.cutPower else s2)

end Sys2Proof.Machine
end

