-- ==== Sys2Proof/Machine/Host.lean ====
section
/-!
DEFINITION. The host's windows: the configuration window (15 R461, R462, R465), partitions as they form and dissolve
(10 R326, 12 R391, 13 R426, R427), local HBM (15 R460), the attestation report (15 R467) and telemetry (15 R472).
-/
namespace Sys2Proof.Machine

/-! ## Partitions -/

/-- A scratchpad bank has no spare row left (13 R426). -/
def CoreSt.bankWorn (c : CoreSt) : Bool := c.sparesUsed.any fun x => decide (4 ≤ spareCount c.sparesUsed x.1)

/-- A row reached the threshold after the spare row was used (13 R424). -/
def Bittern.worn (b : Bittern) : Bool :=
  b.spare != 0xFF && b.rowCnt.zipIdx.any fun x => decide (b.thr.toNat ≤ x.1.toNat) && x.2 != b.spare.toNat

/-- A core that the next formation retires (13 R408, R424, R426). -/
def CoreSt.toRetire (c : CoreSt) : Bool := c.retire || c.bankWorn || c.score.bittern.worn || c.value.bittern.worn

/-- Vault banks of a cluster with no spare row left. -/
def ClusterSt.wornBanks (c : ClusterSt) : Nat :=
  ((c.vaultSpares.map (·.1)).eraseDups.filter fun b => decide (8 ≤ spareCount c.vaultSpares b)).length

/-- Core `k` of cluster `u` retired: the cluster's spare core takes its place and number, with the records of its own arrays, and
after that the number stays unused (13 R423, R427). -/
def State.retireCore (s : State) (u k : Nat) : State :=
  s.atPlace (64 * u + 4 * k) fun x =>
    if x.clu.lost.contains k then x
    else if x.clu.retired = 0 then
      { x with core := CoreSt.blank.afterReset x.dev.bizil (168 + u) true, clu := { x.clu with retired := 1, spared := some k } }
    else { x with clu := { x.clu with retired := x.clu.retired + 1, lost := k :: x.clu.lost } }

/-- Retirements of a cluster at a formation. -/
def State.retireCores (s : State) (u : Nat) : State :=
  ((List.range 16).filter fun k => (s.allCores.getD (16 * u + k) CoreSt.blank).toRetire).foldl
    (fun x k => x.retireCore u k) s

/-- The reset value of PSCHED for a number of active cores (12 R391). -/
def pschedReset (cores : Nat) : BitVec 64 := BitVec.ofNat 64 (40000 * 2 ^ 32 + 16 * cores * 2 ^ 20 + 15 * 2 ^ 14)

/-- Active cores of a partition. -/
def State.partCores (s : State) (p : Nat) : Nat := ((s.allClus.filter fun c => c.part == some p).map fun c => c.cores.length).sum

/-- A cluster put into the partition that CLUCFG names, with its split (10 R326, 13 R426). -/
def State.formCluster (s : State) (u : Nat) : State :=
  let v := s.dev.cfg.clucfg.toList.getD u 0
  let p := (v.extractLsb' 8 4).toNat
  if 9 < p then s
  else
    (s.retireCores u).atPlace (64 * u) fun x =>
      { x with clu := { x.clu with part := some p, vdsize := min 12 (v.extractLsb' 0 8).toNat,
                                   sliceLoss := x.clu.wornBanks * Config.vaultBankBytes } }

/-- PFORM bit 0 (15 R461): every partition that CLUCFG names, with PSCHED at its reset value. -/
def State.form (s : State) : State :=
  if s.dev.formed then s
  else
    let s1 := (List.range 10).foldl State.formCluster s
    let ps := ((s1.allClus.map (·.part)).filterMap id).eraseDups
    s1.onDev fun d =>
      { d with formed := !ps.isEmpty, cfg := { d.cfg with
          psched := ps.foldl (fun v p => updAt v p fun _ => pschedReset (s1.partCores p)) d.cfg.psched } }

/-- Every line and frame written back and dropped: no cache outlives the partitions whose vaults and lagoon hold it. -/
def Device.emptyCaches (d : Device) : Device :=
  let d1 := (d.lines.map (·.pa)).foldl (fun x la => x.flushLine la) d
  { (d1.lagoon.map (·.idx)).foldl (fun x i => x.cleanFrame i) d1 with lagoon := [] }

/-- PFORM bit 1 (15 R461): refused while a queue of a formed partition is not DISABLED. -/
def State.dissolve (s : State) : State :=
  if s.dev.sluice.queues.any fun x => x.state != .disabled && s.partFormed (s.queueDesc x.q).part then
    s.onDev fun d => { d with cfgerr := true }
  else
    let out (c : ClusterSt) : ClusterSt := { c with part := none, vdsize := 0, sliceLoss := 0 }
    let s1 := s.onDev fun d => { d.emptyCaches with formed := false }
    { s1 with clu := out s1.clu, clus := s1.clus.map out }

/-- PARTITION_FORM (15 R461, R465). -/
def execPartitionForm (s : State) : Outcome :=
  .next (if s.dev.state = .ready then s.form else s.onDev fun d => { d with cfgerr := true })

/-- PARTITION_DISSOLVE (15 R461, R465). -/
def execPartitionDissolve (s : State) : Outcome :=
  .next (if s.dev.state = .ready then s.dissolve else s.onDev fun d => { d with cfgerr := true })

/-! ## The configuration window -/

/-- DEVSTAT.STATE (15 R462). -/
def DevState.code : DevState → Nat
  | .reset => 0
  | .boot => 1
  | .wipe => 2
  | .ready => 3
  | .recovery => 4
  | .outOfService => 5

/-- Life-cycle codes (15 R468). -/
def Life.code : Life → Nat
  | .manufacture => 0
  | .deployed => 1
  | .owned => 2
  | .retired => 3

/-- DEVSTAT (15 R462). -/
def Device.devstat (d : Device) : BitVec 64 :=
  BitVec.ofNat 64 (d.booterr.toNat * 2 ^ 24 + d.bizil.life.code * 2 ^ 20 + d.therm.toNat * 2 ^ 18 + bit d.syncloss * 2 ^ 17
    + bit d.cfgerr * 2 ^ 16 + d.state.code)

/-- A doubleword of a region entry. -/
def Region.dw (r : Region) (k : Nat) : BitVec 64 :=
  match k with
  | 0 => r.dw0
  | 1 => r.dw1
  | 2 => r.dw2
  | _ => r.dw3

/-- A doubleword written: its RW fields (14 R437); RSV bits keep their zero. -/
def Region.setDw (r : Region) (k : Nat) (v : BitVec 64) : Region :=
  match k with
  | 0 => { r with dw0 := v &&& 0x000FFFFFFE000007#64 }
  | 1 => { r with dw1 := v &&& 0xFFFFFFFF#64 }
  | 2 => { r with dw2 := v &&& 0x000FFFFFFFFFFFF8#64 }
  | _ => r

/-- Registers that are written only while no partition is formed (15 R461), with what a write leaves in them: bits that the map
gives no field are kept as written (log entry 64). -/
def Cfg.idleOnly (c : Cfg) (off : Nat) (v : BitVec 64) : Option Cfg :=
  if off = 0x10 then some { c with qtbase := v }
  else if off = 0x18 then some { c with bhbase := v }
  else if off = 0x20 then some { c with savebase := v }
  else if off = 0x28 then some { c with savesize := v }
  else if off = 0x30 then some { c with evq := v }
  else if off = 0x40 then some { c with telbase := v }
  else if off = 0x48 then some { c with lgsizeSweep := v }
  else if 0x200 ≤ off ∧ off < 0x250 then some { c with clucfg := updAt c.clucfg ((off - 0x200) / 8) fun _ => v }
  else none

/-- Registers that are written at any time and have no other effect. -/
def Cfg.anyTime (c : Cfg) (off : Nat) (v : BitVec 64) : Option Cfg :=
  if off = 0x38 then some { c with evqridx := v }
  else if 0x100 ≤ off ∧ off < 0x150 then some { c with psched := updAt c.psched ((off - 0x100) / 8) fun _ => v &&& 0xFFFFFFFFFFFFC000#64 }
  else if 0x1000 ≤ off ∧ off < 0x1800 then
    some { c with regions := updAt c.regions ((off - 0x1000) / 32) fun r => r.setDw ((off - 0x1000) / 8 % 4) v }
  else if 0x3000 ≤ off ∧ off < 0x4000 then some { c with mailbox := c.mailbox.writeLE off 8 v.toNat }
  else none

/-- What a read of the configuration window returns (15 R461, R462): a register that is only written, and an offset that
holds none, read zero. -/
def Device.configRead (d : Device) (off : Nat) : BitVec 64 :=
  if off % 8 ≠ 0 then 0
  else if off = 0 then d.devstat
  else if off = 0x10 then d.cfg.qtbase
  else if off = 0x18 then d.cfg.bhbase
  else if off = 0x20 then d.cfg.savebase
  else if off = 0x28 then d.cfg.savesize
  else if off = 0x30 then d.cfg.evq
  else if off = 0x38 then d.cfg.evqridx
  else if off = 0x40 then d.cfg.telbase
  else if off = 0x48 then d.cfg.lgsizeSweep
  else if 0x100 ≤ off ∧ off < 0x150 then d.cfg.psched.toList.getD ((off - 0x100) / 8) 0
  else if 0x200 ≤ off ∧ off < 0x250 then d.cfg.clucfg.toList.getD ((off - 0x200) / 8) 0
  else if 0x1000 ≤ off ∧ off < 0x1800 then
    ((d.cfg.regions.toList.getD ((off - 0x1000) / 32) ⟨0, 0, 0, 0⟩).dw ((off - 0x1000) / 8 % 4))
  else if 0x3000 ≤ off ∧ off < 0x4000 then BitVec.ofNat 64 (d.cfg.mailbox.readLE off 8)
  else 0

/-- A write that is discarded and reported (15 R461, R465). -/
def State.configRefused (s : State) : State := s.onDev fun d => { d with cfgerr := true }

/-- DEVCTL (15 R461): a maintenance reset does what a warm one does, and repairs. -/
def State.devctl (s : State) (v : BitVec 64) : State :=
  if v.getLsbD 1 then s.startReset .maint else if v.getLsbD 0 then s.startReset .warm else s

/-- PFORM: the bits act in their order. -/
def State.pform (s : State) (v : BitVec 64) : State :=
  let s1 := if v.getLsbD 0 then s.form else s
  if v.getLsbD 1 then s1.dissolve else s1

/-- What the boot has to report goes to the event queue once there is one (log entry 71). -/
def Device.reportBoot (d : Device) : Device :=
  let log := d.cfg.evq.toNat % 16
  if log < 6 ∨ 12 < log then d
  else d.bootEvents.foldl (fun x e => x.event e.1 e.2.1 e.2.2) { d with bootEvents := [] }

/-- CONFIG_WRITE (15 R461, R465). -/
def execConfigWrite (off : Nat) (v : BitVec 64) (s : State) : Outcome :=
  let mail := decide (0x3000 ≤ off) && decide (off < 0x4000)
  if s.dev.state ≠ .ready ∧ off ≠ 8 ∧ !mail then .next s.configRefused
  else if off % 8 ≠ 0 then .next s
  else if off = 0 then .next (s.onDev fun d => { d with cfgerr := d.cfgerr && !v.getLsbD 16 })
  else if off = 8 then .next (s.devctl v)
  else if off = 0x280 then .next (s.pform v)
  else if 0x2000 ≤ off ∧ off < 0x2080 then .next (if v.getLsbD 0 then s.resetPair ((off - 0x2000) / 8) else s)
  else
    match s.dev.cfg.idleOnly off v with
    | some c => .next (if s.dev.formed then s.configRefused else s.onDev fun d => { d with cfg := c }.reportBoot)
    | none =>
      match s.dev.cfg.anyTime off v with
      | some c => .next (s.onDev fun d => { d with cfg := c })
      | none => .next s

/-! ## Local HBM (15 R460) -/

/-- What the host reads through BAR 4: zero in the lagoon, and while the device is not READY. -/
def Device.barRead (d : Device) (addr n : Nat) : List Byte :=
  (List.range n).map fun i =>
    if d.state ≠ .ready ∨ 2 ^ 39 ≤ addr + i ∨ d.lagoonBase ≤ addr + i then 0 else d.mem.read (addr + i)

/-- What the host reads through a window (table *Host windows*): a register or its bytes, zero at any other offset (15 R461) and from the doorbells, local HBM. -/
def Device.hostRead (d : Device) (bar addr n : Nat) : List Byte :=
  match bar with
  | 0 => (leBytes 8 (d.configRead addr).toNat).take n
  | 2 => List.replicate n 0
  | _ => d.barRead addr n

/-- Bytes written to memory past the device's caches, line by line; a line of which every byte is written is poisoned no more
(04 R138). -/
def Device.hostWrite (d : Device) : Nat → Nat → List Byte → Device
  | 0, _, _ => d
  | fuel + 1, pa, bs =>
    if bs.isEmpty then d
    else
      let part := bs.take (128 - pa % 128)
      let p := poisonAfter (d.poison.contains (lineOf pa)) part.length false
      ({ d with mem := d.mem.writeBytes pa part }.setPoison (lineOf pa) p).hostWrite fuel (pa + part.length) (bs.drop part.length)

/-- HOST_BAR_ACCESS (15 R460, R465; 09 R313), through BAR 4: a write goes to memory, past the device's caches, but for its bytes in
the lagoon; a read changes nothing. -/
def execHostBarAccess (wr : Bool) (addr : Nat) (bs : List Byte) (s : State) : Outcome :=
  let kept := bs.take (s.dev.lagoonBase - addr)
  if !wr || s.dev.state ≠ .ready || kept.isEmpty then .next s
  else .next ((s.onDev fun d => d.hostWrite (kept.length / 128 + 2) addr kept).reportKick addr)

/-! ## Attestation (15 R467) -/

/-- Exactly `n` bytes: a list cut, or filled up with zeros. -/
def exactly (n : Nat) (bs : List Byte) : List Byte := (bs ++ List.replicate n 0).take n

/-- The registers that a report's digest covers, in the order of their offsets. -/
def Device.configImage (d : Device) : List Byte :=
  let offs := [0x10, 0x18, 0x20, 0x28, 0x30, 0x40, 0x48] ++ (List.range 10).map (fun c => 0x200 + 8 * c)
    ++ (List.range 256).map fun k => 0x1000 + 8 * k
  offs.flatMap fun o => leBytes 8 (d.configRead o).toNat

/-- Bytes 0 to 303 of the report. -/
def Device.reportBody (d : Device) (nonce : List Byte) : List Byte :=
  exactly 48 nonce ++ exactly 192 (d.bizil.loaded.flatMap fun x => exactly 48 (Config.sha384 x.image))
    ++ exactly 8 (d.bizil.loaded.flatMap fun x => leBytes 2 x.version.toNat) ++ [BitVec.ofNat 8 d.bizil.life.code]
    ++ List.replicate 7 0 ++ exactly 48 (Config.sha384 d.configImage)

/-- ATTEST (15 R467, R468): refused by a retired device, whose secret is gone. -/
def execAttest (nonce : List Byte) (s : State) : Outcome :=
  if s.dev.bizil.life = .retired || !s.dev.bizil.secret then .next s
  else
    let body := s.dev.reportBody nonce
    let sign := exactly 96 (Config.attestSign s.dev.bizil.life.code (Config.sha384 body))
    .next (s.onDev fun d => { d with bizil := { d.bizil with report := some (body ++ sign) } })

/-! ## Telemetry (15 R472) -/

/-- A bittern record as it is laid out (13 R423): 296 bytes. -/
def Bittern.image (b : Bittern) : List Byte :=
  let counts (l : List (BitVec 16)) := l.flatMap fun x => leBytes 2 x.toNat
  exactly 130 (counts b.rowCnt) ++ exactly 128 (counts b.laneCnt) ++ exactly 32 (counts b.subCnt) ++ [b.spare, b.thr]
    ++ List.replicate 4 0

/-- The counters, in the order the rule gives them. -/
def Telemetry.image (t : Telemetry) : List Byte :=
  ([t.migDropped, t.migAbandoned, t.discardA, t.discardB, t.replayA, t.replayB, t.lostEvents] ++ t.ideRetries.toList).flatMap
    fun c => leBytes 8 c.toNat

/-- TELEMETRY_WRITE (15 R472): the counters, then each array's record, core by core by number. Before READY no TELBASE has been
given. -/
def execTelemetryWrite (s : State) : Outcome :=
  if s.dev.state ≠ .ready ∧ s.dev.state ≠ .outOfService then .next s
  else
    let recs := (List.range 160).flatMap fun k =>
      let h := (s.allClus.getD (k / 16) ClusterSt.blank).hwCore k
      (s.dev.bizil.record h false).image ++ (s.dev.bizil.record h true).image
    .next (s.onDev fun d =>
      { d with mem := d.mem.writeBytes (hostPa d.cfg.telbase.toNat) (d.tel.image ++ recs) })

end Sys2Proof.Machine
end

