-- ==== Sys2Proof/Machine/Scalar.lean ====
section
/-!
DEFINITION. Integer instructions of the scalar pipe (04 R108 to R117).
-/
namespace Sys2Proof.Machine

/-- The amount of a shift (04 R114). -/
def shiftAmount (n : Nat) (v : Word) : Nat := v.toNat % 64 % n

/-- Leading zeros of an `n`-bit pattern; `n` for zero (04 R112). -/
def leadingZeros (n x : Nat) : Nat := if x = 0 then n else n - (x.log2 + 1)

/-- Ones of the `n` low bits (04 R112). -/
def onesOf : Nat → Nat → Nat
  | 0, _ => 0
  | n + 1, x => x % 2 + onesOf n (x / 2)

/-- An `n`-bit pattern rotated right by `k < n`. -/
def rotateRight (n x k : Nat) : Nat := x / 2 ^ k + x % 2 ^ k * 2 ^ (n - k)

/-- The quotient of R113: toward zero; all ones for a zero divisor. -/
def quotient (n : Nat) (u : BitVec 1) (x y : Int) : Int :=
  if y = 0 then (if u = 0 then -1 else 2 ^ n - 1) else x.tdiv y

/-- The remainder of R113: with the sign of `x`; `x` for a zero divisor. -/
def remainder (x y : Int) : Int := if y = 0 then x else x.tmod y

/-- An ALU instruction on the operands of R109: `op` gives the exact result, `t` asks for saturation. -/
def State.alu (s : State) (d a b : BitVec 5) (w : BitVec 2) (u t : BitVec 1) (op : Int → Int → Int) : State :=
  let n := intWidth w
  let x := op (intOperand n u (s.reg a)) (intOperand n u (s.reg b))
  s.setReg d (widen n u (if t = 1 then clampInt n u x else x)) (s.poison2 a b)

/-- An ALU instruction with one source. -/
def State.alu1 (s : State) (d a : BitVec 5) (w : BitVec 2) (u t : BitVec 1) (op : Int → Int) : State :=
  let n := intWidth w
  let x := op (intOperand n u (s.reg a))
  s.setReg d (widen n u (if t = 1 then clampInt n u x else x)) (s.regPoison a)

/-- An ALU instruction on the patterns of the operands. -/
def State.aluBits (s : State) (d a b : BitVec 5) (w : BitVec 2) (u : BitVec 1) (op : Nat → Nat → Nat) : State :=
  let n := intWidth w
  s.setReg d (widen n u (op ((s.reg a).toNat % 2 ^ n) ((s.reg b).toNat % 2 ^ n) : Nat)) (s.poison2 a b)

/-- A comparison (04 R116): 1 or 0. -/
def State.cmp (s : State) (d a b : BitVec 5) (w : BitVec 2) (u : BitVec 1) (c : CmpCond) : State :=
  let n := intWidth w
  s.setReg d (if c.holds (intOperand n u (s.reg a)) (intOperand n u (s.reg b)) then 1 else 0) (s.poison2 a b)

/-- An immediate form (04 R117): a function of s[a], with its poison. -/
def State.immForm (s : State) (d a : BitVec 5) (f : Word → Word) : State := s.setReg d (f (s.reg a)) (s.regPoison a)

/-- ADD (04 R112). -/
def execAdd (d a b : BitVec 5) (w : BitVec 2) (u : BitVec 1) (t : BitVec 1) (s : State) : Outcome :=
  finish (.ok (s.alu d a b w u t fun x y => x + y))

/-- SUB (04 R112). -/
def execSub (d a b : BitVec 5) (w : BitVec 2) (u : BitVec 1) (t : BitVec 1) (s : State) : Outcome :=
  finish (.ok (s.alu d a b w u t fun x y => x - y))

/-- MUL (04 R112). -/
def execMul (d a b : BitVec 5) (w : BitVec 2) (u : BitVec 1) (t : BitVec 1) (s : State) : Outcome :=
  finish (.ok (s.alu d a b w u t fun x y => x * y))

/-- MULH: the high half of the product, rounded down (04 R112). -/
def execMulh (d a b : BitVec 5) (w : BitVec 2) (u : BitVec 1) (s : State) : Outcome :=
  finish (.ok (s.alu d a b w u 0 fun x y => x * y / 2 ^ intWidth w))

/-- DIV (04 R113). -/
def execDiv (d a b : BitVec 5) (w : BitVec 2) (u : BitVec 1) (t : BitVec 1) (s : State) : Outcome :=
  finish (.ok (s.alu d a b w u t (quotient (intWidth w) u)))

/-- REM (04 R113). -/
def execRem (d a b : BitVec 5) (w : BitVec 2) (u : BitVec 1) (s : State) : Outcome :=
  finish (.ok (s.alu d a b w u 0 remainder))

/-- MIN (04 R112). -/
def execMin (d a b : BitVec 5) (w : BitVec 2) (u : BitVec 1) (s : State) : Outcome :=
  finish (.ok (s.alu d a b w u 0 fun x y => if y < x then y else x))

/-- MAX (04 R112). -/
def execMax (d a b : BitVec 5) (w : BitVec 2) (u : BitVec 1) (s : State) : Outcome :=
  finish (.ok (s.alu d a b w u 0 fun x y => if x < y then y else x))

/-- AND (04 R112). -/
def execAnd (d a b : BitVec 5) (w : BitVec 2) (u : BitVec 1) (s : State) : Outcome :=
  finish (.ok (s.aluBits d a b w u fun x y => x &&& y))

/-- OR (04 R112). -/
def execOr (d a b : BitVec 5) (w : BitVec 2) (u : BitVec 1) (s : State) : Outcome :=
  finish (.ok (s.aluBits d a b w u fun x y => x ||| y))

/-- XOR (04 R112). -/
def execXor (d a b : BitVec 5) (w : BitVec 2) (u : BitVec 1) (s : State) : Outcome :=
  finish (.ok (s.aluBits d a b w u fun x y => x ^^^ y))

/-- ANDN: x AND NOT y (04 R112). -/
def execAndn (d a b : BitVec 5) (w : BitVec 2) (u : BitVec 1) (s : State) : Outcome :=
  finish (.ok (s.aluBits d a b w u fun x y => x &&& (2 ^ intWidth w - 1 - y)))

/-- SHL (04 R112, R114). -/
def execShl (d a b : BitVec 5) (w : BitVec 2) (u : BitVec 1) (s : State) : Outcome :=
  finish (.ok (s.alu d a b w u 0 fun x _ => x * 2 ^ shiftAmount (intWidth w) (s.reg b)))

/-- SHR: arithmetic for .i, logical for .n (04 R112, R114). -/
def execShr (d a b : BitVec 5) (w : BitVec 2) (u : BitVec 1) (s : State) : Outcome :=
  finish (.ok (s.alu d a b w u 0 fun x _ => x / 2 ^ shiftAmount (intWidth w) (s.reg b)))

/-- ROR (04 R112, R114). -/
def execRor (d a b : BitVec 5) (w : BitVec 2) (u : BitVec 1) (s : State) : Outcome :=
  finish (.ok (s.aluBits d a b w u fun x _ => rotateRight (intWidth w) x (shiftAmount (intWidth w) (s.reg b))))

/-- CLZ (04 R112). -/
def execClz (d a : BitVec 5) (w : BitVec 2) (u : BitVec 1) (s : State) : Outcome :=
  finish (.ok (s.alu1 d a w u 0 fun x => (leadingZeros (intWidth w) (ofSigned (intWidth w) x) : Nat)))

/-- POPC (04 R112). -/
def execPopc (d a : BitVec 5) (w : BitVec 2) (u : BitVec 1) (s : State) : Outcome :=
  finish (.ok (s.alu1 d a w u 0 fun x => (onesOf (intWidth w) (ofSigned (intWidth w) x) : Nat)))

/-- ABS (04 R112). -/
def execAbs (d a : BitVec 5) (w : BitVec 2) (u : BitVec 1) (t : BitVec 1) (s : State) : Outcome :=
  finish (.ok (s.alu1 d a w u t fun x => (x.natAbs : Int)))

/-- NEG (04 R112). -/
def execNeg (d a : BitVec 5) (w : BitVec 2) (u : BitVec 1) (t : BitVec 1) (s : State) : Outcome :=
  finish (.ok (s.alu1 d a w u t fun x => -x))

/-- EXT (04 R112). -/
def execExt (d a : BitVec 5) (w : BitVec 2) (u : BitVec 1) (s : State) : Outcome :=
  finish (.ok (s.alu1 d a w u 0 fun x => x))

/-- MADD (04 R115). -/
def execMadd (d a b c : BitVec 5) (s : State) : Outcome :=
  finish (.ok (s.setReg d (s.reg a * s.reg b + s.reg c) (s.poison2 a b || s.regPoison c)))

/-- MSUB (04 R115). -/
def execMsub (d a b c : BitVec 5) (s : State) : Outcome :=
  finish (.ok (s.setReg d (s.reg c - s.reg a * s.reg b) (s.poison2 a b || s.regPoison c)))

/-- SEL: the poison of s[a] and of the source it takes (04 R115). -/
def execSel (d a b c : BitVec 5) (s : State) : Outcome :=
  finish (.ok (s.setReg d (if s.reg a = 0 then s.reg c else s.reg b)
    (s.regPoison a || (if s.reg a = 0 then s.regPoison c else s.regPoison b))))

/-- CMP.EQ (04 R116). -/
def execCmpEq (d a b : BitVec 5) (w : BitVec 2) (u : BitVec 1) (s : State) : Outcome :=
  finish (.ok (s.cmp d a b w u .eq))

/-- CMP.NE (04 R116). -/
def execCmpNe (d a b : BitVec 5) (w : BitVec 2) (u : BitVec 1) (s : State) : Outcome :=
  finish (.ok (s.cmp d a b w u .ne))

/-- CMP.LT (04 R116). -/
def execCmpLt (d a b : BitVec 5) (w : BitVec 2) (u : BitVec 1) (s : State) : Outcome :=
  finish (.ok (s.cmp d a b w u .lt))

/-- CMP.LE (04 R116). -/
def execCmpLe (d a b : BitVec 5) (w : BitVec 2) (u : BitVec 1) (s : State) : Outcome :=
  finish (.ok (s.cmp d a b w u .le))

/-- CMP.GT (04 R116). -/
def execCmpGt (d a b : BitVec 5) (w : BitVec 2) (u : BitVec 1) (s : State) : Outcome :=
  finish (.ok (s.cmp d a b w u .gt))

/-- CMP.GE (04 R116). -/
def execCmpGe (d a b : BitVec 5) (w : BitVec 2) (u : BitVec 1) (s : State) : Outcome :=
  finish (.ok (s.cmp d a b w u .ge))

/-- ADDI (04 R117). -/
def execAddi (d a : BitVec 5) (imm : BitVec 16) (s : State) : Outcome :=
  finish (.ok (s.immForm d a fun x => x + signed imm))

/-- ADDIS (04 R117). -/
def execAddis (d a : BitVec 5) (imm : BitVec 16) (s : State) : Outcome :=
  finish (.ok (s.immForm d a fun x => x + (signed imm <<< 16)))

/-- ANDI (04 R117). -/
def execAndi (d a : BitVec 5) (imm : BitVec 16) (s : State) : Outcome :=
  finish (.ok (s.immForm d a fun x => x &&& imm.setWidth 64))

/-- ORI (04 R117). -/
def execOri (d a : BitVec 5) (imm : BitVec 16) (s : State) : Outcome :=
  finish (.ok (s.immForm d a fun x => x ||| imm.setWidth 64))

/-- XORI (04 R117). -/
def execXori (d a : BitVec 5) (imm : BitVec 16) (s : State) : Outcome :=
  finish (.ok (s.immForm d a fun x => x ^^^ imm.setWidth 64))

/-- SHLI (04 R117). -/
def execShli (d a : BitVec 5) (n : BitVec 6) (s : State) : Outcome :=
  finish (.ok (s.immForm d a fun x => x <<< n.toNat))

/-- SHRI (04 R117). -/
def execShri (d a : BitVec 5) (n : BitVec 6) (s : State) : Outcome :=
  finish (.ok (s.immForm d a fun x => x >>> n.toNat))

/-- SRAI (04 R117). -/
def execSrai (d a : BitVec 5) (n : BitVec 6) (s : State) : Outcome :=
  finish (.ok (s.immForm d a fun x => x.sshiftRight n.toNat))

/-- RORI (04 R117). -/
def execRori (d a : BitVec 5) (n : BitVec 6) (s : State) : Outcome :=
  finish (.ok (s.immForm d a fun x => x.rotateRight n.toNat))

/-- SLTI (04 R117). -/
def execSlti (d a : BitVec 5) (imm : BitVec 16) (s : State) : Outcome :=
  finish (.ok (s.immForm d a fun x => if x.slt (signed imm) then 1 else 0))

/-- SLTIN (04 R117). -/
def execSltin (d a : BitVec 5) (imm : BitVec 16) (s : State) : Outcome :=
  finish (.ok (s.immForm d a fun x => if x.ult (signed imm) then 1 else 0))

end Sys2Proof.Machine
end

