-- ==== Sys2Proof/Machine/Vatom.lean ====
section
/-!
DEFINITION. Vector atomics (05 R181 to R186).
-/
namespace Sys2Proof.Machine

def causeVatomIncomplete : BitVec 10 := 0x184

/-- The address of a lane (05 R182). -/
def laneAddr (base : Word) (off : Elem) : Word := base + (off.signExtend 64 <<< 2)

/-- A trap on a lane (05 R186). -/
def laneTrap (s : State) (cause : BitVec 10) (lane : Nat) (info : BitVec 22) (va : Word) : Stop :=
  .trap s cause (laneInfo lane info) va

/-- The stop of a scalar access, made one on a lane: a trap, or a wait at a migrating node that may become one. -/
def Stop.onLane (lane : Nat) : Stop → Stop
  | .trap s c info va => laneTrap s c lane info va
  | .stall s =>
    .stall { s with ctx := { s.ctx with busy := s.ctx.busy.map fun b => if b.ring.isNone then { b with lane := some lane } else b } }

/-- One lane translated and its home checked (05 R182). -/
def State.vatomLane (s : State) (j : Nat) (va : Word) (data : BitVec 32) : Except Stop (State × VatomLane) :=
  if va.toNat % 4 ≠ 0 then .error (laneTrap s causeMisalignedData j 2 va)
  else
    match s.access va .atomic with
    | .error e => .error (e.onLane j)
    | .ok (s1, pa, leaf) =>
      if s1.atomicHome pa leaf then
        .ok (s1, { lane := j, pa := pa, leaf := leaf, va := va, data := data, tag := none })
      else .error (laneTrap s1 causeAtomRegion j (BitVec.ofNat 22 (residency pa)) va)

/-- Lanes translated in lane order: those whose VDONE bit is 1 are skipped. -/
def State.vatomLanes (s : State) (base : Word) (off data : List Elem) : List Nat → Except Stop (State × List VatomLane)
  | [] => .ok (s, [])
  | j :: js =>
    if s.ctx.ctl.vdone.getLsbD j then s.vatomLanes base off data js
    else
      match s.vatomLane j (laneAddr base (off.getD j 0)) (data.getD j 0) with
      | .error e => .error e
      | .ok (s1, l) =>
        match s1.vatomLanes base off data js with
        | .error e => .error e
        | .ok (s2, ls) => .ok (s2, l :: ls)

/-- A lane as a posted access, for the form that returns nothing. -/
def VatomLane.posted (l : VatomLane) (op : AtomOp) (c : BitVec 4) (p : BitVec 3) (poison : Bool) (before seq : Nat) : Posted :=
  { pa := l.pa, leaf := l.leaf, va := l.va, size := 2, op := some op, data := l.data.setWidth 64, poison := poison,
    cls := c, scope := p, vlane := true, rel := false, before := before, seq := seq }

/-- The request for a lane whose old value is to come back (14 R449). -/
def VatomLane.packet (l : VatomLane) (op : AtomOp) (c : BitVec 4) (p : BitVec 3) (poison : Bool) : GPacket :=
  { (l.posted op c p poison 0 0).packet with ret := true }

/-- The peer that holds a lane's word and that can be reached. -/
def State.lanePeer (s : State) (l : VatomLane) : Option Nat :=
  if residency l.pa = 3 && !s.dev.peerGone (peerOf l.pa) then some (peerOf l.pa) else none

/-- Every lane that goes to a peer can be sent now; until then the instruction stalls (14 R451). -/
def State.lanesMaySend (s : State) (op : AtomOp) (c : BitVec 4) (p : BitVec 3) (poison : Bool) (ls : List VatomLane) : Bool :=
  ls.all fun l =>
    match s.lanePeer l with
    | none => true
    | some q =>
      s.dev.maySend q c (l.packet op c p poison)
        && s.dev.mayAll q c ((ls.filter fun x => s.lanePeer x == some q).map fun x => x.packet op c p poison)

/-- A lane sent: one in peer memory becomes a request, unless the peer is out of reach. -/
def State.sendVatomLane (s : State) (op : AtomOp) (c : BitVec 4) (p : BitVec 3) (poison : Bool) (l : VatomLane) :
    State × VatomLane :=
  match s.lanePeer l with
  | none => (s, l)
  | some q =>
    let (s1, tag) := s.request q c 1 (l.packet op c p poison)
    (s1, { l with tag := some tag })

/-- Every lane sent, in lane order. -/
def State.sendVatom (s : State) (op : AtomOp) (c : BitVec 4) (p : BitVec 3) (poison : Bool) :
    List VatomLane → State × List VatomLane
  | [] => (s, [])
  | l :: ls =>
    let (s1, l1) := s.sendVatomLane op c p poison l
    let (s2, ls1) := s1.sendVatom op c p poison ls
    (s2, l1 :: ls1)

/-- The checks, sources and translation of a VATOM (05 R182, R187). -/
def State.vatomSend (s : State) (op : AtomOp) (t : BitVec 4) (d a b : BitVec 5) (c : BitVec 4) (scope : BitVec 3) :
    Except Stop (State × List VatomLane × List Elem × Bool) := do
  s.needRegs [d, a]
  if s.holding then s.trapWord causeLoopAtom 0
  s.needClean b
  if s.vtag a == tagPoison then s.trapWord causePoisonConsumed (32 + a.toNat)
  let (off, _) ← s.vsrc a tagI32
  let (opnd, p) ← s.vsrc d t
  let s1 := s.drain
  let (s2, lanes) ← s1.vatomLanes (s.reg b) off opnd (List.range 64)
  if !s2.quiet (oneClass c) s2.ctx.cmdSeq || lanes.any (fun l =>
      s2.touching s2.ctx.cmdSeq l.va.toNat 4 || s2.ctx.posted.any fun r => r.touches l.pa 4)
      || !s2.lanesMaySend op c scope p lanes then
    .error (.stall s2)
  pure (s2.wake [d, a], lanes, opnd, p)

/-- The end of a returning VATOM (05 R182): VATOM_INCOMPLETE for the lowest lane not applied, else VDONE is cleared. -/
def State.endVatom (s : State) (v : VatomSt) : Course :=
  let s1 := { s with ctx := { s.ctx with vatom := none } }
  match v.refused with
  | some (j, va) => .error (laneTrap s1 causeVatomIncomplete j 0 va)
  | none => .ok (s1.setCtl fun c => { c with vdone := 0 })

/-- The end of a VATOM whose context has been asked to halt meanwhile (13 R417): it retires, or, where a lane was not applied, is the
instruction that issues when the context resumes, for the lanes that VDONE does not record (R183). -/
def State.endHalted (s : State) (v : VatomSt) : State :=
  match s.endVatom v with
  | .ok s1 => s1.retire
  | .error _ => { s with ctx := { s.ctx with vatom := none } }

/-- A returning VATOM: its lanes are sent, and it ends when the last has returned (05 R182). -/
def State.vatom (s : State) (op : AtomOp) (t : BitVec 4) (d a b : BitVec 5) (c : BitVec 4) (p : BitVec 3) : Course := do
  if s.ctx.vatom.isSome then .error (.stall s)
  let (s1, lanes, opnd, poison) ← s.vatomSend op t d a b c p
  let (s2, out) := (s1.vwrite d opnd t poison).sendVatom op c p poison lanes
  let v : VatomSt := { op := op, dst := d, cls := c, scope := p, poisoned := poison, out := out, refused := none }
  if out.isEmpty then s2.endVatom v
  else .error (.stall { s2 with ctx := { s2.ctx with vatom := some v } })

/-- A VATOM that returns nothing retires when its lanes have translated (05 R182). -/
def State.vatomNr (s : State) (op : AtomOp) (t : BitVec 4) (d a b : BitVec 5) (c : BitVec 4) (p : BitVec 3) : Course := do
  let (s1, lanes, _, poison) ← s.vatomSend op t d a b c p
  let s2 := lanes.foldl (fun x l => (x.post (l.posted op c p poison x.ctx.cmdSeq x.ctx.postSeq)).nextPost) s1
  pure ((s2.setCtl fun k => { k with vdone := 0 }).later .redPerform)

/-- A lane comes back: whether it was applied, the old value, and whether that is poisoned (05 R182, 14 R456, R457). -/
def State.laneResult (s : State) (v : VatomSt) (l : VatomLane) (applied : Bool) : State × Bool × Nat × Bool :=
  if residency l.pa = 3 then
    let ans := s.ctx.peer.find? fun w => some w.tag == l.tag
    let s1 := { s with ctx := { s.ctx with peer := s.ctx.peer.filter fun w => some w.tag != l.tag } }
    match ans.bind fun w => w.data.map fun bs => (bs, w.status) with
    | some (bs, st) =>
      if st = 1 then (s1, false, 0, false)
      else if bs.length = 4 then (s1, true, leNat bs, st != 0)
      else (s1.bump, true, (Config.freeWord s1.tick).toNat % 2 ^ 32, true)
    | none => (s1.bump, true, (Config.freeWord s1.tick).toNat % 2 ^ 32, true)
  else if applied then
    let (s1, old, p) := s.atomAt v.op l.pa 2 l.leaf l.data.toNat 0 v.poisoned false l.va
    (s1, true, old, p)
  else (s, false, 0, false)

/-- A lane that may return: its answer is there if a peer has it, its module has a head (14 R447), and no lower lane of the same word
is out (05 R184). -/
def State.laneReady (s : State) (v : VatomSt) (l : VatomLane) : Bool :=
  (match l.tag with
   | none => true
   | some t => (s.dev.peerGone (peerOf l.pa)) || s.ctx.peer.any fun w => w.tag == t && w.data.isSome)
  && !s.dev.headless l.pa && v.out.all fun x => x.pa != l.pa || decide (l.lane ≤ x.lane)

/-- The old value of a lane written to vd, row 0 (05 R182). -/
def State.putLane (s : State) (d : BitVec 5) (j old : Nat) (poison : Bool) : State :=
  let v := s.vreg d
  s.putVreg d (v.data.set j (BitVec.ofNat 32 old)) (if poison then tagPoison else v.tag)

/-- VATOM_LANE_RETURN (05 R182): the lane's old value and VDONE bit, or the lane noted as not applied; the last lane ends
the instruction. Of the form that returns nothing, a lane not applied is an error entry of kind 2 (04 R144). -/
def execVatomLaneReturn (lane : Nat) (applied : Bool) (s : State) : Outcome :=
  match s.ctx.vatom with
  | none =>
    if applied then .next s.drain
    else
      match s.ctx.posted.find? (·.vlane) with
      | none => .next s
      | some r => .next (({ s with ctx := { s.ctx with posted := s.ctx.posted.erase r } }).errorEntry 2 r.va)
  | some v =>
    match v.out.find? fun l => l.lane == lane with
    | none => .next s
    | some l =>
      if !s.laneReady v l then .next s
      else
        let (s1, ok, old, p) := s.laneResult v l applied
        let s2 := if ok then (s1.putLane v.dst lane old p).setCtl fun c => { c with vdone := putBit c.vdone lane true } else s1
        let refused :=
          if ok then v.refused
          else
            match v.refused with
            | some r => if r.1 < lane then some r else some (lane, l.va)
            | none => some (lane, l.va)
        let v1 := { v with out := v.out.filter (fun x => x.lane != lane), refused := refused }
        let s3 := { s2 with ctx := { s2.ctx with vatom := some v1 } }
        if !v1.out.isEmpty then .next s3
        else if s3.ctx.status == .halted then .next (s3.endHalted v1)
        else finish ((s3.setStatus .active).endVatom v1)

/-- VATOM.ADDI32 (05 R181, R182). -/
def execVatomAddI32 (d a b : BitVec 5) (c : BitVec 4) (p : BitVec 3) (s : State) : Outcome :=
  finish (s.vatom .add tagI32 d a b c p)

/-- VATOM.ADDF32 (05 R181, R182). -/
def execVatomAddF32 (d a b : BitVec 5) (c : BitVec 4) (p : BitVec 3) (s : State) : Outcome :=
  finish (s.vatom .fadd tagF32 d a b c p)

/-- VATOM.MINI32 (05 R181, R182). -/
def execVatomMinI32 (d a b : BitVec 5) (c : BitVec 4) (p : BitVec 3) (s : State) : Outcome :=
  finish (s.vatom .min tagI32 d a b c p)

/-- VATOM.MAXI32 (05 R181, R182). -/
def execVatomMaxI32 (d a b : BitVec 5) (c : BitVec 4) (p : BitVec 3) (s : State) : Outcome :=
  finish (s.vatom .max tagI32 d a b c p)

/-- VATOM.AND (05 R181, R182). -/
def execVatomAnd (d a b : BitVec 5) (c : BitVec 4) (p : BitVec 3) (s : State) : Outcome :=
  finish (s.vatom .and tagI32 d a b c p)

/-- VATOM.OR (05 R181, R182). -/
def execVatomOr (d a b : BitVec 5) (c : BitVec 4) (p : BitVec 3) (s : State) : Outcome :=
  finish (s.vatom .or tagI32 d a b c p)

/-- VATOM.XOR (05 R181, R182). -/
def execVatomXor (d a b : BitVec 5) (c : BitVec 4) (p : BitVec 3) (s : State) : Outcome :=
  finish (s.vatom .xor tagI32 d a b c p)

/-- VATOM.SWAP (05 R181, R182). -/
def execVatomSwap (d a b : BitVec 5) (c : BitVec 4) (p : BitVec 3) (s : State) : Outcome :=
  finish (s.vatom .swap tagI32 d a b c p)

/-- VATOM.ADDI32.NR (05 R181, R182). -/
def execVatomAddI32Nr (d a b : BitVec 5) (c : BitVec 4) (p : BitVec 3) (s : State) : Outcome :=
  finish (s.vatomNr .add tagI32 d a b c p)

/-- VATOM.ADDF32.NR (05 R181, R182). -/
def execVatomAddF32Nr (d a b : BitVec 5) (c : BitVec 4) (p : BitVec 3) (s : State) : Outcome :=
  finish (s.vatomNr .fadd tagF32 d a b c p)

/-- VATOM.MINI32.NR (05 R181, R182). -/
def execVatomMinI32Nr (d a b : BitVec 5) (c : BitVec 4) (p : BitVec 3) (s : State) : Outcome :=
  finish (s.vatomNr .min tagI32 d a b c p)

/-- VATOM.MAXI32.NR (05 R181, R182). -/
def execVatomMaxI32Nr (d a b : BitVec 5) (c : BitVec 4) (p : BitVec 3) (s : State) : Outcome :=
  finish (s.vatomNr .max tagI32 d a b c p)

/-- VATOM.AND.NR (05 R181, R182). -/
def execVatomAndNr (d a b : BitVec 5) (c : BitVec 4) (p : BitVec 3) (s : State) : Outcome :=
  finish (s.vatomNr .and tagI32 d a b c p)

/-- VATOM.OR.NR (05 R181, R182). -/
def execVatomOrNr (d a b : BitVec 5) (c : BitVec 4) (p : BitVec 3) (s : State) : Outcome :=
  finish (s.vatomNr .or tagI32 d a b c p)

/-- VATOM.XOR.NR (05 R181, R182). -/
def execVatomXorNr (d a b : BitVec 5) (c : BitVec 4) (p : BitVec 3) (s : State) : Outcome :=
  finish (s.vatomNr .xor tagI32 d a b c p)

end Sys2Proof.Machine
end

