-- ==== Sys2Proof/Machine/Dispatch.lean ====
section
/-!
DEFINITION. The meaning of every step: one arm per constructor of `Instr`.
-/
namespace Sys2Proof.Machine

def exec (i : Instr) (s : State) : Host.Outcome State Fault Refusal :=
  match i with
  | .add d a b w u t => Sys2Proof.Machine.execAdd d a b w u t s
  | .sub d a b w u t => Sys2Proof.Machine.execSub d a b w u t s
  | .mul d a b w u t => Sys2Proof.Machine.execMul d a b w u t s
  | .mulh d a b w u => Sys2Proof.Machine.execMulh d a b w u s
  | .div d a b w u t => Sys2Proof.Machine.execDiv d a b w u t s
  | .rem d a b w u => Sys2Proof.Machine.execRem d a b w u s
  | .min d a b w u => Sys2Proof.Machine.execMin d a b w u s
  | .max d a b w u => Sys2Proof.Machine.execMax d a b w u s
  | .and d a b w u => Sys2Proof.Machine.execAnd d a b w u s
  | .or d a b w u => Sys2Proof.Machine.execOr d a b w u s
  | .xor d a b w u => Sys2Proof.Machine.execXor d a b w u s
  | .andn d a b w u => Sys2Proof.Machine.execAndn d a b w u s
  | .shl d a b w u => Sys2Proof.Machine.execShl d a b w u s
  | .shr d a b w u => Sys2Proof.Machine.execShr d a b w u s
  | .ror d a b w u => Sys2Proof.Machine.execRor d a b w u s
  | .clz d a w u => Sys2Proof.Machine.execClz d a w u s
  | .popc d a w u => Sys2Proof.Machine.execPopc d a w u s
  | .abs d a w u t => Sys2Proof.Machine.execAbs d a w u t s
  | .neg d a w u t => Sys2Proof.Machine.execNeg d a w u t s
  | .ext d a w u => Sys2Proof.Machine.execExt d a w u s
  | .madd d a b c => Sys2Proof.Machine.execMadd d a b c s
  | .msub d a b c => Sys2Proof.Machine.execMsub d a b c s
  | .sel d a b c => Sys2Proof.Machine.execSel d a b c s
  | .cmpEq d a b w u => Sys2Proof.Machine.execCmpEq d a b w u s
  | .cmpNe d a b w u => Sys2Proof.Machine.execCmpNe d a b w u s
  | .cmpLt d a b w u => Sys2Proof.Machine.execCmpLt d a b w u s
  | .cmpLe d a b w u => Sys2Proof.Machine.execCmpLe d a b w u s
  | .cmpGt d a b w u => Sys2Proof.Machine.execCmpGt d a b w u s
  | .cmpGe d a b w u => Sys2Proof.Machine.execCmpGe d a b w u s
  | .addi d a imm => Sys2Proof.Machine.execAddi d a imm s
  | .addis d a imm => Sys2Proof.Machine.execAddis d a imm s
  | .andi d a imm => Sys2Proof.Machine.execAndi d a imm s
  | .ori d a imm => Sys2Proof.Machine.execOri d a imm s
  | .xori d a imm => Sys2Proof.Machine.execXori d a imm s
  | .shli d a n => Sys2Proof.Machine.execShli d a n s
  | .shri d a n => Sys2Proof.Machine.execShri d a n s
  | .srai d a n => Sys2Proof.Machine.execSrai d a n s
  | .rori d a n => Sys2Proof.Machine.execRori d a n s
  | .slti d a imm => Sys2Proof.Machine.execSlti d a imm s
  | .sltin d a imm => Sys2Proof.Machine.execSltin d a imm s
  | .beq a b o => Sys2Proof.Machine.execBeq a b o s
  | .bne a b o => Sys2Proof.Machine.execBne a b o s
  | .blt a b o => Sys2Proof.Machine.execBlt a b o s
  | .bge a b o => Sys2Proof.Machine.execBge a b o s
  | .bltn a b o => Sys2Proof.Machine.execBltn a b o s
  | .bgen a b o => Sys2Proof.Machine.execBgen a b o s
  | .btst a b o => Sys2Proof.Machine.execBtst a b o s
  | .btstz a b o => Sys2Proof.Machine.execBtstz a b o s
  | .j o => Sys2Proof.Machine.execJ o s
  | .jl o => Sys2Proof.Machine.execJl o s
  | .jr a => Sys2Proof.Machine.execJr a s
  | .jlr d a => Sys2Proof.Machine.execJlr d a s
  | .loop a l => Sys2Proof.Machine.execLoop a l s
  | .loopS r a n l => Sys2Proof.Machine.execLoopS r a n l s
  | .ldN d a c z o => Sys2Proof.Machine.execLdN d a c z o s
  | .ldI d a c z o => Sys2Proof.Machine.execLdI d a c z o s
  | .st d a c z o => Sys2Proof.Machine.execSt d a c z o s
  | .ldxN d a c z b => Sys2Proof.Machine.execLdxN d a c z b s
  | .ldxI d a c z b => Sys2Proof.Machine.execLdxI d a c z b s
  | .stx d a c z b => Sys2Proof.Machine.execStx d a c z b s
  | .ldAcq d a c z o => Sys2Proof.Machine.execLdAcq d a c z o s
  | .stRel d a c z o => Sys2Proof.Machine.execStRel d a c z o s
  | .atomSwap d a c z p r => Sys2Proof.Machine.execAtomSwap d a c z p r s
  | .atomCas d a c z p r => Sys2Proof.Machine.execAtomCas d a c z p r s
  | .atomAdd d a c z p r => Sys2Proof.Machine.execAtomAdd d a c z p r s
  | .atomAnd d a c z p r => Sys2Proof.Machine.execAtomAnd d a c z p r s
  | .atomOr d a c z p r => Sys2Proof.Machine.execAtomOr d a c z p r s
  | .atomXor d a c z p r => Sys2Proof.Machine.execAtomXor d a c z p r s
  | .atomMin d a c z p r => Sys2Proof.Machine.execAtomMin d a c z p r s
  | .atomMax d a c z p r => Sys2Proof.Machine.execAtomMax d a c z p r s
  | .atomMinn d a c z p r => Sys2Proof.Machine.execAtomMinn d a c z p r s
  | .atomMaxn d a c z p r => Sys2Proof.Machine.execAtomMaxn d a c z p r s
  | .atomFadd d a c p r => Sys2Proof.Machine.execAtomFadd d a c p r s
  | .redAdd d a c z p r => Sys2Proof.Machine.execRedAdd d a c z p r s
  | .redAnd d a c z p r => Sys2Proof.Machine.execRedAnd d a c z p r s
  | .redOr d a c z p r => Sys2Proof.Machine.execRedOr d a c z p r s
  | .redXor d a c z p r => Sys2Proof.Machine.execRedXor d a c z p r s
  | .redMin d a c z p r => Sys2Proof.Machine.execRedMin d a c z p r s
  | .redMax d a c z p r => Sys2Proof.Machine.execRedMax d a c z p r s
  | .redMinn d a c z p r => Sys2Proof.Machine.execRedMinn d a c z p r s
  | .redMaxn d a c z p r => Sys2Proof.Machine.execRedMaxn d a c z p r s
  | .redFadd d a c p r => Sys2Proof.Machine.execRedFadd d a c p r s
  | .redPerform => Sys2Proof.Machine.execRedPerform s
  | .vaddF32 d a b m => Sys2Proof.Machine.execVaddF32 d a b m s
  | .vsubF32 d a b m => Sys2Proof.Machine.execVsubF32 d a b m s
  | .vmulF32 d a b m => Sys2Proof.Machine.execVmulF32 d a b m s
  | .vfmaF32 d a b m => Sys2Proof.Machine.execVfmaF32 d a b m s
  | .vminF32 d a b m => Sys2Proof.Machine.execVminF32 d a b m s
  | .vmaxF32 d a b m => Sys2Proof.Machine.execVmaxF32 d a b m s
  | .vabsF32 d a m => Sys2Proof.Machine.execVabsF32 d a m s
  | .vnegF32 d a m => Sys2Proof.Machine.execVnegF32 d a m s
  | .vcmpEqF32 d a b m => Sys2Proof.Machine.execVcmpEqF32 d a b m s
  | .vcmpNeF32 d a b m => Sys2Proof.Machine.execVcmpNeF32 d a b m s
  | .vcmpLtF32 d a b m => Sys2Proof.Machine.execVcmpLtF32 d a b m s
  | .vcmpLeF32 d a b m => Sys2Proof.Machine.execVcmpLeF32 d a b m s
  | .vredSumF32 d a m x => Sys2Proof.Machine.execVredSumF32 d a m x s
  | .vredMaxF32 d a m x => Sys2Proof.Machine.execVredMaxF32 d a m x s
  | .vredMinF32 d a m x => Sys2Proof.Machine.execVredMinF32 d a m x s
  | .vaddBf16 d a b m => Sys2Proof.Machine.execVaddBf16 d a b m s
  | .vsubBf16 d a b m => Sys2Proof.Machine.execVsubBf16 d a b m s
  | .vmulBf16 d a b m => Sys2Proof.Machine.execVmulBf16 d a b m s
  | .vfmaBf16 d a b m => Sys2Proof.Machine.execVfmaBf16 d a b m s
  | .vminBf16 d a b m => Sys2Proof.Machine.execVminBf16 d a b m s
  | .vmaxBf16 d a b m => Sys2Proof.Machine.execVmaxBf16 d a b m s
  | .vabsBf16 d a m => Sys2Proof.Machine.execVabsBf16 d a m s
  | .vnegBf16 d a m => Sys2Proof.Machine.execVnegBf16 d a m s
  | .vcmpEqBf16 d a b m => Sys2Proof.Machine.execVcmpEqBf16 d a b m s
  | .vcmpNeBf16 d a b m => Sys2Proof.Machine.execVcmpNeBf16 d a b m s
  | .vcmpLtBf16 d a b m => Sys2Proof.Machine.execVcmpLtBf16 d a b m s
  | .vcmpLeBf16 d a b m => Sys2Proof.Machine.execVcmpLeBf16 d a b m s
  | .vredSumBf16 d a m x => Sys2Proof.Machine.execVredSumBf16 d a m x s
  | .vredMaxBf16 d a m x => Sys2Proof.Machine.execVredMaxBf16 d a m x s
  | .vredMinBf16 d a m x => Sys2Proof.Machine.execVredMinBf16 d a m x s
  | .vaddF16 d a b m => Sys2Proof.Machine.execVaddF16 d a b m s
  | .vsubF16 d a b m => Sys2Proof.Machine.execVsubF16 d a b m s
  | .vmulF16 d a b m => Sys2Proof.Machine.execVmulF16 d a b m s
  | .vfmaF16 d a b m => Sys2Proof.Machine.execVfmaF16 d a b m s
  | .vminF16 d a b m => Sys2Proof.Machine.execVminF16 d a b m s
  | .vmaxF16 d a b m => Sys2Proof.Machine.execVmaxF16 d a b m s
  | .vabsF16 d a m => Sys2Proof.Machine.execVabsF16 d a m s
  | .vnegF16 d a m => Sys2Proof.Machine.execVnegF16 d a m s
  | .vcmpEqF16 d a b m => Sys2Proof.Machine.execVcmpEqF16 d a b m s
  | .vcmpNeF16 d a b m => Sys2Proof.Machine.execVcmpNeF16 d a b m s
  | .vcmpLtF16 d a b m => Sys2Proof.Machine.execVcmpLtF16 d a b m s
  | .vcmpLeF16 d a b m => Sys2Proof.Machine.execVcmpLeF16 d a b m s
  | .vredSumF16 d a m x => Sys2Proof.Machine.execVredSumF16 d a m x s
  | .vredMaxF16 d a m x => Sys2Proof.Machine.execVredMaxF16 d a m x s
  | .vredMinF16 d a m x => Sys2Proof.Machine.execVredMinF16 d a m x s
  | .vaddI32 d a b m => Sys2Proof.Machine.execVaddI32 d a b m s
  | .vsubI32 d a b m => Sys2Proof.Machine.execVsubI32 d a b m s
  | .vmulI32 d a b m => Sys2Proof.Machine.execVmulI32 d a b m s
  | .vmadI32 d a b m => Sys2Proof.Machine.execVmadI32 d a b m s
  | .vminI32 d a b m => Sys2Proof.Machine.execVminI32 d a b m s
  | .vmaxI32 d a b m => Sys2Proof.Machine.execVmaxI32 d a b m s
  | .vminnI32 d a b m => Sys2Proof.Machine.execVminnI32 d a b m s
  | .vmaxnI32 d a b m => Sys2Proof.Machine.execVmaxnI32 d a b m s
  | .vcmpEqI32 d a b m => Sys2Proof.Machine.execVcmpEqI32 d a b m s
  | .vcmpNeI32 d a b m => Sys2Proof.Machine.execVcmpNeI32 d a b m s
  | .vcmpLtI32 d a b m => Sys2Proof.Machine.execVcmpLtI32 d a b m s
  | .vcmpLeI32 d a b m => Sys2Proof.Machine.execVcmpLeI32 d a b m s
  | .vcmpLtnI32 d a b m => Sys2Proof.Machine.execVcmpLtnI32 d a b m s
  | .vcmpLenI32 d a b m => Sys2Proof.Machine.execVcmpLenI32 d a b m s
  | .vabsI32 d a m => Sys2Proof.Machine.execVabsI32 d a m s
  | .vnegI32 d a m => Sys2Proof.Machine.execVnegI32 d a m s
  | .vredSumI32 d a m x => Sys2Proof.Machine.execVredSumI32 d a m x s
  | .vredMaxI32 d a m x => Sys2Proof.Machine.execVredMaxI32 d a m x s
  | .vredMinI32 d a m x => Sys2Proof.Machine.execVredMinI32 d a m x s
  | .vandI32 d a b m => Sys2Proof.Machine.execVandI32 d a b m s
  | .vorI32 d a b m => Sys2Proof.Machine.execVorI32 d a b m s
  | .vxorI32 d a b m => Sys2Proof.Machine.execVxorI32 d a b m s
  | .vshlI32 d a b m => Sys2Proof.Machine.execVshlI32 d a b m s
  | .vshrI32 d a b m => Sys2Proof.Machine.execVshrI32 d a b m s
  | .vsraI32 d a b m => Sys2Proof.Machine.execVsraI32 d a b m s
  | .vaddSatI32 d a b m => Sys2Proof.Machine.execVaddSatI32 d a b m s
  | .vsubSatI32 d a b m => Sys2Proof.Machine.execVsubSatI32 d a b m s
  | .vaddnSatI32 d a b m => Sys2Proof.Machine.execVaddnSatI32 d a b m s
  | .vsubnSatI32 d a b m => Sys2Proof.Machine.execVsubnSatI32 d a b m s
  | .vaddI16 d a b m => Sys2Proof.Machine.execVaddI16 d a b m s
  | .vsubI16 d a b m => Sys2Proof.Machine.execVsubI16 d a b m s
  | .vmulI16 d a b m => Sys2Proof.Machine.execVmulI16 d a b m s
  | .vmadI16 d a b m => Sys2Proof.Machine.execVmadI16 d a b m s
  | .vminI16 d a b m => Sys2Proof.Machine.execVminI16 d a b m s
  | .vmaxI16 d a b m => Sys2Proof.Machine.execVmaxI16 d a b m s
  | .vminnI16 d a b m => Sys2Proof.Machine.execVminnI16 d a b m s
  | .vmaxnI16 d a b m => Sys2Proof.Machine.execVmaxnI16 d a b m s
  | .vcmpEqI16 d a b m => Sys2Proof.Machine.execVcmpEqI16 d a b m s
  | .vcmpNeI16 d a b m => Sys2Proof.Machine.execVcmpNeI16 d a b m s
  | .vcmpLtI16 d a b m => Sys2Proof.Machine.execVcmpLtI16 d a b m s
  | .vcmpLeI16 d a b m => Sys2Proof.Machine.execVcmpLeI16 d a b m s
  | .vcmpLtnI16 d a b m => Sys2Proof.Machine.execVcmpLtnI16 d a b m s
  | .vcmpLenI16 d a b m => Sys2Proof.Machine.execVcmpLenI16 d a b m s
  | .vabsI16 d a m => Sys2Proof.Machine.execVabsI16 d a m s
  | .vnegI16 d a m => Sys2Proof.Machine.execVnegI16 d a m s
  | .vredSumI16 d a m x => Sys2Proof.Machine.execVredSumI16 d a m x s
  | .vredMaxI16 d a m x => Sys2Proof.Machine.execVredMaxI16 d a m x s
  | .vredMinI16 d a m x => Sys2Proof.Machine.execVredMinI16 d a m x s
  | .vandI16 d a b m => Sys2Proof.Machine.execVandI16 d a b m s
  | .vorI16 d a b m => Sys2Proof.Machine.execVorI16 d a b m s
  | .vxorI16 d a b m => Sys2Proof.Machine.execVxorI16 d a b m s
  | .vshlI16 d a b m => Sys2Proof.Machine.execVshlI16 d a b m s
  | .vshrI16 d a b m => Sys2Proof.Machine.execVshrI16 d a b m s
  | .vsraI16 d a b m => Sys2Proof.Machine.execVsraI16 d a b m s
  | .vaddSatI16 d a b m => Sys2Proof.Machine.execVaddSatI16 d a b m s
  | .vsubSatI16 d a b m => Sys2Proof.Machine.execVsubSatI16 d a b m s
  | .vaddnSatI16 d a b m => Sys2Proof.Machine.execVaddnSatI16 d a b m s
  | .vsubnSatI16 d a b m => Sys2Proof.Machine.execVsubnSatI16 d a b m s
  | .vaddI8 d a b m => Sys2Proof.Machine.execVaddI8 d a b m s
  | .vsubI8 d a b m => Sys2Proof.Machine.execVsubI8 d a b m s
  | .vmulI8 d a b m => Sys2Proof.Machine.execVmulI8 d a b m s
  | .vmadI8 d a b m => Sys2Proof.Machine.execVmadI8 d a b m s
  | .vminI8 d a b m => Sys2Proof.Machine.execVminI8 d a b m s
  | .vmaxI8 d a b m => Sys2Proof.Machine.execVmaxI8 d a b m s
  | .vminnI8 d a b m => Sys2Proof.Machine.execVminnI8 d a b m s
  | .vmaxnI8 d a b m => Sys2Proof.Machine.execVmaxnI8 d a b m s
  | .vcmpEqI8 d a b m => Sys2Proof.Machine.execVcmpEqI8 d a b m s
  | .vcmpNeI8 d a b m => Sys2Proof.Machine.execVcmpNeI8 d a b m s
  | .vcmpLtI8 d a b m => Sys2Proof.Machine.execVcmpLtI8 d a b m s
  | .vcmpLeI8 d a b m => Sys2Proof.Machine.execVcmpLeI8 d a b m s
  | .vcmpLtnI8 d a b m => Sys2Proof.Machine.execVcmpLtnI8 d a b m s
  | .vcmpLenI8 d a b m => Sys2Proof.Machine.execVcmpLenI8 d a b m s
  | .vabsI8 d a m => Sys2Proof.Machine.execVabsI8 d a m s
  | .vnegI8 d a m => Sys2Proof.Machine.execVnegI8 d a m s
  | .vredSumI8 d a m x => Sys2Proof.Machine.execVredSumI8 d a m x s
  | .vredMaxI8 d a m x => Sys2Proof.Machine.execVredMaxI8 d a m x s
  | .vredMinI8 d a m x => Sys2Proof.Machine.execVredMinI8 d a m x s
  | .vandI8 d a b m => Sys2Proof.Machine.execVandI8 d a b m s
  | .vorI8 d a b m => Sys2Proof.Machine.execVorI8 d a b m s
  | .vxorI8 d a b m => Sys2Proof.Machine.execVxorI8 d a b m s
  | .vshlI8 d a b m => Sys2Proof.Machine.execVshlI8 d a b m s
  | .vshrI8 d a b m => Sys2Proof.Machine.execVshrI8 d a b m s
  | .vsraI8 d a b m => Sys2Proof.Machine.execVsraI8 d a b m s
  | .vaddSatI8 d a b m => Sys2Proof.Machine.execVaddSatI8 d a b m s
  | .vsubSatI8 d a b m => Sys2Proof.Machine.execVsubSatI8 d a b m s
  | .vaddnSatI8 d a b m => Sys2Proof.Machine.execVaddnSatI8 d a b m s
  | .vsubnSatI8 d a b m => Sys2Proof.Machine.execVsubnSatI8 d a b m s
  | .vcvtF32 d a m => Sys2Proof.Machine.execVcvtF32 d a m s
  | .vcvtBf16 d a m => Sys2Proof.Machine.execVcvtBf16 d a m s
  | .vcvtF16 d a m => Sys2Proof.Machine.execVcvtF16 d a m s
  | .vcvtI32 d a m => Sys2Proof.Machine.execVcvtI32 d a m s
  | .vcvtI16 d a m => Sys2Proof.Machine.execVcvtI16 d a m s
  | .vcvtI8 d a m => Sys2Proof.Machine.execVcvtI8 d a m s
  | .vcvtE4m3 d a m => Sys2Proof.Machine.execVcvtE4m3 d a m s
  | .vcvtE5m2 d a m => Sys2Proof.Machine.execVcvtE5m2 d a m s
  | .vcvtPF32 d a b m => Sys2Proof.Machine.execVcvtPF32 d a b m s
  | .vcvtPBf16 d a b m => Sys2Proof.Machine.execVcvtPBf16 d a b m s
  | .vcvtPF16 d a b m => Sys2Proof.Machine.execVcvtPF16 d a b m s
  | .vcvtPI32 d a b m => Sys2Proof.Machine.execVcvtPI32 d a b m s
  | .vcvtPI16 d a b m => Sys2Proof.Machine.execVcvtPI16 d a b m s
  | .vcvtPI8 d a b m => Sys2Proof.Machine.execVcvtPI8 d a b m s
  | .vcvtPE4m3 d a b m => Sys2Proof.Machine.execVcvtPE4m3 d a b m s
  | .vcvtPE5m2 d a b m => Sys2Proof.Machine.execVcvtPE5m2 d a b m s
  | .vrot d a k x => Sys2Proof.Machine.execVrot d a k x s
  | .vbcast d a k x => Sys2Proof.Machine.execVbcast d a k x s
  | .mand d a b => Sys2Proof.Machine.execMand d a b s
  | .mor d a b => Sys2Proof.Machine.execMor d a b s
  | .mxor d a b => Sys2Proof.Machine.execMxor d a b s
  | .mandn d a b => Sys2Proof.Machine.execMandn d a b s
  | .mnot d a => Sys2Proof.Machine.execMnot d a s
  | .mfromv d a => Sys2Proof.Machine.execMfromv d a s
  | .mtov d a => Sys2Proof.Machine.execMtov d a s
  | .mpopc d a => Sys2Proof.Machine.execMpopc d a s
  | .vsel d a b m => Sys2Proof.Machine.execVsel d a b m s
  | .vexp2 d a m => Sys2Proof.Machine.execVexp2 d a m s
  | .vlog2 d a m => Sys2Proof.Machine.execVlog2 d a m s
  | .vrcp d a m => Sys2Proof.Machine.execVrcp d a m s
  | .vrsq d a m => Sys2Proof.Machine.execVrsq d a m s
  | .vtanh d a m => Sys2Proof.Machine.execVtanh d a m s
  | .vsilu d a m => Sys2Proof.Machine.execVsilu d a m s
  | .vmov d a m => Sys2Proof.Machine.execVmov d a m s
  | .vget d a b => Sys2Proof.Machine.execVget d a b s
  | .vsete d a b => Sys2Proof.Machine.execVsete d a b s
  | .vidx d m => Sys2Proof.Machine.execVidx d m s
  | .vsplatF32 d a m => Sys2Proof.Machine.execVsplatF32 d a m s
  | .vsplatBf16 d a m => Sys2Proof.Machine.execVsplatBf16 d a m s
  | .vsplatF16 d a m => Sys2Proof.Machine.execVsplatF16 d a m s
  | .vsplatI32 d a m => Sys2Proof.Machine.execVsplatI32 d a m s
  | .vsplatI16 d a m => Sys2Proof.Machine.execVsplatI16 d a m s
  | .vsplatI8 d a m => Sys2Proof.Machine.execVsplatI8 d a m s
  | .vsplatE4m3 d a m => Sys2Proof.Machine.execVsplatE4m3 d a m s
  | .vsplatE5m2 d a m => Sys2Proof.Machine.execVsplatE5m2 d a m s
  | .vsplatMask d a m => Sys2Proof.Machine.execVsplatMask d a m s
  | .vld d t r => Sys2Proof.Machine.execVld d t r s
  | .vst d t r => Sys2Proof.Machine.execVst d t r s
  | .vperm d t r => Sys2Proof.Machine.execVperm d t r s
  | .vatomAddI32 d a b c p => Sys2Proof.Machine.execVatomAddI32 d a b c p s
  | .vatomAddF32 d a b c p => Sys2Proof.Machine.execVatomAddF32 d a b c p s
  | .vatomMinI32 d a b c p => Sys2Proof.Machine.execVatomMinI32 d a b c p s
  | .vatomMaxI32 d a b c p => Sys2Proof.Machine.execVatomMaxI32 d a b c p s
  | .vatomAnd d a b c p => Sys2Proof.Machine.execVatomAnd d a b c p s
  | .vatomOr d a b c p => Sys2Proof.Machine.execVatomOr d a b c p s
  | .vatomXor d a b c p => Sys2Proof.Machine.execVatomXor d a b c p s
  | .vatomSwap d a b c p => Sys2Proof.Machine.execVatomSwap d a b c p s
  | .vatomAddI32Nr d a b c p => Sys2Proof.Machine.execVatomAddI32Nr d a b c p s
  | .vatomAddF32Nr d a b c p => Sys2Proof.Machine.execVatomAddF32Nr d a b c p s
  | .vatomMinI32Nr d a b c p => Sys2Proof.Machine.execVatomMinI32Nr d a b c p s
  | .vatomMaxI32Nr d a b c p => Sys2Proof.Machine.execVatomMaxI32Nr d a b c p s
  | .vatomAndNr d a b c p => Sys2Proof.Machine.execVatomAndNr d a b c p s
  | .vatomOrNr d a b c p => Sys2Proof.Machine.execVatomOrNr d a b c p s
  | .vatomXorNr d a b c p => Sys2Proof.Machine.execVatomXorNr d a b c p s
  | .vatomLaneReturn lane applied => Sys2Proof.Machine.execVatomLaneReturn lane applied s
  | .enq r q => Sys2Proof.Machine.execEnq r q s
  | .enqNb r q => Sys2Proof.Machine.execEnqNb r q s
  | .talloc t q => Sys2Proof.Machine.execTalloc t q s
  | .tfree t => Sys2Proof.Machine.execTfree t s
  | .twait t => Sys2Proof.Machine.execTwait t s
  | .tset t q => Sys2Proof.Machine.execTset t q s
  | .tget d t => Sys2Proof.Machine.execTget d t s
  | .mfc d c => Sys2Proof.Machine.execMfc d c s
  | .mtc a c => Sys2Proof.Machine.execMtc a c s
  | .trap n => Sys2Proof.Machine.execTrap n s
  | .rett => Sys2Proof.Machine.execRett s
  | .retry => Sys2Proof.Machine.execRetry s
  | .safept k => Sys2Proof.Machine.execSafept k s
  | .waitc a k => Sys2Proof.Machine.execWaitc a k s
  | .taskExit => Sys2Proof.Machine.execTaskExit s
  | .valloc k => Sys2Proof.Machine.execValloc k s
  | .waitx n => Sys2Proof.Machine.execWaitx n s
  | .snapopen d a => Sys2Proof.Machine.execSnapopen d a s
  | .snappub d a => Sys2Proof.Machine.execSnappub d a s
  | .tokw sel => Sys2Proof.Machine.execTokw sel s
  | .toks sel => Sys2Proof.Machine.execToks sel s
  | .semw sel => Sys2Proof.Machine.execSemw sel s
  | .sems sel => Sys2Proof.Machine.execSems sel s
  | .semr d sel => Sys2Proof.Machine.execSemr d sel s
  | .pondSync l => Sys2Proof.Machine.execPondSync l s
  | .fence sel m => Sys2Proof.Machine.execFence sel m s
  | .stallClear => Sys2Proof.Machine.execStallClear s
  | .safePointOverdue => Sys2Proof.Machine.execSafePointOverdue s
  | .rollbackResume => Sys2Proof.Machine.execRollbackResume s
  | .taskEnd => Sys2Proof.Machine.execTaskEnd s
  | .registerDrowsy reg => Sys2Proof.Machine.execRegisterDrowsy reg s
  | .debuggerRead reg => Sys2Proof.Machine.execDebuggerRead reg s
  | .tload r c => Sys2Proof.Machine.execTload r c s
  | .tloadt r c => Sys2Proof.Machine.execTloadt r c s
  | .tstore r c => Sys2Proof.Machine.execTstore r c s
  | .tstoret r c => Sys2Proof.Machine.execTstoret r c s
  | .copy r c => Sys2Proof.Machine.execCopy r c s
  | .fillTile r c => Sys2Proof.Machine.execFillTile r c s
  | .fillMemory r c => Sys2Proof.Machine.execFillMemory r c s
  | .gather r c => Sys2Proof.Machine.execGather r c s
  | .scatter r c => Sys2Proof.Machine.execScatter r c s
  | .bind r c => Sys2Proof.Machine.execBind r c s
  | .unbind r c => Sys2Proof.Machine.execUnbind r c s
  | .bload r c => Sys2Proof.Machine.execBload r c s
  | .bwait r c => Sys2Proof.Machine.execBwait r c s
  | .bdisc r c => Sys2Proof.Machine.execBdisc r c s
  | .bflush r c => Sys2Proof.Machine.execBflush r c s
  | .rfetch r c => Sys2Proof.Machine.execRfetch r c s
  | .rsend r c => Sys2Proof.Machine.execRsend r c s
  | .migrate r c => Sys2Proof.Machine.execMigrate r c s
  | .twback r c => Sys2Proof.Machine.execTwback r c s
  | .cinv r c => Sys2Proof.Machine.execCinv r c s
  | .mark r c => Sys2Proof.Machine.execMark r c s
  | .kvappend r c => Sys2Proof.Machine.execKvappend r c s
  | .kvgrow r c => Sys2Proof.Machine.execKvgrow r c s
  | .kvcow r c => Sys2Proof.Machine.execKvcow r c s
  | .kvremap r c => Sys2Proof.Machine.execKvremap r c s
  | .pfxwalk r c => Sys2Proof.Machine.execPfxwalk r c s
  | .pfxins r c => Sys2Proof.Machine.execPfxins r c s
  | .pfxrelSequence r c => Sys2Proof.Machine.execPfxrelSequence r c s
  | .pfxrelList r c => Sys2Proof.Machine.execPfxrelList r c s
  | .pfxdirClaim r c => Sys2Proof.Machine.execPfxdirClaim r c s
  | .pfxdirShare r c => Sys2Proof.Machine.execPfxdirShare r c s
  | .pfxdirDrop r c => Sys2Proof.Machine.execPfxdirDrop r c s
  | .attnr r c => Sys2Proof.Machine.execAttnr r c s
  | .attnrReply reply => Sys2Proof.Machine.execAttnrReply reply s
  | .attnrTimeout => Sys2Proof.Machine.execAttnrTimeout s
  | .mmul r c => Sys2Proof.Machine.execMmul r c s
  | .mmul2 r c => Sys2Proof.Machine.execMmul2 r c s
  | .attn r c => Sys2Proof.Machine.execAttn r c s
  | .attnSoftmaxStart => Sys2Proof.Machine.execAttnSoftmaxStart s
  | .mxv r c => Sys2Proof.Machine.execMxv r c s
  | .mzero r c => Sys2Proof.Machine.execMzero r c s
  | .sinit r c => Sys2Proof.Machine.execSinit r c s
  | .sfin r c => Sys2Proof.Machine.execSfin r c s
  | .smerge r c => Sys2Proof.Machine.execSmerge r c s
  | .scopy r c => Sys2Proof.Machine.execScopy r c s
  | .arrayPassEnd arr o cols => Sys2Proof.Machine.execArrayPassEnd arr o cols s
  | .matrixFreeze => Sys2Proof.Machine.execMatrixFreeze s
  | .matrixResume => Sys2Proof.Machine.execMatrixResume s
  | .arrayRowRemap arr row => Sys2Proof.Machine.execArrayRowRemap arr row s
  | .bitternCommit arr => Sys2Proof.Machine.execBitternCommit arr s
  | .engineFault r => Sys2Proof.Machine.execEngineFault r s
  | .commandComplete r => Sys2Proof.Machine.execCommandComplete r s
  | .heldSignalPush r => Sys2Proof.Machine.execHeldSignalPush r s
  | .blockFillComplete va => Sys2Proof.Machine.execBlockFillComplete va s
  | .regionFillComplete tile => Sys2Proof.Machine.execRegionFillComplete tile s
  | .barrierPass level => Sys2Proof.Machine.execBarrierPass level s
  | .doorbell q v => Sys2Proof.Machine.execDoorbell q v s
  | .kickReport q => Sys2Proof.Machine.execKickReport q s
  | .queueScan => Sys2Proof.Machine.execQueueScan s
  | .queueIdleTimeout q => Sys2Proof.Machine.execQueueIdleTimeout q s
  | .packetLaunch q => Sys2Proof.Machine.execPacketLaunch q s
  | .packetResume q => Sys2Proof.Machine.execPacketResume q s
  | .packetShootdown q => Sys2Proof.Machine.execPacketShootdown q s
  | .packetNop q => Sys2Proof.Machine.execPacketNop q s
  | .shootdownComplete => Sys2Proof.Machine.execShootdownComplete s
  | .batchClose w => Sys2Proof.Machine.execBatchClose w s
  | .dispatch => Sys2Proof.Machine.execDispatch s
  | .prologueStart => Sys2Proof.Machine.execPrologueStart s
  | .prologueOverrun worker => Sys2Proof.Machine.execPrologueOverrun worker s
  | .launchComplete lid => Sys2Proof.Machine.execLaunchComplete lid s
  | .haltComplete => Sys2Proof.Machine.execHaltComplete s
  | .partitionSwap part => Sys2Proof.Machine.execPartitionSwap part s
  | .swapExchange part => Sys2Proof.Machine.execSwapExchange part s
  | .thermalLevelChange celsius => Sys2Proof.Machine.execThermalLevelChange celsius s
  | .lockstepMismatch => Sys2Proof.Machine.execLockstepMismatch s
  | .lockstepRestart => Sys2Proof.Machine.execLockstepRestart s
  | .migrationStart => Sys2Proof.Machine.execMigrationStart s
  | .migrationSwitch => Sys2Proof.Machine.execMigrationSwitch s
  | .migrationDeadlineDrop => Sys2Proof.Machine.execMigrationDeadlineDrop s
  | .migrationAbandon => Sys2Proof.Machine.execMigrationAbandon s
  | .ptNodeBusy => Sys2Proof.Machine.execPtNodeBusy s
  | .heatSweep => Sys2Proof.Machine.execHeatSweep s
  | .lagoonScrubVisit => Sys2Proof.Machine.execLagoonScrubVisit s
  | .biSnoop pa k => Sys2Proof.Machine.execBiSnoop pa k s
  | .addCapacity module start len => Sys2Proof.Machine.execAddCapacity module start len s
  | .releaseCapacity start => Sys2Proof.Machine.execReleaseCapacity start s
  | .capacityAccept start => Sys2Proof.Machine.execCapacityAccept start s
  | .capacityDecline start => Sys2Proof.Machine.execCapacityDecline start s
  | .confirmRevocation start => Sys2Proof.Machine.execConfirmRevocation start s
  | .forcedRemoval start => Sys2Proof.Machine.execForcedRemoval start s
  | .headLinkDown port => Sys2Proof.Machine.execHeadLinkDown port s
  | .headCompletionTimeout port => Sys2Proof.Machine.execHeadCompletionTimeout port s
  | .headRecover port => Sys2Proof.Machine.execHeadRecover port s
  | .moduleUnreachable module => Sys2Proof.Machine.execModuleUnreachable module s
  | .laneFailure port => Sys2Proof.Machine.execLaneFailure port s
  | .portRetrainDone port => Sys2Proof.Machine.execPortRetrainDone port s
  | .ideFailure rep => Sys2Proof.Machine.execIdeFailure rep s
  | .write p => Sys2Proof.Machine.execWrite p s
  | .read p => Sys2Proof.Machine.execRead p s
  | .data p => Sys2Proof.Machine.execData p s
  | .atom p => Sys2Proof.Machine.execAtom p s
  | .red p => Sys2Proof.Machine.execRed p s
  | .result p => Sys2Proof.Machine.execResult p s
  | .ack p => Sys2Proof.Machine.execAck p s
  | .areq p => Sys2Proof.Machine.execAreq p s
  | .arep p => Sys2Proof.Machine.execArep p s
  | .time p => Sys2Proof.Machine.execTime p s
  | .ackSend src lane => Sys2Proof.Machine.execAckSend src lane s
  | .busyResend dst lane seq => Sys2Proof.Machine.execBusyResend dst lane seq s
  | .applyRetry src lane applied => Sys2Proof.Machine.execApplyRetry src lane applied s
  | .heldSend src lane => Sys2Proof.Machine.execHeldSend src lane s
  | .applyRefuse src lane => Sys2Proof.Machine.execApplyRefuse src lane s
  | .planeFailTimeout dst plane => Sys2Proof.Machine.execPlaneFailTimeout dst plane s
  | .planeLinkDown plane => Sys2Proof.Machine.execPlaneLinkDown plane s
  | .planeRestore dst plane => Sys2Proof.Machine.execPlaneRestore dst plane s
  | .planeRetry dst => Sys2Proof.Machine.execPlaneRetry dst s
  | .peerUnreachable dst => Sys2Proof.Machine.execPeerUnreachable dst s
  | .timeExchange => Sys2Proof.Machine.execTimeExchange s
  | .syncLoss => Sys2Proof.Machine.execSyncLoss s
  | .channelSpareSwitch stack channel => Sys2Proof.Machine.execChannelSpareSwitch stack channel s
  | .uncorrectableError site => Sys2Proof.Machine.execUncorrectableError site s
  | .controlStateError => Sys2Proof.Machine.execControlStateError s
  | .rowSpareStart bank row vault => Sys2Proof.Machine.execRowSpareStart bank row vault s
  | .rowSpareSwitch bank row vault => Sys2Proof.Machine.execRowSpareSwitch bank row vault s
  | .telemetryWrite => Sys2Proof.Machine.execTelemetryWrite s
  | .configWrite off v => Sys2Proof.Machine.execConfigWrite off v s
  | .warmResetRequest => Sys2Proof.Machine.execWarmResetRequest s
  | .maintResetRequest => Sys2Proof.Machine.execMaintResetRequest s
  | .partitionForm => Sys2Proof.Machine.execPartitionForm s
  | .partitionDissolve => Sys2Proof.Machine.execPartitionDissolve s
  | .garetorReset n => Sys2Proof.Machine.execGaretorReset n s
  | .hostBarAccess wr addr bs => Sys2Proof.Machine.execHostBarAccess wr addr bs s
  | .attest nonce => Sys2Proof.Machine.execAttest nonce s
  | .deploy by_ => Sys2Proof.Machine.execDeploy by_ s
  | .takeOwnership by_ digest => Sys2Proof.Machine.execTakeOwnership by_ digest s
  | .releaseOwnership by_ => Sys2Proof.Machine.execReleaseOwnership by_ s
  | .retire by_ => Sys2Proof.Machine.execRetire by_ s
  | .raiseSecurityMinimum by_ stage v => Sys2Proof.Machine.execRaiseSecurityMinimum by_ stage v s
  | .recoveryImage img => Sys2Proof.Machine.execRecoveryImage img s
  | .coldReset => Sys2Proof.Machine.execColdReset s
  | .resetPhaseEnd => Sys2Proof.Machine.execResetPhaseEnd s
  | .bootComplete rep => Sys2Proof.Machine.execBootComplete rep s
  | .wipeComplete => Sys2Proof.Machine.execWipeComplete s
  | .powerOff => Sys2Proof.Machine.execPowerOff s
  | .outOfServiceTemperature => Sys2Proof.Machine.execOutOfServiceTemperature s
  | .moduleReenumeration module => Sys2Proof.Machine.execModuleReenumeration module s
  | .spareChannelSwitchEnd stack channel => Sys2Proof.Machine.execSpareChannelSwitchEnd stack channel s

end Sys2Proof.Machine
end

