-- ==== Sys2Proof/Machine/Turns.lean ====
section
/-!
DEFINITION. Turns: which row runs next. The agenda comes first; failing one, the context in focus goes on, then every other
context in turn, and then the device itself. Fetching an instruction (03 R84 to R86, R91, R92) and taking a ring's next
command (06 R191) stand here; what they run is `exec` of the row. What builds an `Instr` is noncomputable (Decode).
-/
namespace Sys2Proof.Machine

/-! ## Time -/

/-- What steering adds to TIME in `ns` nanoseconds, or takes from it: TIME never goes back, and never gains more than 1.1 ns in
one (14 R459). -/
def steered (steer : Int) (ns g : Nat) : Int :=
  if 0 ≤ steer then min steer ((g % (ns / 10 + 1) : Nat) : Int) else -(min (-steer) ((g % (ns + 1) : Nat) : Int))

/-- A move on the crossbar may complete (05 R173; log entry 9). -/
def Ctx.crossbarStep (c : Ctx) (tick : Nat) : Ctx :=
  if c.ctl.xc = 0 || Config.crossbarBusy tick then c else { c with ctl := { c.ctl with xc := c.ctl.xc - 1 } }

/-- Device time, steered, and core cycles go on by a free amount (00 R5, 14 R459), resident tasks use up core time (12 R392),
and the crossbar goes on for the context in focus. -/
def State.elapse (s : State) : State :=
  let ns := (Config.elapsedNs s.tick).toNat
  let used (l : Launch) : Launch :=
    { l with used := l.used + ns * (s.placesWith fun c => !c.free && c.job.any fun j => j.launch == l.key && !j.prologue).length }
  let sl := s.dev.sluice
  let by_ := steered s.dev.steer ns (Config.steerNs s.tick)
  { s with tick := s.tick + 1, ctx := s.ctx.crossbarStep s.tick,
           dev := { s.dev with time := s.dev.time + BitVec.ofInt 64 (ns + by_), steer := s.dev.steer - by_,
                               cycle := s.dev.cycle + (Config.elapsedCycles s.tick).setWidth 64,
                               sluice := if sl.launches.isEmpty then sl else { sl with launches := sl.launches.map used } } }

/-! ## The stream -/

/-- The word at the PC (03 R84, R86). -/
def State.fetch (s : State) : Except Stop (State × InstrWord) := do
  if s.ctx.pc.toNat % 4 ≠ 0 then s.trapVal causeMisalignedPc 0 s.ctx.pc
  let (s1, pa, leaf) ← s.access s.ctx.pc .fetch
  let (s2, bs, p) ←
    if residency pa = 3 then s1.peerRead pa 4 0 scopeContext
    else
      let (s2, bs, p) := s1.readPhys pa 4 leaf
      pure (s2, bs, p)
  if p then s2.trapVal causePoisonConsumed 0 s.ctx.pc
  pure ({ s2 with ir := BitVec.ofNat 32 (leNat bs) }, BitVec.ofNat 32 (leNat bs))

/-- Words that a worker executes (12 R396): the Dzilyn scalar subset. -/
def workerRuns (w : InstrWord) : Bool :=
  let n := w.toNat
  let major := n / 2 ^ 26
  let csr := n / 2 ^ 4 % 2 ^ 12
  (decide (major ≤ 0x18) && !(major == 0x0F && n / 2 ^ 24 % 4 != 0)) || major == 0x3E
    || (major == 0x3C && (n % 16 == 0 && (csr == 0x010 || csr == 0x011 || csr == 0x013 || csr == 0x014) || n % 16 == 2))
    || n == 0xF0000006

/-- The safe point is overdue (01 R56): the next instruction of task mode that is no SAFEPT does not run. -/
def State.overdue (s : State) (w : InstrWord) : Bool :=
  !s.kernel && !s.onWorker && decide (4096 ≤ s.ctx.sinceSafe) && !isSafept w

/-- An encoding that no instruction has (03 R91, R92). -/
def State.refuseWord (s : State) (f : DecodeFault) : State :=
  match f with
  | .illegalOpcode => s.takeTrap causeIllegalOpcode 0 s.irVal
  | .illegalField b => s.takeTrap causeIllegalField (BitVec.ofNat 22 b) s.irVal

/-- The causes of table *Decode checks* (03 R92). -/
def wordCauses : List (BitVec 10) :=
  [causeIllegalOpcode, causeIllegalField, causePrivileged, causeIllegalCsr, causeIllegalGroup, causeGroupRange]

/-- An instruction of task mode has failed a check of its word, or one that shares its cause (03 R92; log entry 18). -/
def failsWord (o : Outcome) : Bool :=
  match o with
  | .next t =>
    (t.ctx.ctl.kernel && wordCauses.contains t.ctx.ctl.tcode)
      || match t.ctx.ending with
         | some (.killed _ c _ _) => wordCauses.contains c
         | _ => false
  | _ => false

/-- A word goes to the vector pipe (03 R91). -/
def toVector (w : InstrWord) : Bool := decide (0x20 ≤ w.toNat / 2 ^ 26) && decide (w.toNat / 2 ^ 26 ≤ 0x2C)

/-- The context of the core that last issued to a pipe (01 R17). -/
def CoreSt.issued (c : CoreSt) (vector : Bool) (n : Nat) : CoreSt :=
  if vector then { c with lastVector := n } else { c with lastScalar := n }

/-- The pipe that took a word keeps which context issued it (01 R17). -/
def noteIssue (w : InstrWord) (o : Outcome) : Outcome :=
  match o with
  | .next t => .next { t with core := t.core.issued (toVector w) t.ctxNum }
  | _ => o

/-- The context without what a stall would deliver or grant: pending engine faults and a pending pre-emption. -/
def State.unasked (s : State) : State :=
  let calm (x : RingSt) : RingSt := { x with pend := false }
  { s with ctx := { s.ctx with ri := calm s.ctx.ri, ro := calm s.ctx.ro, mx := calm s.ctx.mx, ctl := { s.ctx.ctl with preq := false } } }

/-- In the state after it an instruction stands at its place, and has not issued: the context is STALLED, or has left its cores with
its group at a barrier, and neither ends nor rolls back, waits for no lane of a VATOM, and for nothing that a commit has
left (01 R18, R56). -/
def stands (s t : State) : Bool :=
  (t.ctx.status == .stalled || t.ctx.status == .halted) && t.ctx.ending.isNone && !t.ctx.loop.rolling && t.ctx.vatom.isNone
    && t.ctx.loop.release == s.ctx.loop.release

/-- An instruction cannot issue now. What is delivered or granted at its stall does not make it issue. -/
def State.cannotIssue (s : State) (i : Instr) : Bool :=
  match exec i s.unasked with
  | .next t => stands s t
  | _ => false

/-- A fetched word issues, unless it has to stall. SAFE_POINT_OVERDUE, which depends on a count, comes after the checks of the word
(03 R92), and at an instruction that issues (01 R56). -/
noncomputable def State.issueWord (s : State) (w : InstrWord) : Outcome :=
  if s.onWorker && !workerRuns w then noteIssue w (.next (s.takeTrap causeIllegalOpcode 0 s.irVal))
  else
    match decodeWord w with
    | .error f => noteIssue w (.next (s.refuseWord f))
    | .ok i =>
      if s.cannotIssue i then exec i s
      else if s.overdue w && !failsWord (exec i s) then
        noteIssue w (.next (s.killTask stTaskFailed causeSafePointOverdue 0 s.ctx.pc))
      else noteIssue w (exec i s)

/-- The base-die unit that executes an access has its channel switched (10 R333, R334): the access is to local HBM, and is
memory-side or has no block cache. -/
def State.channelBusy (s : State) (pa : Nat) (leaf : BitVec 64) : Bool :=
  residency pa == 0 && (s.dev.memorySide pa leaf || s.cap.isEmpty) && s.dev.switching.contains (homeChannel pa)

/-- The lane of a VATOM in flight that comes back next, and whether its unit applies it (05 R182, 10 R334). -/
def State.nextLane (s : State) : Option (Nat × Bool) :=
  s.ctx.vatom.bind fun v => (v.out.find? fun l => s.laneReady v l).map fun l => (l.lane, !s.channelBusy l.pa l.leaf)

/-- The lanes of a VATOM in flight come back, all those that can (05 R182). -/
noncomputable def returnLanes : Nat → Outcome → Outcome
  | k + 1, .next s =>
    match s.nextLane with
    | some (lane, applied) => returnLanes k (exec (.vatomLaneReturn lane applied) s)
    | none => .next s
  | _, o => o

/-- The context fetches and issues its next instruction. A fetch that traps has issued nothing (03 R86). The lanes of a VATOM that
no peer has to answer come back as it issues. -/
noncomputable def State.issueNext (s : State) : Outcome :=
  match s.fetch with
  | .error (.trap s1 c info v) => .next (s1.takeTrapAt c info v s1.ctx.pc)
  | .error (.stall s1) => .next s1.stallOn
  | .ok (s1, w) => returnLanes 64 (s1.issueWord w)

/-- A context that is to issue again: it is ACTIVE, and waits for nothing (01 R18). -/
def State.awake (s : State) : State :=
  { s with ctx := { s.ctx with status := .active, busy := s.ctx.busy.filter fun b => b.ring.isSome } }

/-- A stream's turn. Behind a VATOM that waits for peers, or for a head, nothing of the context issues: it may still trap (log entry
68). -/
noncomputable def State.runStream (s : State) : Outcome :=
  match s.ctx.status with
  | .free => .next s
  | .halted => returnLanes 64 (.next s)
  | _ =>
    if s.ctx.ending.isSome then exec .taskEnd s
    else if s.ctx.loop.rolling then exec .rollbackResume s
    else if s.ctx.vatom.isSome then
      if s.nextLane.isSome then returnLanes 64 (.next s) else .next s.stallOn
    else if !s.kernel && !s.ctx.loop.release.isEmpty then .next s.awake.afterCommit
    else if s.onWorker && s.ctx.job.any fun j => decide (65536 ≤ j.issued) then
      exec (.prologueOverrun ((s.here - 640) / 4)) s
    else s.awake.issueNext

/-! ## Engines -/

/-- The signal of the ring's oldest command can be given now (01 R44). -/
def State.canSignal (s : State) (r : Ring) : Bool :=
  (s.oldest r).any fun k => k.stage == CmdStage.signalling
    && (k.dropSignal || (!k.uncommitted && match s.give (selectorOf k.sigSel) with
      | .full => false
      | _ => true))

/-- An opcode that the ring does not take (03 R100, 06 R191): an engine fault of the head. A PFXDIR whose OP is 3 names no command,
so it reports bit 32, the lowest of OP, whatever other field is bad (log entry 22). -/
def State.refuseCmd (s : State) (r : Ring) (k : CmdRec) (f : CmdFault) : State :=
  if (s.ring r).halt || s.ringHeld r then s
  else
    match f with
    | .opcode => s.failRing r { cause := causeCmdOpcode, info := BitVec.ofNat 22 (k.cmd.w0.toNat % 256), va := 0, cursor := cursorOf [] }
    | .dirOp => s.failRing r { cause := causeCmdField, info := 32, va := 0, cursor := cursorOf [] }

/-- The row of a ring's command. -/
noncomputable def State.runCmd (s : State) (r : Ring) (k : CmdRec) : Outcome :=
  match decodeCommand r k.cmd with
  | .ok i => exec i s
  | .error f => .next (s.refuseCmd r k f)

/-- The head of a ring, read from its slot and run. -/
noncomputable def State.runHead (s : State) (r : Ring) : Outcome :=
  match s.readHead r with
  | (s1, some k) => s1.runCmd r k
  | (s1, none) => .next s1

/-- An engine's turn at a ring of the context in focus. Issued commands of the matrix engine go on first, in a halted ring too (06
R196, R199). A helper command of the matrix engine that a RESTART has set going
comes before the head of its ring. -/
noncomputable def State.runEngine (s : State) (r : Ring) : Outcome :=
  let x := s.ring r
  let issued := s.ctx.cmds.find? fun k => k.ring == r && k.stage == CmdStage.issued
  if x.faulting.isSome then exec (.engineFault r) s
  else if s.ctx.cmds.any fun k => k.ring == r && k.stage == CmdStage.moved then exec (.commandComplete r) s
  else if s.canSignal r then exec (.heldSignalPush r) s
  else if x.halt then .next (if r == .mx then s.kickAll else s)
  else
    match r, (if r == .mx then s.ctx.helperLeft.or issued else issued), (if r == .mx && s.ctx.helperLeft.isSome then none else s.head r) with
    | .mx, some k, none => s.runCmd r k
    | .mx, none, none => .next s
    | .mx, _, some _ => s.kickAll.runHead r
    | _, some k, _ => s.runCmd r k
    | _, none, _ => s.runHead r

/-! ## Turns -/

/-- The row of a step that the machine brings about. -/
noncomputable def Ev.instr : Ev → Instr
  | .redPerform => .redPerform
  | .vatomLane lane applied => .vatomLaneReturn lane applied
  | .stallClear => .stallClear
  | .rollbackResume => .rollbackResume
  | .taskEnd => .taskEnd
  | .engineFault r => .engineFault r
  | .commandComplete r => .commandComplete r
  | .heldSignalPush r => .heldSignalPush r
  | .arrayPassEnd arr o cols => .arrayPassEnd arr o cols
  | .attnSoftmaxStart => .attnSoftmaxStart
  | .arrayRowRemap arr row => .arrayRowRemap arr row
  | .bitternCommit arr => .bitternCommit arr
  | .attnrReply r => .attnrReply r
  | .attnrTimeout => .attnrTimeout
  | .blockFill va => .blockFillComplete va
  | .regionFill tile => .regionFillComplete tile
  | .barrierPass level => .barrierPass level
  | .haltComplete => .haltComplete
  | .queueScan => .queueScan
  | .kickReport q => .kickReport q
  | .packetLaunch q => .packetLaunch q
  | .packetResume q => .packetResume q
  | .packetShootdown q => .packetShootdown q
  | .packetNop q => .packetNop q
  | .batchClose w => .batchClose w
  | .dispatch => .dispatch
  | .prologueStart => .prologueStart
  | .launchComplete lid => .launchComplete lid
  | .shootdownComplete => .shootdownComplete
  | .swapExchange part => .swapExchange part

/-- `n` numbers in round-robin order, from the one after the last served. -/
def afterLast (n last : Nat) : List Nat := (List.range n).map fun i => (last + 1 + i) % n

/-- The rings of a kind that an engine of core `k` serves, in their order from the one after the last served (01 R42). -/
def CoreSt.ringOrder (c : CoreSt) (k : Nat) (r : Ring) : List (Nat × Ring) :=
  match r with
  | .mx => (afterLast 4 c.lastMx).map fun i => (4 * k + i, .mx)
  | _ => (afterLast 8 c.lastRake).map fun i => (4 * k + i / 2, if i % 2 = 0 then .ri else .ro)

/-- The ring that an engine has served last. -/
def CoreSt.served (c : CoreSt) (p : Nat) (r : Ring) : CoreSt :=
  match r with
  | .mx => { c with lastMx := p % 4 }
  | .ri => { c with lastRake := 2 * (p % 4) }
  | .ro => { c with lastRake := 2 * (p % 4) + 1 }

/-- The context at a place. -/
def State.ctxAt (s : State) (p : Nat) : Ctx := if p = s.here then s.ctx else s.ctxs.getD p Ctx.vacant

/-- The rings of a kind of the core in focus that have commands, in the order in which they are served. -/
def State.fullRings (s : State) (r : Ring) : List (Nat × Ring) :=
  (s.core.ringOrder s.coreNum r).filter fun x => (s.ctxAt x.1).cmds.any fun k => k.ring == x.2

/-- A turn of an engine: it serves the ring that is next in its order (01 R42); while that is another one than the turn names,
the turn stays. -/
noncomputable def State.serveRing (s : State) (p : Nat) (r : Ring) : Outcome :=
  let s1 := s.focus p
  let x := if (s1.ctx.cmds.any fun k => k.ring == r) then (s1.fullRings r).headD (p, r) else (p, r)
  let s2 := { s1 with core := s1.core.served x.1 x.2, turns := if x = (p, r) then s1.turns else .engine p r :: s1.turns }
  (s2.focus x.1).runEngine x.2

/-- A turn. -/
noncomputable def Turn.run (t : Turn) (s : State) : Outcome :=
  match t with
  | .stream p => (s.focus p).runStream
  | .engine p r => s.serveRing p r
  | .own p e => exec e.instr (s.focus p)
  | .input p i => exec i (s.focus p)

/-- What a context would do at its turn. -/
def Ctx.poll (c : Ctx) (p : Nat) : Option Turn :=
  match c.status with
  | .free => none
  | .halted => some (if c.vatom.isSome then .stream p else .own p .haltComplete)
  | _ =>
    if c.ending.isSome then some (.own p .taskEnd)
    else if c.loop.rolling then some (.own p .rollbackResume)
    else some (.stream p)

/-- The first place from `p` on whose context has something to do. -/
def firstPoll : Nat → List Ctx → Option Nat
  | _, [] => none
  | p, c :: t => if (c.poll p).isSome then some p else firstPoll (p + 1) t

/-- The core that comes next: those after the one in focus, then those from the first on (log entry 7). -/
def State.nextCore (s : State) : Option Nat :=
  let n := 4 * (s.coreNum + 1)
  let cs := s.allCtxs
  ((firstPoll n (cs.drop n)).or (firstPoll 0 (cs.take n))).map (· / 4)

/-- The next word of the context in focus is one for the vector pipe. -/
def State.vectorNext (s : State) : Bool :=
  match (s.translate s.kernel s.ctx.pc.toNat .fetch).2 with
  | .ok pa leaf => residency pa != 3 && toVector (BitVec.ofNat 32 (leNat (s.dev.peek pa 4 leaf).1))
  | _ => false

/-- The contexts of core `k` that have something to do, in the order of their turns: those whose next instruction is for the
scalar pipe, then those whose next is for the vector pipe, each from the one after the context that last issued there
(01 R17). -/
def State.pipeOrder (s : State) (k : Nat) : List Nat :=
  let some_ := (List.range 4).filter fun i => ((s.ctxAt (4 * k + i)).poll (4 * k + i)).isSome
  match some_ with
  | [] => []
  | [i] => [4 * k + i]
  | i :: _ =>
    let c := (s.focus (4 * k + i)).core
    let vector (j : Nat) : Bool := (s.focus (4 * k + j)).vectorNext
    let pick (last : Nat) (v : Bool) : List Nat := (afterLast 4 last).filter fun j => some_.contains j && vector j == v
    (pick c.lastScalar false ++ pick c.lastVector true).map (4 * k + ·)

/-- What a place does at its turn: what it has posted performs as far as it may, then its context goes on. -/
def State.placeTurns (s : State) (p : Nat) : List Turn :=
  (if (s.ctxAt p).posted.isEmpty then [] else [.own p .redPerform]) ++ ((s.ctxAt p).poll p).toList

/-- The turns of the next core. -/
def State.coreTurns (s : State) : List Turn := (s.nextCore.elim [] s.pipeOrder).flatMap s.placeTurns

/-- Engine turns for the rings of the core in focus that have commands. -/
def State.engineTurns (s : State) : List Turn := (s.fullRings .ri ++ s.fullRings .mx).map fun x => .engine x.1 x.2

/-- The turns of the sluice: its workers' steps that wait, a pending shoot-down, and the scan of the queues while no context
issues (12 R382). Any other scan follows a write to the queue table, or comes as an input. -/
def State.sluiceTurns (s : State) : List Turn :=
  (if s.dev.sluice.stopped then [] else s.dev.sluice.waiting.map (.own s.here))
    ++ (if s.dev.sluice.shootdowns.isEmpty then [] else [.own s.here .shootdownComplete])
    ++ if s.dev.state != .ready || s.ctx.status == .active || s.ctxs.any (·.status == .active) then []
       else [.own s.here .queueScan]

/-- The turns that go on with services for other devices (07 R257). -/
def State.serveTurns (s : State) : List Turn := { s with turns := [] }.kickServes.turns

/-- The steps that wait have been put on the agenda. -/
def State.wakeSluice (s : State) : State :=
  if s.dev.sluice.stopped || s.dev.sluice.waiting.isEmpty then s
  else { s with dev := { s.dev with sluice := { s.dev.sluice with waiting := [], busyOver := false } } }

/-- When the agenda is empty it is made anew: the engines of the core in focus, the sluice, services for other devices, and the
contexts of the next core. A context that runs alone, with nothing else to do, needs no agenda. -/
def State.rotate (s : State) : State :=
  if !s.turns.isEmpty then s
  else
    let es := s.engineTurns ++ s.sluiceTurns ++ s.serveTurns
    let cs := s.coreTurns
    if es.isEmpty && cs == [.stream s.here] && s.ctx.status == .active then s else { s.wakeSluice with turns := es ++ cs }

/-- The device's own next step: the phases of a reset that end by themselves (15 R463). In every other phase it waits; once
it is READY the agenda holds the scan of the queues (12 R382). -/
noncomputable def State.runDevice (s : State) : Outcome :=
  match s.dev.state with
  | .reset => exec .resetPhaseEnd s
  | .wipe => exec .wipeComplete s
  | _ => .next s

/-- No turn is on the agenda. -/
noncomputable def State.runIdle (s : State) : Outcome :=
  match s.ctx.poll s.here with
  | some t => t.run s
  | none =>
    match s.coreTurns with
    | t :: _ => t.run s
    | [] => s.runDevice

/-- After a step what it leaves to report is reported, and the agenda is made. -/
def settle (o : Outcome) : Outcome :=
  match o with
  | .next s => .next s.reportLines.rotate
  | x => x

/-- Without power nothing runs but a power-up (15 R470). -/
noncomputable def State.runDark (s : State) : Outcome :=
  match s.turns with
  | .input _ .coldReset :: t => Sys2Proof.Machine.settle (exec .coldReset { s with turns := t })
  | _ :: t => .next { s with turns := t }
  | [] => .fault .poweredOff

/-- The next turn, once time has gone on. -/
noncomputable def State.runNext (s : State) : Outcome :=
  match s.turns with
  | t :: rest => t.run { s with turns := rest }
  | [] => s.runIdle

/-! ## Placing an instruction -/

/-- The page of local HBM where `withFetchWord` places a word. -/
def placedFrame : Nat := 2 ^ 20

/-- A leaf that maps a 64 KiB page of local HBM for every access (10 R341). -/
def placedLeaf : BitVec 64 := BitVec.ofNat 64 (placedFrame + 0x71)

/-- A context ready to issue at its PC, with nothing on the way. -/
def Ctx.readied (c : Ctx) : Ctx :=
  { c with status := .active, pc := c.pc &&& 0xFFFFFFFFFFFFFC, ending := none, vatom := none, busy := none, sinceSafe := 0,
           loop := { c.loop with rolling := false, release := [] }, inPlaceHalt := false, haltIdx := none }

/-- A word placed at the PC of the context in focus, with a translation of its page. -/
def State.placeWord (s : State) (w : InstrWord) : State :=
  let c := s.ctx.readied
  let pa := placedFrame + c.pc.toNat % 2 ^ 16
  let t : TlbEntry :=
    { asid := c.asid, level := 0, vpage := c.pc.toNat / 2 ^ 16, leaf := placedLeaf, leafPa := 0, wheat := true }
  let d := s.dev.dropLine (lineOf pa)
  { s with ctx := c, turns := [], core := { s.core with tlb := t :: s.core.tlb },
           dev := { d with powered := true, mem := d.mem.writeLE pa 4 w.toNat, poison := d.poison.filter (· != lineOf pa) } }

/-- The ring that a command is placed on: the first that takes its opcode. -/
noncomputable def placedRing (c : Cmd) : Ring :=
  match decodeCommand .ri c with
  | .ok _ => .ri
  | .error _ =>
    match decodeCommand .ro c with
    | .ok _ => .ro
    | .error _ => .mx

/-- A command placed alone on an enabled ring, whose engine has the next turn. -/
noncomputable def State.placeCommand (s : State) (c : Cmd) : State :=
  let r := placedRing c
  let before : Nat × Ring := match r with
    | .ri => (s.here + 3, .ro)
    | .ro => (s.here, .ri)
    | .mx => (s.here + 3, .mx)
  let s1 := { s with ctx := { s.ctx.readied with cmds := [] }, turns := [], dev := { s.dev with powered := true },
                     core := s.core.served before.1 before.2 }
  let s2 := s1.updRing r fun x => { RingSt.idle with en := true, log := 4, base := x.base }
  let s3 := s2.writeSlot ((s2.ring r).slotAddr 0) c
  { s3.publish r s3.kernel false s3.ctx.cmdSeq with turns := [.engine s3.here r] }

end Sys2Proof.Machine
end

