-- ==== Sys2Proof/Machine/Step.lean ====
section
/-!
DEFINITION. One step of the machine: time goes on, and the next turn runs. What a turn is stands in Turns.
-/
namespace Sys2Proof.Machine

/-- One step. -/
noncomputable def step (s : State) : Host.Outcome State Fault Refusal :=
  if s.dev.powered then settle s.elapse.runNext else s.runDark

/-- `s` with the instruction of the opcode table's bits where the next step takes it: a word at the PC (03 R84), or a
command at the head of a ring (06 R189). -/
noncomputable def State.withFetchWord (s : State) (nbits w : Nat) : State :=
  if nbits ≤ 32 then s.placeWord (BitVec.ofNat 32 w) else s.placeCommand (cmdOfNat w)

end Sys2Proof.Machine
end

