-- ==== Sys2Proof/Safety.lean ====
section
/-!
DEFINITION. What a run that goes on is, and the form that the machine's memories keep: the terms the claims use.
-/
namespace Sys2Proof.Machine

/-- A step that answers a next state. -/
def goesOn (o : Outcome) : Bool :=
  match o with
  | .next _ => true
  | _ => false

/-- The canonical form of every memory that the state holds: physical memory, the mailbox, and each core's scratchpad, of
the cores in use and of those parked in a cellar. -/
def State.memoryOk (s : State) : Bool :=
  s.dev.mem.wf && s.dev.cfg.mailbox.wf && s.core.spad.wf && s.cores.all (fun c => c.spad.wf)

/-- A run of `n` steps meets no stop. -/
def State.runs (s : State) : Nat → Prop
  | 0 => True
  | n + 1 => ∃ t, step s = .next t ∧ t.runs n

end Sys2Proof.Machine
end

