-- ==== Sys2Proof/Certificates/Slice0/Obligations.lean ====
section
/-!
DEFINITION. The claims about the RN960 model that the provers settle, from the numbered rules of spec/. Each claim's
docstring names the rules it formalises; the terms a claim uses beside the model's own stand in `Sys2Proof.Claims`.
-/

namespace Sys2Proof.Claims
open Sys2Proof Sys2Proof.Machine

/-! ## Integers of the scalar pipe (04 R109) -/

/-- Width in bits of type field T.W. -/
abbrev bits (w : BitVec 2) : Nat := 8 * 2 ^ w.toNat

/-- The low bits of a register as an exact integer: two's complement when T.U = 0, unsigned when T.U = 1. -/
def operand (w : BitVec 2) (u : BitVec 1) (v : Word) : Int :=
  if u = 0 then (v.setWidth (bits w)).toInt else (v.setWidth (bits w)).toNat

/-- A pattern widened to a register: sign-extended when T.U = 0, zero-extended when T.U = 1. -/
def widened {n : Nat} (u : BitVec 1) (x : BitVec n) : Word := if u = 0 then x.signExtend 64 else x.setWidth 64

/-- An exact result reduced modulo 2^w and widened. -/
def reduced (w : BitVec 2) (u : BitVec 1) (x : Int) : Word := widened u (BitVec.ofInt (bits w) x)

/-- T.S: an exact result brought into the range of the type when it asks for saturation (02 R58). -/
def saturated (w : BitVec 2) (u t : BitVec 1) (x : Int) : Int :=
  if t = 0 then x
  else if u = 0 then max (-(2 ^ (bits w - 1))) (min (2 ^ (bits w - 1) - 1) x)
  else max 0 (min (2 ^ bits w - 1) x)

/-- The shift amount of R114: bits 5:0 of the register, modulo the width. -/
def amount (w : BitVec 2) (v : Word) : Nat := (v.extractLsb' 0 6).toNat % bits w

/-- The state an instruction retires into when all it does is to write `v`, with poison `p`, to s[d]. -/
def writes (s : State) (d : BitVec 5) (v : Word) (p : Bool) : Host.Outcome State Fault Refusal :=
  .next (s.setReg d v p).retire

end Sys2Proof.Claims

namespace Sys2Proof.Claims
open Sys2Proof Sys2Proof.Machine

/-- The destination register of the scalar integer instructions (majors 0x00 to 0x0A, 04 R109 to R117). -/
def scalarDest : Instr → Option (BitVec 5)
  | .add d _ _ _ _ _ | .sub d _ _ _ _ _ | .mul d _ _ _ _ _ | .div d _ _ _ _ _ => some d
  | .mulh d _ _ _ _ | .rem d _ _ _ _ | .min d _ _ _ _ | .max d _ _ _ _ | .and d _ _ _ _ | .or d _ _ _ _ => some d
  | .xor d _ _ _ _ | .andn d _ _ _ _ | .shl d _ _ _ _ | .shr d _ _ _ _ | .ror d _ _ _ _ => some d
  | .clz d _ _ _ | .popc d _ _ _ | .ext d _ _ _ | .abs d _ _ _ _ | .neg d _ _ _ _ => some d
  | .madd d _ _ _ | .msub d _ _ _ | .sel d _ _ _ => some d
  | .cmpEq d _ _ _ _ | .cmpNe d _ _ _ _ | .cmpLt d _ _ _ _ | .cmpLe d _ _ _ _ | .cmpGt d _ _ _ _ => some d
  | .cmpGe d _ _ _ _ => some d
  | .addi d _ _ | .addis d _ _ | .andi d _ _ | .ori d _ _ | .xori d _ _ | .slti d _ _ | .sltin d _ _ => some d
  | .shli d _ _ | .shri d _ _ | .srai d _ _ | .rori d _ _ => some d
  | _ => none

end Sys2Proof.Claims

namespace Sys2Proof.Claims
open Sys2Proof Sys2Proof.Machine

/-! ## Memory -/

/-- Nothing of the context is on its way to memory: no posted or held store, no engine command, no request to a peer. -/
def quietMemory (s : State) : Prop :=
  s.ctx.posted = [] ∧ s.ctx.cmds = [] ∧ s.ctx.peer = [] ∧ s.ctx.loop.held = []

/-- The address of a MEM operand (04 R133). -/
def memVa (s : State) (a : BitVec 5) (z : BitVec 2) (o : BitVec 10) : Word :=
  s.reg a + o.setWidth 64 * BitVec.ofNat 64 (2 ^ z.toNat)

/-- The address of a MEM-X operand (04 R133). -/
def memXVa (s : State) (a b : BitVec 5) (z : BitVec 2) : Word := s.reg a + s.reg b * BitVec.ofNat 64 (2 ^ z.toNat)

/-- What a load of 2^z bytes at `pa` leaves, once translated in `s`: s[d] holds the bytes, little-endian, zero-extended
(`u` = 1) or sign-extended (`u` = 0), with the line's poison (04 R135, R138). -/
def loaded (s : State) (d : BitVec 5) (u : BitVec 1) (z : BitVec 2) (pa : Nat) (leaf : BitVec 64) (va : Word) :
    Host.Outcome State Fault Refusal :=
  let rd := s.loadPhys pa (2 ^ z.toNat) leaf
  .next (rd.1.setLoaded d (widened u (BitVec.ofNat (bits z) (leNat rd.2.1))) rd.2.2 va).retire

/-- What a store of 2^z bytes at `pa` leaves, once translated in `s`: the low bytes of s[d], with its poison, in memory, and
the count of the accesses posted one higher. -/
def stored (s : State) (d : BitVec 5) (z : BitVec 2) (pa : Nat) (leaf : BitVec 64) (va : Word) :
    Host.Outcome State Fault Refusal :=
  .next (s.nextPost.writePhys pa (leBytes (2 ^ z.toNat) (s.reg d).toNat) leaf (s.regPoison d) va).retire

/-- A device whose caches are in order and which has no lagoon: the memory has its canonical form, each line of the block
cache is 128 bytes at an address of its own, none of pool memory that is gone, pool memory comes and goes in whole lines, and
a copy in a scalar data cache is that of a line that the block cache holds (10 R330). -/
def plainDevice (d : Device) : Prop :=
  d.mem.wf = true ∧ d.lagoonBytes = 0
    ∧ (∀ l ∈ d.lines, l.pa % 128 = 0 ∧ l.data.length = 128 ∧ d.poolGone l.pa = false)
    ∧ (d.lines.map (·.pa)).Nodup ∧ (∀ pa, d.poolGone pa = d.poolGone (lineOf pa))
    ∧ (∀ c ∈ d.dcache, ∃ l ∈ d.lines, l.pa = c.pa ∧ l.data = c.data ∧ l.poison = c.poison)

/-- The operation of an atomic on `w`-bit values (04 R141). -/
def atomOf (op : AtomOp) {w : Nat} (old opnd nw : BitVec w) : BitVec w :=
  match op with
  | .swap => opnd
  | .cas => if old = opnd then nw else old
  | .add => old + opnd
  | .and => old &&& opnd
  | .or => old ||| opnd
  | .xor => old ^^^ opnd
  | .min => if opnd.slt old then opnd else old
  | .max => if old.slt opnd then opnd else old
  | .minn => if opnd.ult old then opnd else old
  | .maxn => if old.ult opnd then opnd else old
  | .fadd => BitVec.ofNat w (fmtF32.round .nearestEven .arith
      ((fmtF32.decode old.toNat).add false (fmtF32.decode opnd.toNat)))

/-- What a returning atomic of 2^size bytes leaves, translated in `s`: on a poisoned line the old value with poison and
nothing written; else the new value is written, poisoned by a poisoned operand, and s[d] gets the old one; a CAS that
finds another value than a clean operand writes nothing (04 R141, R142, R145). -/
def atomLeaves (s : State) (op : AtomOp) (u : BitVec 1) (d : BitVec 5) (size pa : Nat) (leaf : BitVec 64) (va : Word) :
    Host.Outcome State Fault Refusal :=
  let rd := s.readPhys pa (2 ^ size) leaf
  let old : BitVec (8 * 2 ^ size) := BitVec.ofNat _ (leNat rd.2.1)
  let opnd : BitVec (8 * 2 ^ size) := (s.reg d).setWidth _
  let nw : BitVec (8 * 2 ^ size) := (s.reg (d + 1)).setWidth _
  let put (x : State) (p : Bool) : Host.Outcome State Fault Refusal :=
    .next (x.setReg d (widened u old) p).retire
  if rd.2.2 then put rd.1 true
  else if op = .cas ∧ s.regPoison d = false ∧ old ≠ opnd then put rd.1 false
  else
    let new := if op = .cas then nw else atomOf op old opnd nw
    put (rd.1.writePhys pa (leBytes (2 ^ size) new.toNat) leaf
      (s.regPoison d || (decide (op = .cas) && s.regPoison (d + 1))) va) false

/-- A RED as it is posted (04 R144). -/
def redRecord (s : State) (op : AtomOp) (d : BitVec 5) (c : BitVec 4) (size : Nat) (p : BitVec 3) (rel : BitVec 1)
    (pa : Nat) (leaf : BitVec 64) (va : Word) : Posted :=
  { pa := pa, leaf := leaf, va := va, size := size, op := some op, data := s.reg d, poison := s.regPoison d, cls := c,
    scope := p, vlane := false, rel := rel == 1, before := s.ctx.cmdSeq, seq := s.ctx.postSeq }

/-- The loads and the stores of a MEM address (04 R133), and those of a MEM-X address. -/
def memLoads (d a : BitVec 5) (c : BitVec 4) (z : BitVec 2) (o : BitVec 10) : List Instr :=
  [.ldN d a c z o, .ldI d a c z o, .ldAcq d a c z o]
def memStores (d a : BitVec 5) (c : BitVec 4) (z : BitVec 2) (o : BitVec 10) : List Instr := [.st d a c z o, .stRel d a c z o]
def memXLoads (d a : BitVec 5) (c : BitVec 4) (z : BitVec 2) (b : BitVec 5) : List Instr := [.ldxN d a c z b, .ldxI d a c z b]

/-- The returning atomics, each with its size code; a CAS names an even register (04 R140). -/
def atomForms (d a : BitVec 5) (c : BitVec 4) (z : BitVec 1) (p : BitVec 3) (r : BitVec 2) : List (Nat × Instr) :=
  (2, .atomFadd d a c p r) :: ((if d.toNat % 2 = 0 then [Instr.atomCas d a c z p r] else [])
    ++ [Instr.atomSwap d a c z p r, .atomAdd d a c z p r, .atomAnd d a c z p r, .atomOr d a c z p r, .atomXor d a c z p r,
        .atomMin d a c z p r, .atomMax d a c z p r, .atomMinn d a c z p r, .atomMaxn d a c z p r]).map fun i => (2 + z.toNat, i)

/-- The REDs, each with its operation and size code. -/
def redForms (d a : BitVec 5) (c : BitVec 4) (z : BitVec 1) (p : BitVec 3) (r : BitVec 1) : List (AtomOp × Nat × Instr) :=
  let n := 2 + z.toNat
  [(.add, n, .redAdd d a c z p r), (.and, n, .redAnd d a c z p r), (.or, n, .redOr d a c z p r), (.xor, n, .redXor d a c z p r),
   (.min, n, .redMin d a c z p r), (.max, n, .redMax d a c z p r), (.minn, n, .redMinn d a c z p r),
   (.maxn, n, .redMaxn d a c z p r), (.fadd, 2, .redFadd d a c p r)]

end Sys2Proof.Claims

namespace Sys2Proof.Claims
open Sys2Proof Sys2Proof.Machine

/-! ## Vector registers -/

/-- vn lies in the allocation (01 R25), carries tag `t`, which is neither VOID nor POISON, and has its 1,024 elements. -/
def holds (s : State) (t : BitVec 4) (n : BitVec 5) : Prop :=
  n.toNat < 4 * s.ctx.ctl.vCount.toNat ∧ (s.vreg n).tag = t ∧ t ≠ 0x0 ∧ t ≠ 0xE ∧ (s.vreg n).data.length = 1024

/-- Element `k` of vn. -/
def elem (s : State) (n : BitVec 5) (k : Nat) : Elem := (s.vreg n).data.getD k 0

/-- Lane `j` of element `k` of vn, in tag `t` (02 R67). -/
def lane (s : State) (t : BitVec 4) (n : BitVec 5) (k j : Nat) : Nat := laneOf (tagLanes t) j (elem s n k)

/-- The vector instructions with checked sources, each with the tag that it expects of them (05 R150, R154 to R158, R161): two sources,
the compares, those that read vd as a third, one source, the reductions; and the conversions with the tag that they give (05 R159,
R160). -/
noncomputable def vectorTwo (d a b : BitVec 5) (m : BitVec 3) : List (BitVec 4 × Instr) :=
  [(1, .vaddF32 d a b m), (2, .vaddBf16 d a b m), (3, .vaddF16 d a b m), (4, .vaddI32 d a b m), (5, .vaddI16 d a b m),
     (6, .vaddI8 d a b m)] ++
    [(1, .vsubF32 d a b m), (2, .vsubBf16 d a b m), (3, .vsubF16 d a b m), (4, .vsubI32 d a b m), (5, .vsubI16 d a b m),
     (6, .vsubI8 d a b m)] ++
    [(1, .vmulF32 d a b m), (2, .vmulBf16 d a b m), (3, .vmulF16 d a b m), (4, .vmulI32 d a b m), (5, .vmulI16 d a b m),
     (6, .vmulI8 d a b m)] ++
    [(1, .vminF32 d a b m), (2, .vminBf16 d a b m), (3, .vminF16 d a b m), (4, .vminI32 d a b m), (5, .vminI16 d a b m),
     (6, .vminI8 d a b m)] ++
    [(1, .vmaxF32 d a b m), (2, .vmaxBf16 d a b m), (3, .vmaxF16 d a b m), (4, .vmaxI32 d a b m), (5, .vmaxI16 d a b m),
     (6, .vmaxI8 d a b m)] ++
    [(4, .vminnI32 d a b m), (5, .vminnI16 d a b m), (6, .vminnI8 d a b m)] ++
    [(4, .vmaxnI32 d a b m), (5, .vmaxnI16 d a b m), (6, .vmaxnI8 d a b m)] ++
    [(4, .vandI32 d a b m), (5, .vandI16 d a b m), (6, .vandI8 d a b m)] ++
    [(4, .vorI32 d a b m), (5, .vorI16 d a b m), (6, .vorI8 d a b m)] ++
    [(4, .vxorI32 d a b m), (5, .vxorI16 d a b m), (6, .vxorI8 d a b m)] ++
    [(4, .vshlI32 d a b m), (5, .vshlI16 d a b m), (6, .vshlI8 d a b m)] ++
    [(4, .vshrI32 d a b m), (5, .vshrI16 d a b m), (6, .vshrI8 d a b m)] ++
    [(4, .vsraI32 d a b m), (5, .vsraI16 d a b m), (6, .vsraI8 d a b m)] ++
    [(4, .vaddSatI32 d a b m), (5, .vaddSatI16 d a b m), (6, .vaddSatI8 d a b m)] ++
    [(4, .vsubSatI32 d a b m), (5, .vsubSatI16 d a b m), (6, .vsubSatI8 d a b m)] ++
    [(4, .vaddnSatI32 d a b m), (5, .vaddnSatI16 d a b m), (6, .vaddnSatI8 d a b m)] ++
    [(4, .vsubnSatI32 d a b m), (5, .vsubnSatI16 d a b m), (6, .vsubnSatI8 d a b m)]
noncomputable def vectorCompares (d a b : BitVec 5) (m : BitVec 3) : List (BitVec 4 × Instr) :=
  [(1, .vcmpEqF32 d a b m), (2, .vcmpEqBf16 d a b m), (3, .vcmpEqF16 d a b m), (4, .vcmpEqI32 d a b m), (5, .vcmpEqI16 d a b m),
     (6, .vcmpEqI8 d a b m)] ++
    [(1, .vcmpNeF32 d a b m), (2, .vcmpNeBf16 d a b m), (3, .vcmpNeF16 d a b m), (4, .vcmpNeI32 d a b m),
     (5, .vcmpNeI16 d a b m), (6, .vcmpNeI8 d a b m)] ++
    [(1, .vcmpLtF32 d a b m), (2, .vcmpLtBf16 d a b m), (3, .vcmpLtF16 d a b m), (4, .vcmpLtI32 d a b m),
     (5, .vcmpLtI16 d a b m), (6, .vcmpLtI8 d a b m)] ++
    [(1, .vcmpLeF32 d a b m), (2, .vcmpLeBf16 d a b m), (3, .vcmpLeF16 d a b m), (4, .vcmpLeI32 d a b m),
     (5, .vcmpLeI16 d a b m), (6, .vcmpLeI8 d a b m)] ++
    [(4, .vcmpLtnI32 d a b m), (5, .vcmpLtnI16 d a b m), (6, .vcmpLtnI8 d a b m)] ++
    [(4, .vcmpLenI32 d a b m), (5, .vcmpLenI16 d a b m), (6, .vcmpLenI8 d a b m)]
noncomputable def vectorThree (d a b : BitVec 5) (m : BitVec 3) : List (BitVec 4 × Instr) :=
  [(1, .vfmaF32 d a b m), (2, .vfmaBf16 d a b m), (3, .vfmaF16 d a b m)] ++
    [(4, .vmadI32 d a b m), (5, .vmadI16 d a b m), (6, .vmadI8 d a b m)]
noncomputable def vectorOne (d a : BitVec 5) (m : BitVec 3) : List (BitVec 4 × Instr) :=
  [(1, .vabsF32 d a m), (2, .vabsBf16 d a m), (3, .vabsF16 d a m), (4, .vabsI32 d a m), (5, .vabsI16 d a m), (6, .vabsI8 d a m)] ++
    [(1, .vnegF32 d a m), (2, .vnegBf16 d a m), (3, .vnegF16 d a m), (4, .vnegI32 d a m), (5, .vnegI16 d a m),
     (6, .vnegI8 d a m)] ++
    [(1, .vexp2 d a m), (1, .vlog2 d a m), (1, .vrcp d a m), (1, .vrsq d a m), (1, .vtanh d a m), (1, .vsilu d a m)]
noncomputable def vectorReductions (d a : BitVec 5) (m : BitVec 3) (x : BitVec 2) : List (BitVec 4 × Instr) :=
  [(1, .vredSumF32 d a m x), (2, .vredSumBf16 d a m x), (3, .vredSumF16 d a m x), (4, .vredSumI32 d a m x),
     (5, .vredSumI16 d a m x), (6, .vredSumI8 d a m x)] ++
    [(1, .vredMaxF32 d a m x), (2, .vredMaxBf16 d a m x), (3, .vredMaxF16 d a m x), (4, .vredMaxI32 d a m x),
     (5, .vredMaxI16 d a m x), (6, .vredMaxI8 d a m x)] ++
    [(1, .vredMinF32 d a m x), (2, .vredMinBf16 d a m x), (3, .vredMinF16 d a m x), (4, .vredMinI32 d a m x),
     (5, .vredMinI16 d a m x), (6, .vredMinI8 d a m x)]
noncomputable def vectorConverts (d a : BitVec 5) (m : BitVec 3) : List (BitVec 4 × Instr) :=
  [(1, .vcvtF32 d a m), (2, .vcvtBf16 d a m), (3, .vcvtF16 d a m), (4, .vcvtI32 d a m), (5, .vcvtI16 d a m), (6, .vcvtI8 d a m),
     (7, .vcvtE4m3 d a m), (8, .vcvtE5m2 d a m)]
noncomputable def vectorPacks (d a b : BitVec 5) (m : BitVec 3) : List (BitVec 4 × Instr) :=
  [(1, .vcvtPF32 d a b m), (2, .vcvtPBf16 d a b m), (3, .vcvtPF16 d a b m), (4, .vcvtPI32 d a b m), (5, .vcvtPI16 d a b m),
     (6, .vcvtPI8 d a b m), (7, .vcvtPE4m3 d a b m), (8, .vcvtPE5m2 d a b m)]

/-- Lane width of a tag. -/
abbrev laneWidth (t : BitVec 4) : Nat := 32 / tagLanes t

/-- The instruction completes with `f k j` in lane `j` of each element `k` that the mask selects, in tag `t`, the other
elements keeping vd's contents (05 R151). -/
def lanesAre (s : State) (i : Instr) (t : BitVec 4) (regs : List (BitVec 5)) (d : BitVec 5) (m : BitVec 3)
    (f : Nat → Nat → Nat) : Prop :=
  ∃ out : List Elem, out.length = 1024
    ∧ (∀ k j, k < 1024 → j < tagLanes t → laneOf (tagLanes t) j (out.getD k 0) = f k j % 2 ^ laneWidth t)
    ∧ exec i s = .next ((s.wake regs).vwriteMasked d m out t false).retire

/-- The instruction completes with 1 in each selected element for which `q` holds and 0 in the others, in tag MASK. -/
def truthsAre (s : State) (i : Instr) (regs : List (BitVec 5)) (d : BitVec 5) (m : BitVec 3) (q : Nat → Bool) : Prop :=
  ∃ out : List Elem, out.length = 1024 ∧ (∀ k, k < 1024 → out.getD k 0 = if q k then 1 else 0)
    ∧ exec i s = .next ((s.wake regs).vwriteMasked d m out 0x9 false).retire

/-- The inputs of a reduction along the row (axis 1) or column of element `e`: lane `j`, the identity where the mask is
0 (05 R158). -/
def reduceInputs (s : State) (t : BitVec 4) (a : BitVec 5) (m : BitVec 3) (x : BitVec 2) (ident e j : Nat) : List Nat :=
  let at_ (k : Nat) : Nat := if (s.mask m).getLsbD k then lane s t a k j else ident
  if x = 1 then (List.range 64).map fun c => at_ (e / 64 * 64 + c) else (List.range 16).map fun r => at_ (64 * r + e % 64)

/-- The instruction completes with every lane of every element the tree of R78 over its row or column. -/
def reducesTo (s : State) (i : Instr) (t : BitVec 4) (d a : BitVec 5) (m : BitVec 3) (x : BitVec 2) (ident : Nat)
    (op : Nat → Nat → Nat) : Prop :=
  ∃ out : List Elem, out.length = 1024
    ∧ (∀ e j, e < 1024 → j < tagLanes t → laneOf (tagLanes t) j (out.getD e 0)
        = (treeReduce op (if x = 1 then 6 else 4) (reduceInputs s t a m x ident e j)).headD 0 % 2 ^ laneWidth t)
    ∧ exec i s = .next ((s.wake [d, a]).vwrite d out t false).retire

/-- A lane as a floating-point value of the tag's format, and a result rounded to it (05 R154, 02 R64, R65). -/
def fin (s : State) (t : BitVec 4) (b : Nat) : FVal := floatIn s.modes t (floatFmt t) b
def fout (s : State) (t : BitVec 4) (x : FVal) : Nat := floatOut s.modes t (floatFmt t) x

end Sys2Proof.Claims

namespace Sys2Proof.Claims
open Sys2Proof Sys2Proof.Machine

/-! ## Tiles -/

/-- Tile `i` is valid, owned by the context, and its rows reach 16 × `r`. -/
def ownTile (s : State) (i : BitVec 8) (r : BitVec 7) : Prop :=
  let t := s.tile i.toNat
  t.valid = true ∧ t.owner.toNat = s.ctxNum ∧ 16 * r.toNat ≤ t.rows.toNat

/-- A move on the crossbar more for XC to count (05 R173). -/
def movedOn (s : State) : State := s.setCtl fun c => { c with xc := c.xc + 1 }

/-- Grain `h` of row `16 × r + k` of a tile of grains, with its uncorrectable marks (01 R33, 02 R75). -/
def tileGrain (s : State) (t : Tile) (r : BitVec 7) (k h : Nat) : List Marked := s.rowRead t (16 * r.toNat + k) (36 * h) 36

/-- Byte `b` of row `16 × r + k` of a tile, as a vector access sees it: zero past the rows, the width and 256 bytes. -/
def tileByte (s : State) (t : Tile) (r : BitVec 7) (k b : Nat) : Byte :=
  if 16 * r.toNat + k ≤ t.rows.toNat ∧ b < min t.width.toNat 256 then s.core.spad.read (t.rowAddr (16 * r.toNat + k) + b) else 0

/-- A byte of those rows is marked uncorrectable. -/
def tileBad (s : State) (t : Tile) (r : BitVec 7) (k : Nat) : Bool :=
  decide (16 * r.toNat + k ≤ t.rows.toNat)
    && (List.range (min t.width.toNat 256)).any fun b => s.core.ue.contains (t.rowAddr (16 * r.toNat + k) + b)

/-- The entry image that a quad holds laid over an entry (01 R33). -/
def imageOf (s : State) (t : Tile) (q : BitVec 3) : Tile :=
  let dw (k : Nat) : Word := s.reg (BitVec.ofNat 5 (4 * q.toNat + k))
  { t with group := (dw 0).extractLsb' 45 3, base := (dw 0).extractLsb' 32 13, pitch := (dw 0).extractLsb' 20 12,
           rows := (dw 0).extractLsb' 10 10, fmt := (dw 0).extractLsb' 6 4, rmap := (dw 0).getLsbD 1,
           width := (dw 1).extractLsb' 51 13, modlog := (dw 1).extractLsb' 47 4, origin := (dw 1).extractLsb' 37 10,
           rva := (dw 2).extractLsb' 0 56, rstride := (dw 3).extractLsb' 32 32 }

/-- The image of a quad may stand in the tile table: the registers are clean, the format is no reserved one, R34 holds of
it, ORIGIN lies in its ring and a region's address is 16-byte aligned. -/
def imageOk (s : State) (t : Tile) (q : BitVec 3) : Prop :=
  let img := imageOf s t q
  q ≠ 0 ∧ (∀ k, k < 4 → s.regPoison (BitVec.ofNat 5 (4 * q.toNat + k)) = false) ∧ img.fmt.toNat < 0xB ∧ img.sound = true
    ∧ (img.modlog ≠ 0 → img.origin.toNat < 2 ^ img.modlog.toNat) ∧ (img.rmap = true → img.rva.toNat % 16 = 0)

end Sys2Proof.Claims

/-! ## Encoding -/

section
open Sys2Proof Sys2Proof.Machine

/-- Every well-formed instruction that is a word is read back from it, with every operand at every value the encoding
admits (03 R84 to R97): no bit of an encoding is dropped. -/
def Obligations.InstructionWordsRoundTrip : Prop :=
  ∀ i w, i.wf = true → encode i = some w → decodeWord w = .ok i

/-- Every well-formed engine command is read back from its ring and its four doublewords (03 R98, R99). -/
def Obligations.EngineCommandsRoundTrip : Prop :=
  ∀ i r c, i.wf = true → encodeCommand i = some (r, c) → decodeCommand r c = .ok i

/-- Words that the spec writes out decode to the instructions it gives them (04 R113 to R125, 03 R84, 08 R286 to R290). -/
def Obligations.SpecWordsDecode : Prop :=
  decodeWord 0x00A63C82 = .ok (.mul 5 6 7 2 0 1)
    ∧ decodeWord 0x08A63D02 = .ok (.cmpLt 5 6 7 2 1)
    ∧ decodeWord 0x04A63A00 = .ok (.madd 5 6 7 8)
    ∧ decodeWord 0x20A60083 = .ok (.srai 5 6 3)
    ∧ decodeWord 0x2DA00004 = .ok (.beq 13 0 4)
    ∧ decodeWord 0x381F0000 = .ok (.jr 31)
    ∧ decodeWord 0x3BE50001 = .ok (.jlr 31 5)
    ∧ decodeWord 0x3C050008 = .ok (.loop 5 8)
    ∧ decodeWord 0x3D25100B = .ok (.loopS 1 5 1 11)
    ∧ decodeWord 0xF0001232 = .ok (.trap 0x123)
    ∧ decodeWord 0xF0000003 = .ok .rett
    ∧ decodeWord 0xF0000004 = .ok .retry
    ∧ decodeWord 0xF0060026 = .ok (.waitc 6 2)

end

/-! ## Steps, turns and reset -/

section
open Sys2Proof Sys2Proof.Machine Sys2Proof.Claims

/-- The context in focus issues next: the device has power, nothing is on the agenda, and the context is ACTIVE with no end,
rollback, VATOM or rest of a commit to come first (01 R17, R18); its PC is aligned and can be read in memory of this device
(03 R84, R86). `s1` is the state after the translation of the PC. -/
def Sys2Proof.Claims.issuesNext (s s1 : State) (pa : Nat) (leaf : BitVec 64) : Prop :=
  s.dev.powered = true ∧ s.turns = [] ∧ s.ctx.status = .active ∧ s.ctx.ending = none ∧ s.ctx.loop.rolling = false
    ∧ s.ctx.vatom = none ∧ (s.kernel = true ∨ s.ctx.loop.release = [])
    ∧ (s.onWorker = true → s.ctx.job.any (fun j => decide (65536 ≤ j.issued)) = false)
    ∧ s.ctx.pc.toNat % 4 = 0 ∧ s.elapse.awake.access s.ctx.pc .fetch = .ok (s1, pa, leaf) ∧ residency pa ≠ 3
    ∧ (s1.readPhys pa 4 leaf).2.2 = false

/-- The word that `issuesNext` finds, and the state in which it issues. -/
def Sys2Proof.Claims.wordAt (s1 : State) (pa : Nat) (leaf : BitVec 64) : InstrWord :=
  BitVec.ofNat 32 (leNat (s1.readPhys pa 4 leaf).2.1)
def Sys2Proof.Claims.issuing (s1 : State) (pa : Nat) (leaf : BitVec 64) : State :=
  { (s1.readPhys pa 4 leaf).1 with ir := wordAt s1 pa leaf }

/-- The word at the PC is the instruction that a step runs: when it decodes to `i`, and a worker may run it (12 R396), the
step is `exec i` after the fetch, and the agenda is made anew by `settle`. Where the instruction issues, the pipe's last issuer is
noted (01 R17); and where the safe point is then overdue (01 R56), which comes after the checks of the word (03 R92), the task ends
instead. The lanes of a VATOM that no peer has to answer come back in the same step, by `returnLanes` (log entry 68: the model's
choice). -/
def Sys2Proof.Claims.stepRunsTheFetchedInstruction : Prop :=
  ∀ (s s1 : State) (pa : Nat) (leaf : BitVec 64) (i : Instr), issuesNext s s1 pa leaf →
    let w := wordAt s1 pa leaf
    let t := issuing s1 pa leaf
    decodeWord w = .ok i → (s.onWorker = true → workerRuns w = true) →
      (t.cannotIssue i = true → step s = settle (returnLanes 64 (exec i t)))
      ∧ (t.cannotIssue i = false → t.overdue w = false ∨ failsWord (exec i t) = true →
          step s = settle (returnLanes 64 (noteIssue w (exec i t))))
      ∧ (t.cannotIssue i = false → t.overdue w = true → failsWord (exec i t) = false →
          step s = settle (returnLanes 64 (noteIssue w (.next (t.killTask 0x07 0x380 0 t.ctx.pc)))))

/-- The lanes of a VATOM come back as its unit performs them, each as its own row VATOM_LANE_RETURN (05 R182); with none in flight,
and after a stop, nothing happens. -/
def Sys2Proof.Claims.lanesComeBack : Prop :=
  (∀ (k : Nat) (t : State), t.ctx.vatom = none → returnLanes k (.next t) = .next t)
  ∧ (∀ (k : Nat) (t : State) (lane : Nat) (applied : Bool), t.nextLane = some (lane, applied) →
      returnLanes (k + 1) (.next t) = returnLanes k (exec (.vatomLaneReturn lane applied) t))

/-- Noting the issue changes which context last issued to a pipe, and nothing else (01 R17). -/
def Sys2Proof.Claims.notingTheIssue : Prop :=
  ∀ (w : InstrWord) (t : State), ∃ a b : Nat,
    noteIssue w (.next t) = .next { t with core := { t.core with lastScalar := a, lastVector := b } }

/-- A word that no instruction has traps (03 R91, R92): the same step, where the decoder refuses the word, takes
ILLEGAL_OPCODE with information 0 or ILLEGAL_FIELD with the lowest offending bit, and TVAL is the word; on a worker a word
outside its subset traps ILLEGAL_OPCODE (12 R396). -/
def Sys2Proof.Claims.stepTrapsAnUndefinedWord : Prop :=
  ∀ (s s1 : State) (pa : Nat) (leaf : BitVec 64), issuesNext s s1 pa leaf →
    let w := wordAt s1 pa leaf
    let t := issuing s1 pa leaf
    (∀ f, decodeWord w = .error f → (s.onWorker = true → workerRuns w = true) →
      step s = settle (returnLanes 64 (noteIssue w (.next (match f with
          | .illegalOpcode => t.takeTrap 0x001 0 (w.setWidth 64)
          | .illegalField b => t.takeTrap 0x002 (BitVec.ofNat 22 b) (w.setWidth 64))))))
    ∧ (s.onWorker = true → workerRuns w = false →
      step s = settle (returnLanes 64 (noteIssue w (.next (t.takeTrap 0x001 0 (w.setWidth 64))))))

/-- The head of a ring is the command that an engine's turn runs (06 R189, R191; 01 R42): when the ring is the next in its
engine's order, nothing else of it comes first, and the command read from the slot decodes to `i`, the step is `exec i`. -/
def Sys2Proof.Claims.stepRunsTheHeadCommand : Prop :=
  ∀ (s s1 : State) (r : Ring) (rest : List Turn) (k : CmdRec) (i : Instr),
    let e : State := { s.elapse with turns := rest }
    let s0 : State := { e with core := e.core.served s.here r }
    s.dev.powered = true → s.turns = .engine s.here r :: rest → (e.fullRings r).head? = some (s.here, r)
      → (s.ring r).faulting = none → (s.ring r).halt = false
      → (∀ c ∈ s.ctx.cmds, c.ring = r → c.stage ≠ .moved ∧ c.stage ≠ .issued) → s0.canSignal r = false
      → (s.head r).isSome = true → s0.readHead r = (s1, some k) → decodeCommand r k.cmd = .ok i
      → step s = settle (exec i s1)

/-- While another ring is next in the order of the engine, the turn serves that one, and stays (01 R42). -/
def Sys2Proof.Claims.enginesServeInOrder : Prop :=
  ∀ (s : State) (r : Ring) (p : Nat) (q : Ring) (rest : List Turn),
    let e : State := { s.elapse with turns := rest }
    s.dev.powered = true → s.turns = .engine s.here r :: rest → (s.ctx.cmds.any fun k => k.ring == r) = true
      → (e.fullRings r).head? = some (p, q) → (p, q) ≠ (s.here, r)
      → step s = settle ((State.focus { e with core := e.core.served p q, turns := .engine s.here r :: rest } p).runEngine q)

/-- A step that is on the agenda, brought about by the machine or from outside, runs as its own row at its place. -/
def Sys2Proof.Claims.stepRunsTheAgenda : Prop :=
  (∀ (s : State) (p : Nat) (e : Ev) (rest : List Turn), s.dev.powered = true → s.turns = .own p e :: rest
    → step s = settle (exec e.instr (State.focus { s.elapse with turns := rest } p)))
  ∧ (∀ (s : State) (p : Nat) (i : Instr) (rest : List Turn), s.dev.powered = true → s.turns = .input p i :: rest
    → step s = settle (exec i (State.focus { s.elapse with turns := rest } p)))

/-- Without power nothing runs but a power-up: any other turn is dropped, and with no turn the machine stops
(15 R463, R470). -/
def Sys2Proof.Claims.poweredOffDeviceStops : Prop :=
  (∀ s : State, s.dev.powered = false → s.turns = [] → step s = .fault .poweredOff)
  ∧ (∀ (s : State) (p : Nat) (rest : List Turn), s.dev.powered = false → s.turns = .input p .coldReset :: rest
    → step s = settle (exec .coldReset { s with turns := rest }))
  ∧ (∀ (s : State) (t : Turn) (rest : List Turn), s.dev.powered = false → s.turns = t :: rest
    → (∀ p, t ≠ .input p .coldReset) → step s = .next { s with turns := rest })

/-- Every instruction, command, event and packet answers a next state, whatever the state holds, and so does a step of a
powered device (03 R91, 08 R287). -/
def Sys2Proof.Claims.poweredStepsGoOn : Prop :=
  (∀ (i : Instr) (s : State), ∃ t : State, exec i s = .next t)
  ∧ (∀ s : State, s.dev.powered = true → ∃ t, step s = .next t)

/-- The agenda serves all: on a powered device an empty agenda means that the context in focus has no command for an
engine, that no shoot-down, no scan of the queues, no step of a worker that waits and no service for another device is due,
and that either no context has a turn to take or the context in focus, ACTIVE, has the only one (01 R16, R18; 12 R382). -/
def Sys2Proof.Claims.agendaServes (s : State) : Prop :=
  s.dev.powered = true → s.turns = [] →
    s.engineTurns = [] ∧ s.sluiceTurns = [] ∧ s.serveTurns = []
      ∧ (s.coreTurns = [] ∨ (s.coreTurns = [.stream s.here] ∧ s.ctx.status = .active))

/-- Every step keeps the agenda's invariant, from any state that meets it: nothing that could run is left unserved. -/
def Obligations.AgendaInvariantKept : Prop :=
  ∀ s t : State, agendaServes s → step s = .next t → agendaServes t

/-- What reset leaves (15 R462 to R464; 01 R18, R20, R27, R33, R39; 08 R285; 14 R456): DEVSTAT.STATE is RESET with no
error shown, no partition is formed, every context is FREE in task mode with registers, poison, masks and stage predicates
clear and its rings disabled, every scratchpad and physical memory is zero, the tile tables are invalid, the vector
registers are gated and zero, no queue or launch exists, and the lanes of every pair stand at SEQ and E 0. The values of
registers that a launch supplies are the model's (log entry 1) and are not stated. That pool memory and the host's are zero too, which no
reset touches (15 R464), is the model's choice (log entry 2). -/
def Obligations.ResetLeavesTheSpecValues : Prop :=
  let s := State.reset
  s.dev.state = .reset ∧ s.dev.booterr = 0 ∧ s.dev.therm = 0 ∧ s.dev.syncloss = false ∧ s.dev.cfgerr = false
    ∧ s.dev.formed = false ∧ s.dev.powered = true
    ∧ (∀ c ∈ s.allCtxs, c.status = .free ∧ c.ctl.kernel = false ∧ c.ctl.preq = false ∧ c.regs = Vector.replicate 32 0
        ∧ c.pois = 0 ∧ c.masks = Vector.replicate 8 0 ∧ c.sg = 0 ∧ c.loop.levels = [] ∧ c.ri.en = false
        ∧ c.ro.en = false ∧ c.mx.en = false ∧ c.cmds = [] ∧ c.fifos = Vector.replicate 10 0)
    ∧ (∀ k ∈ s.allCores, k.spad = [] ∧ k.tiles = Vector.replicate 256 Tile.invalid
        ∧ k.vregs = Vector.replicate 32 VReg.gated)
    ∧ s.dev.mem = [] ∧ s.dev.lagoon = [] ∧ s.dev.sluice.queues = [] ∧ s.dev.sluice.launches = []
    ∧ (∀ p ∈ s.dev.peers.toList, ∀ l ∈ p.tx.toList, l.next = 0)
    ∧ (∀ p ∈ s.dev.peers.toList, ∀ l ∈ p.rx.toList, l.expect = 0)

/-- Every memory of the reset state has the canonical form. -/
def Sys2Proof.Claims.resetMemoryIsCanonical : Prop := State.reset.memoryOk = true

/-- A step runs the instruction at the PC: a word that decodes runs as its instruction, and one that does not traps (03 R84,
R91, R92); or what is on the agenda: an engine's turn the head of its ring (06 R189, R191), any other turn its own row. -/
def Obligations.StepRunsTheFetchedInstruction : Prop :=
  stepRunsTheFetchedInstruction ∧ lanesComeBack ∧ notingTheIssue ∧ stepTrapsAnUndefinedWord ∧ stepRunsTheHeadCommand ∧ enginesServeInOrder
    ∧ stepRunsTheAgenda

/-- The machine stops for want of power alone (15 R463, R470). -/
def Obligations.OnlyPowerLossStops : Prop := poweredOffDeviceStops ∧ poweredStepsGoOn

/-- The reset state meets the invariants: its memories have the canonical form, and its agenda serves all. -/
def Obligations.ResetMeetsTheInvariants : Prop := resetMemoryIsCanonical ∧ agendaServes State.reset

end

/-! ## Registers and traps -/

section
open Sys2Proof Sys2Proof.Machine Sys2Proof.Claims

/-- s0 reads as zero with its poison clear, and a write to it is discarded, poison included; a write to any other
register is read back with its poison and leaves every other register alone (01 R20). -/
def Obligations.ZeroRegisterAndRegisterFile : Prop :=
  ∀ (s : State) (n m : BitVec 5) (v : Word) (p : Bool),
    s.reg 0 = 0 ∧ s.regPoison 0 = false ∧ s.setReg 0 v p = s
      ∧ (n ≠ 0 → (s.setReg n v p).reg n = v ∧ (s.setReg n v p).regPoison n = p)
      ∧ (m ≠ n → (s.setReg n v p).reg m = s.reg m ∧ (s.setReg n v p).regPoison m = s.regPoison m)

/-- Trap entry in task mode (08 R287): cause, information, TVAL and TPC are written, the mode becomes kernel and the PC
goes to TVEC; the registers, masks, loop unit, rings, commands and tile table are as before, and so is every other
context. -/
def Sys2Proof.Claims.trapEntrySavesAndRedirects : Prop :=
  ∀ (s : State) (cause : BitVec 10) (info : BitVec 22) (tval tpc : Word),
    s.onWorker = false → s.kernel = false → cause ≠ 0x180 → s.ctx.ctl.tvec ≠ 0
      → ∃ t, s.takeTrapAt cause info tval tpc = t
        ∧ t.ctx.ctl.tcode = cause ∧ t.ctx.ctl.tinfo = info ∧ t.ctx.ctl.tval = tval
        ∧ t.ctx.ctl.tpc = tpc.extractLsb' 2 62 ∧ t.ctx.ctl.kernel = true
        ∧ t.ctx.pc = s.ctx.ctl.tvec.setWidth 64 <<< 2 ∧ t.ctx.status = .active
        ∧ t.ctx.regs = s.ctx.regs ∧ t.ctx.pois = s.ctx.pois ∧ t.ctx.masks = s.ctx.masks ∧ t.ctx.sg = s.ctx.sg
        ∧ t.ctx.loop = s.ctx.loop ∧ t.ctx.ri = s.ctx.ri ∧ t.ctx.ro = s.ctx.ro ∧ t.ctx.mx = s.ctx.mx
        ∧ t.ctx.cmds = s.ctx.cmds ∧ t.core.tiles = s.core.tiles ∧ t.core.spad = s.core.spad ∧ t.core.vregs = s.core.vregs
        ∧ t.ctxs = s.ctxs ∧ t.cores = s.cores ∧ (s.ctx.ctl.lmValid = false → t.dev = s.dev ∧ t.core = s.core)

/-- A trap in kernel mode, and any trap but one of poison when TVEC is 0, ends the task: issue stops, and the task's end
carries the cause, the information field and the trapping address (08 R288). -/
def Sys2Proof.Claims.trapThatEndsTheTask : Prop :=
  ∀ (s : State) (cause : BitVec 10) (info : BitVec 22) (tval tpc : Word),
    s.onWorker = false → cause ≠ 0x180 → s.kernel = true ∨ s.ctx.ctl.tvec = 0
      → (s.takeTrapAt cause info tval tpc).ctx.status = .stalled
        ∧ (s.takeTrapAt cause info tval tpc).ctx.ending = some (.killed 0x07 cause info s.ctx.pc)
        ∧ (s.takeTrapAt cause info tval tpc).ctx.regs = s.ctx.regs
        ∧ (s.takeTrapAt cause info tval tpc).dev = s.dev

/-- POISON_CONSUMED by the stream (13 R409, R410, R414, R415; 08 R288): in task mode, an iteration that can be recovered and has
not been retried begins its rollback: the consuming instruction has no effect, what the iteration has enqueued and not issued is
withdrawn, each write count falls to the checkpoint's plus what has issued, no signal of the iteration fires, and the loop unit
waits. In any other case the task is killed with STATUS POISONED, CAUSE 0x180 and the trapping address, and the line that a
scalar load wrote the register from is entered as an error of kind 3; in kernel mode it ends so, with no such entry. -/
def Sys2Proof.Claims.poisonCourses : Prop :=
  ∀ (s : State) (info : BitVec 22) (tval tpc : Word), s.onWorker = false →
    let t := s.takeTrapAt 0x180 info tval tpc
    let killed (x : State) : Prop := x.ctx.status = .stalled ∧ x.ctx.ending = some (.killed 0x08 0x180 info s.ctx.pc)
      ∧ .own s.here .taskEnd ∈ x.turns ∧ x.ctx.regs = s.ctx.regs ∧ x.ctx.loop = s.ctx.loop ∧ x.ctx.cmds = s.ctx.cmds
      ∧ x.core = s.core ∧ x.dev.mem = s.dev.mem ∧ x.ctxs = s.ctxs
    (s.kernel = true → killed t ∧ t.dev = s.dev)
    ∧ (s.kernel = false → s.inLoopS = false ∨ s.ctx.loop.unrecoverable = true ∨ s.ctx.loop.retried = true →
        killed t ∧ (∀ x, s.ctx.lastLoad.find? (fun y => y.1 == info.toNat) = some x → t.dev = (s.errorEntry 3 x.2).dev)
        ∧ (s.ctx.lastLoad.find? (fun y => y.1 == info.toNat) = none → t.dev = s.dev))
    ∧ (∀ k, s.kernel = false → s.inLoopS = true → s.ctx.loop.unrecoverable = false → s.ctx.loop.retried = false →
        s.ctx.loop.ckpt = some k →
        let back (x y : RingSt) (w : BitVec 16) : Prop := y.wptr = (if (x.rptr - w).toNat < 2 ^ 15 then x.rptr else w)
          ∧ y.rptr = x.rptr ∧ y.en = x.en ∧ y.halt = x.halt ∧ y.pend = x.pend
        t.ctx.status = .stalled ∧ t.ctx.ending = s.ctx.ending ∧ t.ctx.loop = { s.ctx.loop with rolling := true }
        ∧ .own s.here .rollbackResume ∈ t.turns ∧ t.ctx.pc = s.ctx.pc ∧ t.ctx.regs = s.ctx.regs ∧ t.ctx.pois = s.ctx.pois
        ∧ t.ctx.masks = s.ctx.masks ∧ t.ctx.ctl = s.ctx.ctl ∧ t.core = s.core ∧ t.dev = s.dev ∧ t.ctxs = s.ctxs
        ∧ back s.ctx.ri t.ctx.ri k.riW ∧ back s.ctx.ro t.ctx.ro k.roW ∧ back s.ctx.mx t.ctx.mx k.mxW
        ∧ (∀ c, c ∈ t.ctx.cmds ↔ ∃ b ∈ s.ctx.cmds, ¬(b.uncommitted = true ∧ b.stage = .queued)
            ∧ c = if b.uncommitted then { b with dropSignal := true } else b))

/-- RETT in kernel mode, RETRY with no halted ring in kernel mode: the mode becomes task and the PC is TPC, and nothing
else of the machine changes; in task mode both trap PRIVILEGED (08 R289, R290; 03 R92). TRAP takes TRAP_INSN with n as
information, TVAL 0 and the next address as TPC (08 R286). -/
def Sys2Proof.Claims.trapAndReturn : Prop :=
  (∀ s : State, s.kernel = true
    → exec .rett s = .next { s with ctx := { s.ctx with pc := s.ctx.ctl.tpc.setWidth 64 <<< 2,
                                                        ctl := { s.ctx.ctl with kernel := false } } })
  ∧ (∀ s : State, s.kernel = true → (∀ r, (s.ring r).halt = false) → exec .retry s = exec .rett s)
  ∧ (∀ s : State, s.kernel = false → exec .rett s = .next (s.takeTrap 0x005 0 (s.ir.setWidth 64))
      ∧ exec .retry s = .next (s.takeTrap 0x005 0 (s.ir.setWidth 64)))
  ∧ (∀ (s : State) (n : BitVec 12),
      exec (.trap n) s = .next (s.countIssue.takeTrapAt 0x385 (n.setWidth 22) 0 (s.ctx.pc + 4)))

/-- RETRY resumes, in the order RI, RO, MX, each ring whose delivered fault has halted it, as a write of RESTART does,
and then returns (08 R290, 06 R199). -/
def Sys2Proof.Claims.retryResumesHaltedRings : Prop :=
  ∀ s : State, s.kernel = true → ∃ t : State, exec .retry s = .next t ∧ t.ctx.ctl.kernel = false
    ∧ t.ctx.pc = s.ctx.ctl.tpc.setWidth 64 <<< 2
    ∧ (∀ r, (s.ring r).pend = false → (t.ring r).halt = false)
    ∧ (∀ r, (s.ring r).pend = true → (t.ring r).halt = (s.ring r).halt)
    ∧ t.ctx.regs = s.ctx.regs ∧ t.ctx.masks = s.ctx.masks ∧ t.ctx.loop = s.ctx.loop ∧ t.dev.mem = s.dev.mem

/-- Taking a trap: its entry in task mode (08 R287), the traps that end the task (08 R288), and the courses of poison consumed
(13 R409, R410, R414, R415). -/
def Obligations.TrapsAreTaken : Prop :=
  trapEntrySavesAndRedirects ∧ trapThatEndsTheTask ∧ poisonCourses

/-- TRAP, RETT and RETRY (08 R286, R289, R290). -/
def Obligations.TrapRettAndRetry : Prop :=
  trapAndReturn ∧ retryResumesHaltedRings

end

/-! ## The scalar pipe -/

section
open Sys2Proof Sys2Proof.Machine Sys2Proof.Claims

/-- The two-source instructions of the ALU major (04 R109 to R114), from their operands as exact integers or patterns. -/
def Sys2Proof.Claims.integerResults : Prop :=
  ∀ (s : State) (d a b : BitVec 5) (w : BitVec 2) (u t : BitVec 1),
    let x := operand w u (s.reg a)
    let y := operand w u (s.reg b)
    let X := (s.reg a).setWidth (bits w)
    let Y := (s.reg b).setWidth (bits w)
    let n := amount w (s.reg b)
    let p := s.regPoison a || s.regPoison b
    exec (.add d a b w u t) s = writes s d (reduced w u (saturated w u t (x + y))) p
      ∧ exec (.sub d a b w u t) s = writes s d (reduced w u (saturated w u t (x - y))) p
      ∧ exec (.mul d a b w u t) s = writes s d (reduced w u (saturated w u t (x * y))) p
      ∧ exec (.mulh d a b w u) s = writes s d (reduced w u ((x * y) >>> bits w)) p
      ∧ (y ≠ 0 → exec (.div d a b w u t) s = writes s d (reduced w u (saturated w u t (x.tdiv y))) p)
      ∧ (y = 0 → exec (.div d a b w u t) s = writes s d (widened u (BitVec.allOnes (bits w))) p)
      ∧ (y ≠ 0 → exec (.rem d a b w u) s = writes s d (reduced w u (x - y * x.tdiv y)) p)
      ∧ (y = 0 → exec (.rem d a b w u) s = writes s d (reduced w u x) p)
      ∧ exec (.min d a b w u) s = writes s d (reduced w u (min x y)) p
      ∧ exec (.max d a b w u) s = writes s d (reduced w u (max x y)) p
      ∧ exec (.and d a b w u) s = writes s d (widened u (X &&& Y)) p
      ∧ exec (.or d a b w u) s = writes s d (widened u (X ||| Y)) p
      ∧ exec (.xor d a b w u) s = writes s d (widened u (X ^^^ Y)) p
      ∧ exec (.andn d a b w u) s = writes s d (widened u (X &&& ~~~Y)) p
      ∧ exec (.shl d a b w u) s = writes s d (widened u (X <<< n)) p
      ∧ exec (.shr d a b w u) s = writes s d (widened u (if u = 0 then X.sshiftRight n else X >>> n)) p
      ∧ exec (.ror d a b w u) s = writes s d (widened u (X.rotateRight n)) p

/-- The one-source instructions of the ALU major (04 R109 to R112). -/
def Sys2Proof.Claims.oneSourceIntegerResults : Prop :=
  ∀ (s : State) (d a : BitVec 5) (w : BitVec 2) (u t : BitVec 1),
    let x := operand w u (s.reg a)
    let X := (s.reg a).setWidth (bits w)
    let p := s.regPoison a
    exec (.clz d a w u) s = writes s d (widened u X.clz) p
      ∧ exec (.popc d a w u) s = writes s d (widened u X.cpop) p
      ∧ exec (.abs d a w u t) s = writes s d (reduced w u (saturated w u t x.natAbs)) p
      ∧ exec (.neg d a w u t) s = writes s d (reduced w u (saturated w u t (-x))) p
      ∧ exec (.ext d a w u) s = writes s d (widened u X) p

/-- ALU3 and CMP (04 R115, R116): results on 64 bits; SEL takes the poison of its condition and of the source it selects;
a comparison writes 1 or 0. -/
def Sys2Proof.Claims.threeSourceAndCompareResults : Prop :=
  ∀ (s : State) (d a b c : BitVec 5) (w : BitVec 2) (u : BitVec 1),
    let x := operand w u (s.reg a)
    let y := operand w u (s.reg b)
    let p := s.regPoison a || s.regPoison b
    let bool (q : Prop) [Decidable q] : Word := if q then 1 else 0
    exec (.madd d a b c) s = writes s d (s.reg a * s.reg b + s.reg c) (p || s.regPoison c)
      ∧ exec (.msub d a b c) s = writes s d (s.reg c - s.reg a * s.reg b) (p || s.regPoison c)
      ∧ (s.reg a ≠ 0 → exec (.sel d a b c) s = writes s d (s.reg b) p)
      ∧ (s.reg a = 0 → exec (.sel d a b c) s = writes s d (s.reg c) (s.regPoison a || s.regPoison c))
      ∧ exec (.cmpEq d a b w u) s = writes s d (bool ((s.reg a).setWidth (bits w) = (s.reg b).setWidth (bits w))) p
      ∧ exec (.cmpNe d a b w u) s = writes s d (bool ((s.reg a).setWidth (bits w) ≠ (s.reg b).setWidth (bits w))) p
      ∧ exec (.cmpLt d a b w u) s = writes s d (bool (x < y)) p
      ∧ exec (.cmpLe d a b w u) s = writes s d (bool (x ≤ y)) p
      ∧ exec (.cmpGt d a b w u) s = writes s d (bool (x > y)) p
      ∧ exec (.cmpGe d a b w u) s = writes s d (bool (x ≥ y)) p

/-- The immediate forms (04 R117): on 64 bits, with the poison of s[a]. -/
def Sys2Proof.Claims.immediateResults : Prop :=
  ∀ (s : State) (d a : BitVec 5) (i : BitVec 16) (n : BitVec 6),
    let x := s.reg a
    let p := s.regPoison a
    exec (.addi d a i) s = writes s d (x + i.signExtend 64) p
      ∧ exec (.addis d a i) s = writes s d (x + i.signExtend 64 * 0x10000) p
      ∧ exec (.andi d a i) s = writes s d (x &&& i.setWidth 64) p
      ∧ exec (.ori d a i) s = writes s d (x ||| i.setWidth 64) p
      ∧ exec (.xori d a i) s = writes s d (x ^^^ i.setWidth 64) p
      ∧ exec (.shli d a n) s = writes s d (x <<< n.toNat) p
      ∧ exec (.shri d a n) s = writes s d (x >>> n.toNat) p
      ∧ exec (.srai d a n) s = writes s d (x.sshiftRight n.toNat) p
      ∧ exec (.rori d a n) s = writes s d (x.rotateRight n.toNat) p
      ∧ exec (.slti d a i) s = writes s d (if x.toInt < i.toInt then 1 else 0) p
      ∧ exec (.sltin d a i) s = writes s d (if x.toNat < (i.signExtend 64).toNat then 1 else 0) p

/-- Retiring outside the end of a body (03 R84, 04 R126): the PC moves on by one word, the count of instructions since
the last safe point goes up in task mode (01 R56), and on a worker that of the prologue (12 R398); nothing else changes. -/
def Sys2Proof.Claims.retiringMovesOn : Prop :=
  ∀ s : State, s.atBodyEnd = false →
    s.retire = { s with ctx := { s.ctx with
      pc := s.ctx.pc + 4,
      sinceSafe := if s.kernel then s.ctx.sinceSafe else s.ctx.sinceSafe + 1,
      job := if s.kernel then s.ctx.job
             else s.ctx.job.map fun j => if j.prologue then { j with issued := j.issued + 1 } else j } }

/-- The frame of every scalar integer instruction (04 R109 to R117): outside the end of a body, whatever the operands, the
next state differs from the state before in s[d] and its poison, the PC and the counts of issued instructions alone. Every
other register, mask, control register and ring, and all of memory, is as before. -/
def Sys2Proof.Claims.scalarFrame : Prop :=
  ∀ (i : Instr) (d : BitVec 5) (s t : State), scalarDest i = some d → s.atBodyEnd = false → exec i s = .next t →
    t = { s with ctx := { s.ctx with regs := t.ctx.regs, pois := t.ctx.pois, lastLoad := t.ctx.lastLoad,
                                     pc := s.ctx.pc + 4, sinceSafe := t.ctx.sinceSafe, job := t.ctx.job } }
      ∧ ∀ m, m ≠ d → t.reg m = s.reg m ∧ t.regPoison m = s.regPoison m

/-- The ALU major (04 R109 to R114). -/
def Obligations.AluResults : Prop :=
  integerResults ∧ oneSourceIntegerResults

/-- The ALU3 and CMP majors and the immediate forms (04 R115 to R117). -/
def Obligations.CompareAndImmediateResults : Prop :=
  threeSourceAndCompareResults ∧ immediateResults

/-- How an instruction retires, and the frame of the scalar integer instructions (03 R84; 04 R109 to R117). -/
def Obligations.ScalarInstructionsChangeTheirRegister : Prop :=
  retiringMovesOn ∧ scalarFrame

end

/-! ## Control flow -/

section
open Sys2Proof Sys2Proof.Machine Sys2Proof.Claims

/-- Conditional branches (04 R118) compare all 64 bits: the target, `off` words from the branch, when the condition holds,
else the next word; a poisoned operand traps POISON_CONSUMED with the lower poisoned number as information. -/
def Obligations.ConditionalBranches : Prop :=
  ∀ (s : State) (a b : BitVec 5) (o : BitVec 13),
    let x := s.reg a
    let y := s.reg b
    let go (q : Prop) [Decidable q] : Host.Outcome State Fault Refusal :=
      .next (if q then s.jump (s.ctx.pc + 4 * o.signExtend 64) true else s.retire)
    (s.regPoison a = false → s.regPoison b = false →
      exec (.beq a b o) s = go (x = y) ∧ exec (.bne a b o) s = go (x ≠ y)
      ∧ exec (.blt a b o) s = go (x.toInt < y.toInt) ∧ exec (.bge a b o) s = go (x.toInt ≥ y.toInt)
      ∧ exec (.bltn a b o) s = go (x.toNat < y.toNat) ∧ exec (.bgen a b o) s = go (x.toNat ≥ y.toNat)
      ∧ exec (.btst a b o) s = go (x &&& y ≠ 0) ∧ exec (.btstz a b o) s = go (x &&& y = 0))
    ∧ (s.regPoison a = true ∨ s.regPoison b = true →
      ∃ n, s.regPoison n = true ∧ (n = a ∨ n = b) ∧ (∀ m, (m = a ∨ m = b) → s.regPoison m = true → n ≤ m)
        ∧ ∀ i ∈ [Instr.beq a b o, .bne a b o, .blt a b o, .bge a b o, .bltn a b o, .bgen a b o, .btst a b o, .btstz a b o],
            exec i s = .next (s.takeTrap 0x180 (n.setWidth 22) (s.ir.setWidth 64)))

/-- J and JL (04 R119): both go to PC + 4 × SignExtend(off26), and JL first writes s31 := PC + 4 with poison clear. A call
closes no level, so JL changes s31 and the PC alone (and the counts of issue), and J changes the PC alone where every open body
holds the target, and in kernel mode (the model's choice: log entry 16); `jumpsLeaveLoops` says which levels J closes otherwise. -/
def Sys2Proof.Claims.relativeJumps : Prop :=
  ∀ (s : State) (o : BitVec 26),
    let target := s.ctx.pc + 4 * o.signExtend 64
    exec (.jl o) s = .next ((s.setReg 31 (s.ctx.pc + 4) false).countIssue.setPc target)
    ∧ exec (.j o) s = .next (s.jump target true)
    ∧ (s.kernel = true ∨ (∀ lv ∈ s.ctx.loop.levels, lv.start ≤ target ∧ target ≤ lv.stop) →
        exec (.j o) s = .next (s.countIssue.setPc target))

/-- JR and JLR (04 R120): the target is read from s[a] before anything is written; poison traps POISON_CONSUMED, a target
that is no multiple of 4 traps MISALIGNED_PC with the target as TVAL; else JLR writes s[d] := PC + 4, clean, and both set
PC := s[a]. A call closes no loop level; JR outside every level moves the PC alone. The words of R120 encode `jr s31` and
`jlr s31, s5`. -/
def Obligations.RegisterJumps : Prop :=
  ∀ (s : State) (d a : BitVec 5),
    (s.regPoison a = false → (s.reg a).toNat % 4 = 0 →
      (s.ctx.loop.levels = [] → exec (.jr a) s = .next (s.countIssue.setPc (s.reg a)))
      ∧ exec (.jr a) s = .next (s.jump (s.reg a) true)
      ∧ exec (.jlr d a) s = .next ((s.setReg d (s.ctx.pc + 4) false).countIssue.setPc (s.reg a)))
    ∧ (s.regPoison a = true → ∀ i ∈ [Instr.jr a, .jlr d a],
        exec i s = .next (s.takeTrap 0x180 (a.setWidth 22) (s.ir.setWidth 64)))
    ∧ (s.regPoison a = false → (s.reg a).toNat % 4 ≠ 0 → ∀ i ∈ [Instr.jr a, .jlr d a],
        exec i s = .next (s.takeTrap 0x006 0 (s.reg a)))
    ∧ encode (.jr 31) = some 0x381F0000 ∧ encode (.jlr 31 5) = some 0x3BE50001

/-- A taken branch or jump in task mode, no LOOP.S open: it goes to its target, and closes exactly those levels that do not
hold the target and the levels inside them (04 R127). A call closes none, and neither does a kernel-mode jump, which is the model's
reading of R131 (04): log entry 16. -/
def Sys2Proof.Claims.jumpsLeaveLoops : Prop :=
  (∀ (s : State) (target : Word), s.kernel = false → s.inLoopS = false → s.ctx.loop.levels.length ≤ 4 →
    (s.jump target true).ctx.pc = target
    ∧ ∃ k, (s.jump target true).ctx.loop.levels = s.ctx.loop.levels.drop k
      ∧ (∀ lv ∈ s.ctx.loop.levels.drop k, lv.start ≤ target ∧ target ≤ lv.stop)
      ∧ (∀ n, k = n + 1 → ∃ lv, s.ctx.loop.levels[n]? = some lv ∧ (target < lv.start ∨ lv.stop < target)))
  ∧ (∀ (s : State) (target : Word) (closes : Bool), s.kernel = true ∨ closes = false →
      s.jump target closes = s.countIssue.setPc target)

/-- J and JL, and the loop levels that a taken branch or jump closes (04 R119, R127, R131; log entry 16). -/
def Obligations.RelativeJumps : Prop := relativeJumps ∧ jumpsLeaveLoops

/-- LOOP (04 R124): poison traps; kernel mode, a fifth level, an open LOOP.S and a body past the innermost end trap
LOOP_NEST with the depth; a count of 0 skips the body; else a level opens over the body and the PC enters it.
`loop s5` with an 8-word body is 0x3C05_0008. -/
def Sys2Proof.Claims.loopOpens : Prop :=
  (∀ (s : State) (a : BitVec 5) (l : BitVec 12),
    let stop := s.ctx.pc + 4 * l.setWidth 64
    let depth := s.ctx.loop.levels.length
    let nest := s.kernel = true ∨ depth = 4 ∨ s.inLoopS = true
      ∨ (∃ lv, s.ctx.loop.levels.head? = some lv ∧ lv.stop < stop)
    (s.regPoison a = true → exec (.loop a l) s = .next (s.takeTrap 0x180 (a.setWidth 22) (s.ir.setWidth 64)))
    ∧ (s.regPoison a = false → nest →
        exec (.loop a l) s = .next (s.takeTrap 0x260 (BitVec.ofNat 22 depth) (s.ir.setWidth 64)))
    ∧ (s.regPoison a = false → ¬nest → s.reg a = 0 →
        exec (.loop a l) s = .next (s.countIssue.setPc (s.ctx.pc + 4 + 4 * l.setWidth 64)))
    ∧ (s.regPoison a = false → ¬nest → s.reg a ≠ 0 →
        exec (.loop a l) s = .next (((s.setLevels
          ({ isS := false, start := s.ctx.pc + 4, stop := stop, count := s.reg a - 1, epi := 0, iter := 0, rlog := 0,
             nst := 0 } :: s.ctx.loop.levels)).countIssue).setPc (s.ctx.pc + 4))))
  ∧ encode (.loop 5 8) = some 0x3C050008

/-- LOOP.S (04 R125): poison traps POISON_CONSUMED; kernel mode, a fifth level, an open LOOP.S and a body past the innermost end
trap LOOP_NEST with the depth; then it needs an allocation that reaches v(15 + ρ), else GROUP_RANGE; a count of 0 skips the body; else it opens a
level with stages − 1 epilogue executions, VRB 0 and, of the ρ physical stage predicates, the first alone set. -/
def Sys2Proof.Claims.stagedLoopOpens : Prop :=
  ∀ (s : State) (r : BitVec 3) (a : BitVec 5) (n : BitVec 4) (l : BitVec 12),
    let rho := 2 ^ r.toNat
    let stop := s.ctx.pc + 4 * l.setWidth 64
    let depth := s.ctx.loop.levels.length
    let nest := s.kernel = true ∨ depth = 4 ∨ s.inLoopS = true
      ∨ (∃ lv, s.ctx.loop.levels.head? = some lv ∧ lv.stop < stop)
    (s.regPoison a = true → exec (.loopS r a n l) s = .next (s.takeTrap 0x180 (a.setWidth 22) (s.ir.setWidth 64)))
    ∧ (s.regPoison a = false → nest →
        exec (.loopS r a n l) s = .next (s.takeTrap 0x260 (BitVec.ofNat 22 depth) (s.ir.setWidth 64)))
    ∧ (s.regPoison a = false → ¬nest
      → (s.ctx.ctl.vCount.toNat * 4 < 16 + rho →
          exec (.loopS r a n l) s = .next (s.takeTrap 0x004 (BitVec.ofNat 22 (15 + rho)) (s.ir.setWidth 64)))
        ∧ (16 + rho ≤ s.ctx.ctl.vCount.toNat * 4 → s.reg a = 0 →
            exec (.loopS r a n l) s = .next (s.countIssue.setPc (s.ctx.pc + 4 + 4 * l.setWidth 64)))
        ∧ (16 + rho ≤ s.ctx.ctl.vCount.toNat * 4 → s.reg a ≠ 0 → ∃ t : State, exec (.loopS r a n l) s = .next t
            ∧ t.ctx.pc = s.ctx.pc + 4 ∧ t.ctx.ctl.vrb = 0
            ∧ (∀ j, j < 16 → t.ctx.sg.getLsbD j = if j = 0 then true else if j < rho then false else s.ctx.sg.getLsbD j)
            ∧ t.ctx.loop.levels
                = { isS := true, start := s.ctx.pc + 4, stop := stop, count := s.reg a - 1, epi := n.toNat, iter := 0,
                    rlog := r.toNat, nst := n.toNat } :: s.ctx.loop.levels
            ∧ t.ctx.regs = s.ctx.regs ∧ t.ctx.pois = s.ctx.pois ∧ t.core = s.core ∧ t.dev = s.dev))

/-- The end of a LOOP body in task mode (04 R126): with count left the body starts again; else the level closes, and the PC
goes on unless the next level ends at the same word. -/
def Sys2Proof.Claims.loopBodyEnds : Prop :=
  ∀ (s : State) (lv : Level) (rest : List Level), s.kernel = false → s.ctx.loop.levels = lv :: rest
    → lv.isS = false → rest.any (·.isS) = false → lv.stop = s.ctx.pc →
    (lv.count ≠ 0 → s.retire = (s.countIssue.setLevels ({ lv with count := lv.count - 1, iter := lv.iter + 1 } :: rest)).setPc
        lv.start)
    ∧ (lv.count = 0 → (∀ lw, rest.head? = some lw → lw.stop ≠ s.ctx.pc) →
        s.retire = (s.countIssue.setLevels rest).setPc (s.ctx.pc + 4))
    ∧ (lv.count = 0 → ∀ lw more, rest = lw :: more → lw.stop = s.ctx.pc → lw.count ≠ 0 →
        s.retire = (s.countIssue.setLevels ({ lw with count := lw.count - 1, iter := lw.iter + 1 } :: more)).setPc lw.start)

/-- The end of a LOOP.S body with nothing held back and nothing pending (04 R126): VRB falls by one modulo ρ, the stage
predicate it then names is set while source iterations are left and clear in the epilogue, the body starts again, and the
commit is a safe point (01 R56); after the last execution the level closes with VRB 0 and the predicates as they are. -/
def Sys2Proof.Claims.stagedLoopBodyEnds : Prop :=
  ∀ (s : State) (lv : Level) (rest : List Level), s.kernel = false → s.ctx.loop.levels = lv :: rest
    → lv.isS = true → rest.any (·.isS) = false → lv.stop = s.ctx.pc → lv.rlog ≤ 4 → s.ctx.ctl.vrb.toNat < 2 ^ lv.rlog
    → s.ctx.loop.held = [] → s.ctx.posted = [] → s.ctx.loop.release = [] → s.ctx.pendingFault = none
    → s.ctx.ctl.preq = false →
    let v := if s.ctx.ctl.vrb = 0 then BitVec.ofNat 4 (2 ^ lv.rlog - 1) else s.ctx.ctl.vrb - 1
    let t := s.retire
    t.ctx.sinceSafe = 0 ∧ t.ctx.regs = s.ctx.regs ∧ t.ctx.masks = s.ctx.masks ∧ t.core = s.core ∧ t.dev = s.dev
    ∧ (lv.count ≠ 0 → t.ctx.pc = lv.start ∧ t.ctx.ctl.vrb = v
        ∧ t.ctx.loop.levels = { lv with count := lv.count - 1, iter := lv.iter + 1 } :: rest
        ∧ (∀ j, j < 16 → t.ctx.sg.getLsbD j = if j = v.toNat then true else s.ctx.sg.getLsbD j))
    ∧ (lv.count = 0 → lv.epi ≠ 0 → t.ctx.pc = lv.start ∧ t.ctx.ctl.vrb = v
        ∧ t.ctx.loop.levels = { lv with epi := lv.epi - 1, iter := lv.iter + 1 } :: rest
        ∧ (∀ j, j < 16 → t.ctx.sg.getLsbD j = if j = v.toNat then false else s.ctx.sg.getLsbD j))
    ∧ (lv.count = 0 → lv.epi = 0 → (∀ lw, rest.head? = some lw → lw.stop ≠ s.ctx.pc) →
        t.ctx.pc = s.ctx.pc + 4 ∧ t.ctx.ctl.vrb = 0 ∧ t.ctx.loop.levels = rest ∧ t.ctx.sg = s.ctx.sg)

/-- LOOP and LOOP.S (04 R124, R125). -/
def Obligations.LoopsOpen : Prop :=
  loopOpens ∧ stagedLoopOpens

/-- The end of a body (04 R126). -/
def Obligations.LoopBodiesEnd : Prop :=
  loopBodyEnds ∧ stagedLoopBodyEnds

end

/-! ## Scalar memory -/

section
open Sys2Proof Sys2Proof.Machine Sys2Proof.Claims

/-- Loads (04 R133, R135): with clean address registers, an aligned address that can be read in memory of this device, and
nothing of the context on its way, s[d] gets the bytes there; a load to s0 makes the access and discards the value. -/
def Sys2Proof.Claims.loadResults : Prop :=
  ∀ (s s1 : State) (d a b : BitVec 5) (c : BitVec 4) (z : BitVec 2) (o : BitVec 10) (pa : Nat) (leaf : BitVec 64),
    quietMemory s1 → residency pa ≠ 3 → s.regPoison a = false →
    (∀ va, va = memVa s a z o → va.toNat % 2 ^ z.toNat = 0 → s.access va .read = .ok (s1, pa, leaf) →
      exec (.ldN d a c z o) s = loaded s1 d 1 z pa leaf va ∧ exec (.ldI d a c z o) s = loaded s1 d 0 z pa leaf va
      ∧ exec (.ldAcq d a c z o) s = loaded s1 d 1 z pa leaf va)
    ∧ (∀ va, va = memXVa s a b z → s.regPoison b = false → va.toNat % 2 ^ z.toNat = 0 →
      s.access va .read = .ok (s1, pa, leaf) →
      exec (.ldxN d a c z b) s = loaded s1 d 1 z pa leaf va ∧ exec (.ldxI d a c z b) s = loaded s1 d 0 z pa leaf va)

/-- Stores outside LOOP.S (04 R133, R135): the low 2^size bytes of s[d] go to memory with s[d]'s poison. -/
def Sys2Proof.Claims.storeResults : Prop :=
  ∀ (s s1 : State) (d a b : BitVec 5) (c : BitVec 4) (z : BitVec 2) (o : BitVec 10) (pa : Nat) (leaf : BitVec 64),
    quietMemory s1 → residency pa ≠ 3 → s.regPoison a = false → s.holding = false → s1.holding = false →
    (∀ va, va = memVa s a z o → va.toNat % 2 ^ z.toNat = 0 → s.access va .write = .ok (s1, pa, leaf) →
      exec (.st d a c z o) s = stored s1 d z pa leaf va ∧ exec (.stRel d a c z o) s = stored s1 d z pa leaf va)
    ∧ (∀ va, va = memXVa s a b z → s.regPoison b = false → va.toNat % 2 ^ z.toNat = 0 →
      s.access va .write = .ok (s1, pa, leaf) → exec (.stx d a c z b) s = stored s1 d z pa leaf va)

/-- The byte at `x` as a load of the task finds it, `b` being memory's: the newest held store that covers it gives its own; a held
RED gives nothing (04 R129). -/
def Sys2Proof.Claims.heldByte (held : List Held) (x : Nat) (b : Byte) : Byte :=
  (held.reverse.findSome? fun h => match h with
    | .post r => if r.op = none ∧ r.pa ≤ x ∧ x < r.pa + 2 ^ r.size then some (r.data.extractLsb' (8 * (x - r.pa)) 8) else none
    | _ => none).getD b

/-- A held store of poisoned data covers one of these bytes. -/
def Sys2Proof.Claims.heldPoison (held : List Held) (pa n : Nat) : Prop :=
  ∃ r : Posted, .post r ∈ held ∧ r.op = none ∧ r.poison = true ∧ r.pa < pa + n ∧ pa < r.pa + 2 ^ r.size

/-- What a load of 2^z bytes at `pa` leaves beside the stores that the task holds, once translated in `s`: s[d] gets each byte from
the newest of them that covers it, and the others from memory (04 R129, R135). -/
def Sys2Proof.Claims.loadedPast (s : State) (d : BitVec 5) (u : BitVec 1) (z : BitVec 2) (pa : Nat) (leaf : BitVec 64) (va : Word)
    (p : Bool) : Host.Outcome State Fault Refusal :=
  let rd := s.loadPhys pa (2 ^ z.toNat) leaf
  let bs := rd.2.1.zipIdx.map fun x => heldByte s.ctx.loop.held (pa + x.2) x.1
  .next (rd.1.setLoaded d (widened u (BitVec.ofNat (bits z) (leNat bs))) (rd.2.2 || p) va).retire

/-- Inside LOOP.S a store or RED is held: it joins the iteration store buffer with its translated address, its data and
poison, its class and its place in program order, and memory is as before; a 65th entry traps LOOP_STORE_OVERFLOW; and a
later load of a held store's bytes by the task, LD.N, LD.I, LD.ACQ, LDX.N or LDX.I, gets its data, whatever the classes, and the
remaining bytes from memory, while a held RED has no effect on it (04 R128, R129, R144). -/
def Obligations.HeldStores : Prop :=
  (∀ (s s1 : State) (d a b : BitVec 5) (c : BitVec 4) (z : BitVec 2) (o : BitVec 10) (pa : Nat) (leaf : BitVec 64) (p : Bool)
      (va : Word),
    s.kernel = false → s.regPoison a = false → va.toNat % 2 ^ z.toNat = 0 → s.access va .read = .ok (s1, pa, leaf) →
      residency pa ≠ 3 → s1.ctx.posted = [] → s1.ctx.cmds = [] → s1.ctx.peer = [] →
      (p = true ↔ heldPoison s1.ctx.loop.held pa (2 ^ z.toNat)) →
    (va = memVa s a z o →
      exec (.ldN d a c z o) s = loadedPast s1 d 1 z pa leaf va p ∧ exec (.ldI d a c z o) s = loadedPast s1 d 0 z pa leaf va p
      ∧ exec (.ldAcq d a c z o) s = loadedPast s1 d 1 z pa leaf va p)
    ∧ (va = memXVa s a b z → s.regPoison b = false →
      exec (.ldxN d a c z b) s = loadedPast s1 d 1 z pa leaf va p ∧ exec (.ldxI d a c z b) s = loadedPast s1 d 0 z pa leaf va p))
  ∧ (∀ (s s1 : State) (d a b : BitVec 5) (c : BitVec 4) (z : BitVec 2) (o : BitVec 10) (pa : Nat) (leaf : BitVec 64)
      (i : Instr) (va : Word),
    s.regPoison a = false → (i ∈ memStores d a c z o ∧ va = memVa s a z o ∨ i = .stx d a c z b ∧ va = memXVa s a b z ∧
      s.regPoison b = false) → va.toNat % 2 ^ z.toNat = 0 → s.holding = true →
    (64 ≤ s.ctx.loop.storeCount → exec i s = .next (s.takeTrap 0x261 64 (s.ir.setWidth 64)))
    ∧ (s.ctx.loop.storeCount < 64 → s.access va .write = .ok (s1, pa, leaf) → s1.holding = true → s1.ctx.posted = [] →
      ∃ r : Posted, r.pa = pa ∧ r.size = z.toNat ∧ r.op = none ∧ r.data = s1.reg d ∧ r.poison = s1.regPoison d
        ∧ r.cls = c ∧ r.seq = s1.ctx.postSeq ∧ r.before = s1.ctx.cmdSeq ∧ r.rel = decide (i = .stRel d a c z o)
        ∧ exec i s = .next (s1.hold (.post r)).nextPost.retire))
  ∧ (∀ (s s1 : State) (d a : BitVec 5) (c : BitVec 4) (z : BitVec 1) (p : BitVec 3) (q : BitVec 1) (pa : Nat)
      (leaf : BitVec 64), ∀ x ∈ redForms d a c z p q,
    s.regPoison a = false → (s.reg a).toNat % 2 ^ x.2.1 = 0 → s.holding = true → s1.holding = true
      → s.access (s.reg a) .atomic = .ok (s1, pa, leaf) → s1.atomicHome pa leaf = true → s1.reg a = s.reg a →
    (64 ≤ s1.ctx.loop.storeCount → exec x.2.2 s = .next (s1.takeTrap 0x261 64 (s1.ir.setWidth 64)))
    ∧ (s1.ctx.loop.storeCount < 64 → exec x.2.2 s
        = .next (s1.hold (.post (redRecord s1 x.1 d c x.2.1 p q pa leaf (s.reg a)))).nextPost.retire))
  ∧ (∀ (held : List Held) (r : Posted) (k : Nat) (b : Byte), r.op = none → k < 2 ^ r.size → r.size ≤ 3 →
      overlayByte (held ++ [.post r]) (r.pa + k) b = r.data.extractLsb' (8 * k) 8)

/-- A scalar access whose address is no multiple of its size traps MISALIGNED_DATA with the address as TVAL and the size
as information (04 R134); a poisoned address register traps POISON_CONSUMED first, with the lower poisoned number; an
address that does not translate traps as the translation says, with the address as TVAL, a store once it has its place in the
iteration store buffer (04 R128). -/
def Sys2Proof.Claims.scalarAccessTraps : Prop :=
  ∀ (s : State) (d a b : BitVec 5) (c : BitVec 4) (z : BitVec 2) (o : BitVec 10),
    let mems := memLoads d a c z o ++ memStores d a c z o
    let memxs := memXLoads d a c z b ++ [.stx d a c z b]
    (s.regPoison a = true → ∀ i ∈ mems, exec i s = .next (s.takeTrap 0x180 (a.setWidth 22) (s.ir.setWidth 64)))
    ∧ (s.regPoison a = false → (memVa s a z o).toNat % 2 ^ z.toNat ≠ 0 → ∀ i ∈ mems,
        exec i s = .next (s.takeTrap 0x181 (z.setWidth 22) (memVa s a z o)))
    ∧ (s.regPoison a = true ∨ s.regPoison b = true → ∃ n, s.regPoison n = true ∧ (n = a ∨ n = b)
        ∧ (∀ m, (m = a ∨ m = b) → s.regPoison m = true → n ≤ m)
        ∧ ∀ i ∈ memxs, exec i s = .next (s.takeTrap 0x180 (n.setWidth 22) (s.ir.setWidth 64)))
    ∧ (s.regPoison a = false → s.regPoison b = false → (memXVa s a b z).toNat % 2 ^ z.toNat ≠ 0 → ∀ i ∈ memxs,
        exec i s = .next (s.takeTrap 0x181 (z.setWidth 22) (memXVa s a b z)))
    ∧ (∀ (s1 : State) (cause : BitVec 10) (info : BitVec 22) (va : Word), s.regPoison a = false → va.toNat % 2 ^ z.toNat = 0 →
        (s.translate s.kernel va.toNat .read = (s1, .fault cause info) →
          (va = memVa s a z o → ∀ i ∈ memLoads d a c z o, exec i s = .next (s1.takeTrap cause info va))
          ∧ (va = memXVa s a b z → s.regPoison b = false →
              ∀ i ∈ memXLoads d a c z b, exec i s = .next (s1.takeTrap cause info va)))
        ∧ (s.translate s.kernel va.toNat .write = (s1, .fault cause info) → s.holding = false ∨ s.ctx.loop.storeCount < 64 →
          (va = memVa s a z o → ∀ i ∈ memStores d a c z o, exec i s = .next (s1.takeTrap cause info va))
          ∧ (va = memXVa s a b z → s.regPoison b = false → exec (.stx d a c z b) s = .next (s1.takeTrap cause info va))))

/-- Returning atomics outside LOOP.S, on memory of this device that has a home for them (04 R141 to R143, R145). -/
def Obligations.AtomicResults : Prop :=
  ∀ (s s1 : State) (d a : BitVec 5) (c : BitVec 4) (z : BitVec 1) (p : BitVec 3) (r : BitVec 2) (pa : Nat)
    (leaf : BitVec 64),
    let go (op : AtomOp) (u : BitVec 1) := atomLeaves s1 op u d (2 + z.toNat) pa leaf (s.reg a)
    quietMemory s1 → s1.atomicHome pa leaf = true → residency pa ≠ 3 → s.regPoison a = false → s.holding = false
      → s1.reg a = s.reg a → s.access (s.reg a) .atomic = .ok (s1, pa, leaf) →
      ((s.reg a).toNat % 2 ^ (2 + z.toNat) = 0 →
        exec (.atomSwap d a c z p r) s = go .swap 1 ∧ (d.toNat % 2 = 0 → exec (.atomCas d a c z p r) s = go .cas 1)
        ∧ exec (.atomAdd d a c z p r) s = go .add 1 ∧ exec (.atomAnd d a c z p r) s = go .and 1
        ∧ exec (.atomOr d a c z p r) s = go .or 1 ∧ exec (.atomXor d a c z p r) s = go .xor 1
        ∧ exec (.atomMin d a c z p r) s = go .min 0 ∧ exec (.atomMax d a c z p r) s = go .max 0
        ∧ exec (.atomMinn d a c z p r) s = go .minn 1 ∧ exec (.atomMaxn d a c z p r) s = go .maxn 1)
      ∧ ((s.reg a).toNat % 4 = 0 → exec (.atomFadd d a c p r) s = atomLeaves s1 .fadd 1 d 2 pa leaf (s.reg a))

/-- REDs outside LOOP.S (04 R141, R142, R144) retire with their operation posted, one to a peer once it can be sent
(14 R451); RED_PERFORM then carries it out: one that nothing comes before reads, computes and writes at its address, and a
poisoned line takes no write and enters an error of kind 3. -/
def Obligations.RedResults : Prop :=
  (∀ (s s1 : State) (d a : BitVec 5) (c : BitVec 4) (z : BitVec 1) (p : BitVec 3) (r : BitVec 1) (pa : Nat)
      (leaf : BitVec 64),
    ∀ x ∈ redForms d a c z p r,
    let rec_ := redRecord s1 x.1 d c x.2.1 p r pa leaf (s.reg a)
    s1.atomicHome pa leaf = true → s.regPoison a = false → s.holding = false → s1.holding = false
      → s1.reg a = s.reg a → s.access (s.reg a) .atomic = .ok (s1, pa, leaf) → (s.reg a).toNat % 2 ^ x.2.1 = 0
      → (residency pa = 3 → s1.maySend rec_ = true) →
      exec x.2.2 s = .next ((s1.post rec_).nextPost.later .redPerform).retire)
  ∧ (∀ (s : State) (r : Posted) (op : AtomOp), s.ctx.posted = [r] → s.ctx.cmds = [] → s.ctx.peer = []
      → r.op = some op → op ≠ .cas → r.size ≤ 3 → residency r.pa ≠ 3 → s.dev.noHead r.pa = false →
      let s0 : State := { s with ctx := { s.ctx with posted := [] } }
      let rd := s0.readPhys r.pa (2 ^ r.size) r.leaf
      let old : BitVec (8 * 2 ^ r.size) := BitVec.ofNat _ (leNat rd.2.1)
      let new := atomOf op old (r.data.setWidth _) 0
      exec .redPerform s = .next (if rd.2.2 then rd.1.errorEntry 3 r.va
        else rd.1.writePhys r.pa (leBytes (2 ^ r.size) new.toNat) r.leaf r.poison r.va))

/-- An atomic or RED with a poisoned address register traps POISON_CONSUMED; one at an address that is no multiple of its
size traps MISALIGNED_DATA; a returning atomic inside LOOP.S traps LOOP_ATOM; one on a page without a home traps ATOM_REGION with the residency code; a CAS of an odd register traps
ILLEGAL_GROUP (04 R130, R134, R140, R142, R143). -/
def Sys2Proof.Claims.atomicTraps : Prop :=
  ∀ (s : State) (d a : BitVec 5) (c : BitVec 4) (z : BitVec 1) (p : BitVec 3) (r : BitVec 2) (q : BitVec 1),
    let va := s.reg a
    let atoms := atomForms d a c z p r
    let all := atoms ++ (redForms d a c z p q).map (·.2)
    (s.regPoison a = true → ∀ x ∈ all, exec x.2 s = .next (s.takeTrap 0x180 (a.setWidth 22) (s.ir.setWidth 64)))
    ∧ (∀ x ∈ all, s.regPoison a = false → va.toNat % 2 ^ x.1 ≠ 0 →
      exec x.2 s = .next (s.takeTrap 0x181 (BitVec.ofNat 22 x.1) va))
    ∧ (∀ x ∈ atoms, s.regPoison a = false → va.toNat % 2 ^ x.1 = 0 → s.holding = true →
      exec x.2 s = .next (s.takeTrap 0x262 0 (s.ir.setWidth 64)))
    ∧ (∀ (s1 : State) (pa : Nat) (leaf : BitVec 64), ∀ x ∈ all, s.regPoison a = false → va.toNat % 2 ^ x.1 = 0 →
      s.holding = false → s.access va .atomic = .ok (s1, pa, leaf) → s1.atomicHome pa leaf = false →
      exec x.2 s = .next (s1.takeTrap 0x182 (BitVec.ofNat 22 (residency pa)) va))
    ∧ (d.toNat % 2 = 1 → exec (.atomCas d a c z p r) s = .next (s.takeTrap 0x003 (d.setWidth 22) (s.ir.setWidth 64)))

/-- The memory's own laws: a byte written is read back, a write of bytes leaves every other byte alone, and the canonical
form is kept; equal reads of canonical memories make equal memories. -/
def Obligations.MemoryLaws : Prop :=
  (∀ (m : Memory) (a x : Nat) (bs : List Byte), m.wf = true →
    (m.writeBytes a bs).wf = true
    ∧ (m.writeBytes a bs).read x = if a ≤ x ∧ x < a + bs.length then bs.getD (x - a) 0 else m.read x)
  ∧ (∀ m n : Memory, m.wf = true → n.wf = true → (∀ a, m.read a = n.read a) → m = n)

/-- A read through the block cache, and a load through a scalar data cache, change no byte that the device holds, as any later
access reads it, and deliver the bytes that are there; one of a memory-side page passes the caches by and delivers those of
memory (10 R328 to R330, R333; 04 R137). For a device without a lagoon. -/
def Sys2Proof.Claims.readsChangeNoByte : Prop :=
  ∀ (s : State) (pa n : Nat) (leaf : BitVec 64), plainDevice s.dev → pa % 128 + n ≤ 128 →
    ∀ rd ∈ [s.readPhys pa n leaf, s.loadPhys pa n leaf],
    (∀ x m, rd.1.dev.view x m = s.dev.view x m)
    ∧ (∀ k, k < n → rd.2.1.getD k 0
        = if s.dev.direct pa leaf then s.dev.mem.read (pa + k) else s.dev.view (pa + k) (leafPmode leaf))
    ∧ rd.2.1.length = n ∧ plainDevice rd.1.dev
    ∧ rd.1.ctx = s.ctx ∧ rd.1.core = s.core ∧ rd.1.clu = s.clu ∧ rd.1.ctxs = s.ctxs ∧ rd.1.turns = s.turns

/-- A write through the block cache puts its bytes where any later access of the device reads them, and changes no other
byte; one of a memory-side page, of which no cache holds a line, does so in memory (04 R135, R137; 10 R328 to R330, R333). -/
def Sys2Proof.Claims.writesChangeTheirBytes : Prop :=
  ∀ (s : State) (pa : Nat) (bs : List Byte) (leaf : BitVec 64) (p : Bool) (va : Word),
    plainDevice s.dev → pa % 128 + bs.length ≤ 128 → s.dev.poolGone pa = false →
      (s.dev.direct pa leaf = true → s.dev.lineAt pa = none) →
    let t := s.writePhys pa bs leaf p va
    (∀ x m, t.dev.view x m = if pa ≤ x ∧ x < pa + bs.length then bs.getD (x - pa) 0 else s.dev.view x m)
    ∧ plainDevice t.dev ∧ t.ctx = s.ctx ∧ t.core = s.core ∧ t.clu = s.clu ∧ t.ctxs = s.ctxs

/-- The frame of loads and stores outside LOOP.S (04 R135), after their translation: a store leaves every register, mask
and control register as it was, and every byte outside the 2^size it stores to at the translated address reads as before;
a load changes its destination alone, and no byte. -/
def Obligations.LoadAndStoreFrame : Prop :=
  ∀ (s s1 t : State) (d a b : BitVec 5) (c : BitVec 4) (z : BitVec 2) (o : BitVec 10) (pa : Nat) (leaf : BitVec 64)
    (va : Word) (i : Instr),
    quietMemory s1 → residency pa ≠ 3 → s.regPoison a = false → va.toNat % 2 ^ z.toNat = 0
      → pa % 2 ^ z.toNat = 0 → s.inLoopS = false → s1.inLoopS = false → plainDevice s1.dev → s1.dev.poolGone pa = false
      → exec i s = .next t →
    (s.access va .write = .ok (s1, pa, leaf) → (i ∈ memStores d a c z o ∧ va = memVa s a z o
        ∨ i = .stx d a c z b ∧ va = memXVa s a b z ∧ s.regPoison b = false) →
      t.ctx.regs = s1.ctx.regs ∧ t.ctx.pois = s1.ctx.pois ∧ t.ctx.masks = s1.ctx.masks ∧ t.ctx.ctl = s1.ctx.ctl
      ∧ t.core = s1.core ∧ t.ctxs = s1.ctxs
      ∧ ∀ x m, ¬(pa ≤ x ∧ x < pa + 2 ^ z.toNat) → t.dev.view x m = s1.dev.view x m)
    ∧ (s.access va .read = .ok (s1, pa, leaf) → (i ∈ memLoads d a c z o ∧ va = memVa s a z o
        ∨ i ∈ memXLoads d a c z b ∧ va = memXVa s a b z ∧ s.regPoison b = false) →
      (∀ n, n ≠ d → t.reg n = s1.reg n ∧ t.regPoison n = s1.regPoison n)
      ∧ t.ctx.masks = s1.ctx.masks ∧ t.ctx.ctl = s1.ctx.ctl ∧ t.core = s1.core ∧ t.ctxs = s1.ctxs
      ∧ ∀ x m, t.dev.view x m = s1.dev.view x m)

/-- Scalar loads and stores outside LOOP.S (04 R133, R135). -/
def Obligations.LoadAndStoreResults : Prop :=
  loadResults ∧ storeResults

/-- Where scalar accesses and atomics trap (04 R130, R134, R135, R140 to R143). -/
def Obligations.ScalarMemoryTraps : Prop :=
  scalarAccessTraps ∧ atomicTraps

/-- The caches are transparent: reads change no byte, writes theirs alone (10 R328 to R330; 04 R137). -/
def Obligations.CachedAccessesAreTransparent : Prop :=
  readsChangeNoByte ∧ writesChangeTheirBytes

end

/-! ## The vector pipe -/

section
open Sys2Proof Sys2Proof.Machine Sys2Proof.Claims

/-- Vector float arithmetic in binary32, bfloat16 and binary16 (05 R154): each lane is the exact result rounded once. -/
def Obligations.VectorFloatArithmetic : Prop :=
  ∀ (s : State) (d a b : BitVec 5) (m : BitVec 3) (t : BitVec 4), t = 1 ∨ t = 2 ∨ t = 3 →
    d.toNat < 4 * s.ctx.ctl.vCount.toNat → holds s t a → holds s t b →
    let x (k j : Nat) := fin s t (lane s t a k j)
    let y (k j : Nat) := fin s t (lane s t b k j)
    let z (k j : Nat) := fin s t (lane s t d k j)
    let two (i : BitVec 4 × Instr) (f : Nat → Nat → FVal) : Prop :=
      i.1 = t → lanesAre s i.2 t [d, a, b] d m fun k j => fout s t (f k j)
    let one (i : BitVec 4 × Instr) (f : Nat → Nat → FVal) : Prop :=
      i.1 = t → lanesAre s i.2 t [d, a] d m fun k j => fout s t (f k j)
    (∀ i ∈ [(1, Instr.vaddF32 d a b m), (2, .vaddBf16 d a b m), (3, .vaddF16 d a b m)],
        two i fun k j => (x k j).add s.roundsDown (y k j))
      ∧ (∀ i ∈ [(1, Instr.vsubF32 d a b m), (2, .vsubBf16 d a b m), (3, .vsubF16 d a b m)],
        two i fun k j => (x k j).add s.roundsDown (y k j).neg)
      ∧ (∀ i ∈ [(1, Instr.vmulF32 d a b m), (2, .vmulBf16 d a b m), (3, .vmulF16 d a b m)],
        two i fun k j => (x k j).mul (y k j))
      ∧ (∀ i ∈ [(1, Instr.vfmaF32 d a b m), (2, .vfmaBf16 d a b m), (3, .vfmaF16 d a b m)],
        holds s t d → two i fun k j => (z k j).add s.roundsDown ((x k j).mul (y k j)))
      ∧ (∀ i ∈ [(1, Instr.vminF32 d a b m), (2, .vminBf16 d a b m), (3, .vminF16 d a b m)],
        two i fun k j => (x k j).min (y k j))
      ∧ (∀ i ∈ [(1, Instr.vmaxF32 d a b m), (2, .vmaxBf16 d a b m), (3, .vmaxF16 d a b m)],
        two i fun k j => (x k j).max (y k j))
      ∧ (∀ i ∈ [(1, Instr.vabsF32 d a m), (2, .vabsBf16 d a m), (3, .vabsF16 d a m)], one i fun k j => (x k j).abs)
      ∧ (∀ i ∈ [(1, Instr.vnegF32 d a m), (2, .vnegBf16 d a m), (3, .vnegF16 d a m)], one i fun k j => (x k j).neg)

/-- Vector compares (05 R153, R155, R156): an element is 1 only when the condition holds in each of its lanes. -/
def Obligations.VectorCompares : Prop :=
  ∀ (s : State) (d a b : BitVec 5) (m : BitVec 3) (t : BitVec 4),
    d.toNat < 4 * s.ctx.ctl.vCount.toNat → holds s t a → holds s t b →
    let all (f : Nat → Nat → Bool) (k : Nat) : Bool :=
      (List.range (tagLanes t)).all fun j => f (lane s t a k j) (lane s t b k j)
    let w := laneWidth t
    let sg (v : Nat) : Int := (BitVec.ofNat w v).toInt
    let go (i : BitVec 4 × Instr) (f : Nat → Nat → Bool) : Prop :=
      i.1 = t → truthsAre s i.2 [d, a, b] d m (all f)
    (∀ i ∈ [(1, Instr.vcmpEqF32 d a b m), (2, .vcmpEqBf16 d a b m), (3, .vcmpEqF16 d a b m)],
        go i fun x y => (fin s t x).eq (fin s t y))
      ∧ (∀ i ∈ [(1, Instr.vcmpNeF32 d a b m), (2, .vcmpNeBf16 d a b m), (3, .vcmpNeF16 d a b m)],
        go i fun x y => !(fin s t x).eq (fin s t y))
      ∧ (∀ i ∈ [(1, Instr.vcmpLtF32 d a b m), (2, .vcmpLtBf16 d a b m), (3, .vcmpLtF16 d a b m)],
        go i fun x y => (fin s t x).lt (fin s t y))
      ∧ (∀ i ∈ [(1, Instr.vcmpLeF32 d a b m), (2, .vcmpLeBf16 d a b m), (3, .vcmpLeF16 d a b m)],
        go i fun x y => (fin s t x).lt (fin s t y) || (fin s t x).eq (fin s t y))
      ∧ (∀ i ∈ [(4, Instr.vcmpEqI32 d a b m), (5, .vcmpEqI16 d a b m), (6, .vcmpEqI8 d a b m)],
        go i fun x y => decide (x = y))
      ∧ (∀ i ∈ [(4, Instr.vcmpNeI32 d a b m), (5, .vcmpNeI16 d a b m), (6, .vcmpNeI8 d a b m)],
        go i fun x y => decide (x ≠ y))
      ∧ (∀ i ∈ [(4, Instr.vcmpLtI32 d a b m), (5, .vcmpLtI16 d a b m), (6, .vcmpLtI8 d a b m)],
        go i fun x y => decide (sg x < sg y))
      ∧ (∀ i ∈ [(4, Instr.vcmpLeI32 d a b m), (5, .vcmpLeI16 d a b m), (6, .vcmpLeI8 d a b m)],
        go i fun x y => decide (sg x ≤ sg y))
      ∧ (∀ i ∈ [(4, Instr.vcmpLtnI32 d a b m), (5, .vcmpLtnI16 d a b m), (6, .vcmpLtnI8 d a b m)],
        go i fun x y => decide (x < y))
      ∧ (∀ i ∈ [(4, Instr.vcmpLenI32 d a b m), (5, .vcmpLenI16 d a b m), (6, .vcmpLenI8 d a b m)],
        go i fun x y => decide (x ≤ y))

/-- Vector integer arithmetic on lanes of 32, 16 and 8 bits (05 R156, R157), lane by lane as bit vectors. -/
def Sys2Proof.Claims.vectorIntegerArithmetic : Prop :=
  ∀ (s : State) (d a b : BitVec 5) (m : BitVec 3) (t : BitVec 4), t = 4 ∨ t = 5 ∨ t = 6 →
    d.toNat < 4 * s.ctx.ctl.vCount.toNat → holds s t a → holds s t b →
    let w := laneWidth t
    let x (k j : Nat) : BitVec w := BitVec.ofNat w (lane s t a k j)
    let y (k j : Nat) : BitVec w := BitVec.ofNat w (lane s t b k j)
    let z (k j : Nat) : BitVec w := BitVec.ofNat w (lane s t d k j)
    let two (i : BitVec 4 × Instr) (f : Nat → Nat → BitVec w) : Prop :=
      i.1 = t → lanesAre s i.2 t [d, a, b] d m fun k j => (f k j).toNat
    let one (i : BitVec 4 × Instr) (f : Nat → Nat → BitVec w) : Prop :=
      i.1 = t → lanesAre s i.2 t [d, a] d m fun k j => (f k j).toNat
    (∀ i ∈ [(4, Instr.vaddI32 d a b m), (5, .vaddI16 d a b m), (6, .vaddI8 d a b m)], two i fun k j => x k j + y k j)
      ∧ (∀ i ∈ [(4, Instr.vsubI32 d a b m), (5, .vsubI16 d a b m), (6, .vsubI8 d a b m)],
        two i fun k j => x k j - y k j)
      ∧ (∀ i ∈ [(4, Instr.vmulI32 d a b m), (5, .vmulI16 d a b m), (6, .vmulI8 d a b m)],
        two i fun k j => x k j * y k j)
      ∧ (∀ i ∈ [(4, Instr.vmadI32 d a b m), (5, .vmadI16 d a b m), (6, .vmadI8 d a b m)],
        holds s t d → two i fun k j => z k j + x k j * y k j)
      ∧ (∀ i ∈ [(4, Instr.vminI32 d a b m), (5, .vminI16 d a b m), (6, .vminI8 d a b m)],
        two i fun k j => if (y k j).slt (x k j) then y k j else x k j)
      ∧ (∀ i ∈ [(4, Instr.vmaxI32 d a b m), (5, .vmaxI16 d a b m), (6, .vmaxI8 d a b m)],
        two i fun k j => if (x k j).slt (y k j) then y k j else x k j)
      ∧ (∀ i ∈ [(4, Instr.vminnI32 d a b m), (5, .vminnI16 d a b m), (6, .vminnI8 d a b m)],
        two i fun k j => if (y k j).ult (x k j) then y k j else x k j)
      ∧ (∀ i ∈ [(4, Instr.vmaxnI32 d a b m), (5, .vmaxnI16 d a b m), (6, .vmaxnI8 d a b m)],
        two i fun k j => if (x k j).ult (y k j) then y k j else x k j)
      ∧ (∀ i ∈ [(4, Instr.vabsI32 d a m), (5, .vabsI16 d a m), (6, .vabsI8 d a m)], one i fun k j => (x k j).abs)
      ∧ (∀ i ∈ [(4, Instr.vnegI32 d a m), (5, .vnegI16 d a m), (6, .vnegI8 d a m)], one i fun k j => -(x k j))

/-- Vector logic, shifts and saturating sums on lanes of 32, 16 and 8 bits (05 R156, R157). -/
def Sys2Proof.Claims.vectorLogicShiftsAndSaturation : Prop :=
  ∀ (s : State) (d a b : BitVec 5) (m : BitVec 3) (t : BitVec 4), t = 4 ∨ t = 5 ∨ t = 6 →
    d.toNat < 4 * s.ctx.ctl.vCount.toNat → holds s t a → holds s t b →
    let w := laneWidth t
    let x (k j : Nat) : BitVec w := BitVec.ofNat w (lane s t a k j)
    let y (k j : Nat) : BitVec w := BitVec.ofNat w (lane s t b k j)
    let n (k j : Nat) : Nat := (y k j).toNat % w
    let sat (v : Int) : BitVec w := BitVec.ofInt w (max (-(2 ^ (w - 1))) (min (2 ^ (w - 1) - 1) v))
    let satn (v : Int) : BitVec w := BitVec.ofInt w (max 0 (min (2 ^ w - 1) v))
    let two (i : BitVec 4 × Instr) (f : Nat → Nat → BitVec w) : Prop :=
      i.1 = t → lanesAre s i.2 t [d, a, b] d m fun k j => (f k j).toNat
    (∀ i ∈ [(4, Instr.vandI32 d a b m), (5, .vandI16 d a b m), (6, .vandI8 d a b m)],
        two i fun k j => x k j &&& y k j)
      ∧ (∀ i ∈ [(4, Instr.vorI32 d a b m), (5, .vorI16 d a b m), (6, .vorI8 d a b m)],
        two i fun k j => x k j ||| y k j)
      ∧ (∀ i ∈ [(4, Instr.vxorI32 d a b m), (5, .vxorI16 d a b m), (6, .vxorI8 d a b m)],
        two i fun k j => x k j ^^^ y k j)
      ∧ (∀ i ∈ [(4, Instr.vshlI32 d a b m), (5, .vshlI16 d a b m), (6, .vshlI8 d a b m)],
        two i fun k j => x k j <<< n k j)
      ∧ (∀ i ∈ [(4, Instr.vshrI32 d a b m), (5, .vshrI16 d a b m), (6, .vshrI8 d a b m)],
        two i fun k j => x k j >>> n k j)
      ∧ (∀ i ∈ [(4, Instr.vsraI32 d a b m), (5, .vsraI16 d a b m), (6, .vsraI8 d a b m)],
        two i fun k j => (x k j).sshiftRight (n k j))
      ∧ (∀ i ∈ [(4, Instr.vaddSatI32 d a b m), (5, .vaddSatI16 d a b m), (6, .vaddSatI8 d a b m)],
        two i fun k j => sat ((x k j).toInt + (y k j).toInt))
      ∧ (∀ i ∈ [(4, Instr.vsubSatI32 d a b m), (5, .vsubSatI16 d a b m), (6, .vsubSatI8 d a b m)],
        two i fun k j => sat ((x k j).toInt - (y k j).toInt))
      ∧ (∀ i ∈ [(4, Instr.vaddnSatI32 d a b m), (5, .vaddnSatI16 d a b m), (6, .vaddnSatI8 d a b m)],
        two i fun k j => satn ((x k j).toNat + (y k j).toNat))
      ∧ (∀ i ∈ [(4, Instr.vsubnSatI32 d a b m), (5, .vsubnSatI16 d a b m), (6, .vsubnSatI8 d a b m)],
        two i fun k j => satn ((x k j).toNat - (y k j).toNat))

/-- Reductions (05 R158, 02 R78): the pairwise tree over each row or column, with the identity where the mask is 0. -/
def Obligations.VectorReductions : Prop :=
  ∀ (s : State) (d a : BitVec 5) (m : BitVec 3) (x : BitVec 2) (t : BitVec 4), x = 1 ∨ x = 2 →
    d.toNat < 4 * s.ctx.ctl.vCount.toNat → holds s t a →
    let w := laneWidth t
    let f (op : FVal → FVal → FVal) (p q : Nat) : Nat := fout s t (op (fin s t p) (fin s t q))
    let sg (v : Nat) : Int := (BitVec.ofNat w v).toInt
    (∀ i ∈ [(1, Instr.vredSumF32 d a m x, 0x80000000), (2, .vredSumBf16 d a m x, 0x8000), (3, .vredSumF16 d a m x, 0x8000)],
      i.1 = t → reducesTo s i.2.1 t d a m x i.2.2 (f fun p q => p.add s.roundsDown q))
    ∧ (∀ i ∈ [(1, Instr.vredMaxF32 d a m x, 0xFF800000), (2, .vredMaxBf16 d a m x, 0xFF80), (3, .vredMaxF16 d a m x, 0xFC00)],
      i.1 = t → reducesTo s i.2.1 t d a m x i.2.2 (f fun p q => p.max q))
    ∧ (∀ i ∈ [(1, Instr.vredMinF32 d a m x, 0x7F800000), (2, .vredMinBf16 d a m x, 0x7F80), (3, .vredMinF16 d a m x, 0x7C00)],
      i.1 = t → reducesTo s i.2.1 t d a m x i.2.2 (f fun p q => p.min q))
    ∧ (∀ i ∈ [(4, Instr.vredSumI32 d a m x), (5, .vredSumI16 d a m x), (6, .vredSumI8 d a m x)],
      i.1 = t → reducesTo s i.2 t d a m x 0 fun p q => (p + q) % 2 ^ w)
    ∧ (∀ i ∈ [(4, Instr.vredMaxI32 d a m x), (5, .vredMaxI16 d a m x), (6, .vredMaxI8 d a m x)],
      i.1 = t → reducesTo s i.2 t d a m x (2 ^ (w - 1)) fun p q => if sg p < sg q then q else p)
    ∧ (∀ i ∈ [(4, Instr.vredMinI32 d a m x), (5, .vredMinI16 d a m x), (6, .vredMinI8 d a m x)],
      i.1 = t → reducesTo s i.2 t d a m x (2 ^ (w - 1) - 1) fun p q => if sg q < sg p then q else p)

/-- Conversions (05 R159, R160; 02 R67): VCVT takes source lane j mod L_s; VCVT.P packs two registers, or takes the upper
lanes of one. -/
def Sys2Proof.Claims.vectorConversions : Prop :=
  ∀ (s : State) (d a b : BitVec 5) (m : BitVec 3) (t src : BitVec 4), d.toNat < 4 * s.ctx.ctl.vCount.toNat →
    holds s src a → holds s src b →
    let ls := tagLanes src
    let lt := tagLanes t
    (∀ i ∈ [(1, Instr.vcvtF32 d a m), (2, .vcvtBf16 d a m), (3, .vcvtF16 d a m), (4, .vcvtI32 d a m), (5, .vcvtI16 d a m),
        (6, .vcvtI8 d a m), (7, .vcvtE4m3 d a m), (8, .vcvtE5m2 d a m)],
      i.1 = t → lanesAre s i.2 t [d, a] d m fun k j => convLane s.modes src t (lane s src a k (j % ls)))
    ∧ (∀ i ∈ [(1, Instr.vcvtPF32 d a b m), (2, .vcvtPBf16 d a b m), (3, .vcvtPF16 d a b m), (4, .vcvtPI32 d a b m),
        (5, .vcvtPI16 d a b m), (6, .vcvtPI8 d a b m), (7, .vcvtPE4m3 d a b m), (8, .vcvtPE5m2 d a b m)],
      i.1 = t → lanesAre s i.2 t [d, a, b] d m fun k j => convLane s.modes src t
        (if ls < lt then lane s src (if j < lt / 2 then a else b) k (j % (lt / 2) % ls) else lane s src a k ((j + lt) % ls)))

/-- The special functions (05 R161) work on binary32 lanes, and give the values of table Special function values for every
mode: NaN, −∞, −1, −0, +0 and +∞, in that order. -/
def Sys2Proof.Claims.specialFunctions : Prop :=
  (∀ (s : State) (d a : BitVec 5) (m : BitVec 3), d.toNat < 4 * s.ctx.ctl.vCount.toNat → holds s 1 a →
    ∀ i ∈ [(exp2Val, Instr.vexp2 d a m), (log2Val, .vlog2 d a m), (recipVal, .vrcp d a m), (rsqrtVal, .vrsq d a m),
        (tanhVal, .vtanh d a m), (siluVal, .vsilu d a m)],
      lanesAre s i.2 1 [d, a] d m fun k j => fout s 1 (i.1 (fin s 1 (lane s 1 a k j))))
  ∧ (∀ s : State,
    let at_ (f : FVal → FVal) : List Nat :=
      [0x7FC00000, 0xFF800000, 0xBF800000, 0x80000000, 0, 0x7F800000].map fun b => fout s 1 (f (fin s 1 b))
    at_ exp2Val = [0x7FC00000, 0, 0x3F000000, 0x3F800000, 0x3F800000, 0x7F800000]
    ∧ at_ log2Val = [0x7FC00000, 0x7FC00000, 0x7FC00000, 0xFF800000, 0xFF800000, 0x7F800000]
    ∧ at_ recipVal = [0x7FC00000, 0x80000000, 0xBF800000, 0xFF800000, 0x7F800000, 0]
    ∧ at_ rsqrtVal = [0x7FC00000, 0x7FC00000, 0x7FC00000, 0xFF800000, 0x7F800000, 0]
    ∧ (at_ tanhVal).set 2 0 = [0x7FC00000, 0xBF800000, 0, 0x80000000, 0, 0x3F800000]
    ∧ (at_ siluVal).set 2 0 = [0x7FC00000, 0x80000000, 0, 0x80000000, 0, 0x7F800000])

/-- Axis operations, moves, splats, single elements and VSEL (05 R162, R163, R165). -/
def Obligations.VectorMoves : Prop :=
  ∀ (s : State) (d a b : BitVec 5) (m : BitVec 3) (t u : BitVec 4), d.toNat < 4 * s.ctx.ctl.vCount.toNat →
    holds s t a →
    let all (i : Instr) (regs : List (BitVec 5)) (tag : BitVec 4) (f : Nat → Elem) : Prop :=
      ∃ out : List Elem, out.length = 1024 ∧ (∀ e, e < 1024 → out.getD e 0 = f e)
        ∧ exec i s = .next ((s.wake regs).vwrite d out tag false).retire
    let masked (i : Instr) (regs : List (BitVec 5)) (tag : BitVec 4) (p : Bool) (f : Nat → Elem) : Prop :=
      ∃ out : List Elem, out.length = 1024 ∧ (∀ e, e < 1024 → out.getD e 0 = f e)
        ∧ exec i s = .next ((s.wake regs).vwriteMasked d m out tag p).retire
    let img (w : Nat) (x : Word) : Elem := (List.range (32 / w)).foldl (fun acc j => acc ||| (x.setWidth 32 &&& (BitVec.allOnes 32 >>> (32 - w))) <<< (w * j)) 0
    (∀ k : BitVec 6,
      all (.vrot d a k 1) [d, a] t (fun e => elem s a (e / 64 * 64 + (e % 64 + k.toNat) % 64))
      ∧ (k.toNat < 16 → all (.vrot d a k 2) [d, a] t (fun e => elem s a ((e / 64 + k.toNat) % 16 * 64 + e % 64)))
      ∧ all (.vbcast d a k 1) [d, a] t (fun e => elem s a (e / 64 * 64 + k.toNat))
      ∧ (k.toNat < 16 → all (.vbcast d a k 2) [d, a] t (fun e => elem s a (k.toNat * 64 + e % 64))))
    ∧ masked (.vmov d a m) [d, a] t false (elem s a)
    ∧ masked (.vidx d m) [d] 0x4 false (fun e => BitVec.ofNat 32 e)
    ∧ (∀ g : BitVec 5,
      masked (.vsplatF32 d g m) [d] 0x1 (s.regPoison g) (fun _ => img 32 (s.reg g))
      ∧ masked (.vsplatI32 d g m) [d] 0x4 (s.regPoison g) (fun _ => img 32 (s.reg g))
      ∧ masked (.vsplatBf16 d g m) [d] 0x2 (s.regPoison g) (fun _ => img 16 (s.reg g))
      ∧ masked (.vsplatF16 d g m) [d] 0x3 (s.regPoison g) (fun _ => img 16 (s.reg g))
      ∧ masked (.vsplatI16 d g m) [d] 0x5 (s.regPoison g) (fun _ => img 16 (s.reg g))
      ∧ masked (.vsplatI8 d g m) [d] 0x6 (s.regPoison g) (fun _ => img 8 (s.reg g))
      ∧ masked (.vsplatE4m3 d g m) [d] 0x7 (s.regPoison g) (fun _ => img 8 (s.reg g))
      ∧ masked (.vsplatE5m2 d g m) [d] 0x8 (s.regPoison g) (fun _ => img 8 (s.reg g))
      ∧ masked (.vsplatMask d g m) [d] 0x9 (s.regPoison g) (fun _ => if s.reg g = 0 then 0 else 1))
    ∧ (∀ g n : BitVec 5, s.regPoison n = false →
      exec (.vget g a n) s = .next ((s.wake [a]).setReg g ((elem s a ((s.reg n).toNat % 1024)).setWidth 64) false).retire
      ∧ (holds s u d → ∃ out : List Elem, out.length = 1024
        ∧ (∀ e, e < 1024 → out.getD e 0 = if e = (s.reg n).toNat % 1024 then (s.reg g).setWidth 32 else elem s d e)
        ∧ exec (.vsete d g n) s = .next ((s.wake [d]).vwrite d out u (s.regPoison g)).retire))
    ∧ (holds s t b → all (.vsel d a b m) [d, a, b] t
        (fun e => if (s.mask m).getLsbD e then elem s a e else elem s b e))

/-- Element masks (05 R164, 01 R30): m0 reads as all ones and discards a write. -/
def Obligations.MaskInstructions : Prop :=
  ∀ (s : State) (d a b : BitVec 3),
    s.mask 0 = BitVec.allOnes 1024 ∧ (∀ v, s.setMask 0 v = s)
    ∧ (∀ v, d ≠ 0 → (s.setMask d v).mask d = v ∧ ∀ e, e ≠ d → (s.setMask d v).mask e = s.mask e)
    ∧ exec (.mand d a b) s = .next (s.setMask d (s.mask a &&& s.mask b)).retire
    ∧ exec (.mor d a b) s = .next (s.setMask d (s.mask a ||| s.mask b)).retire
    ∧ exec (.mxor d a b) s = .next (s.setMask d (s.mask a ^^^ s.mask b)).retire
    ∧ exec (.mandn d a b) s = .next (s.setMask d (s.mask a &&& ~~~(s.mask b))).retire
    ∧ exec (.mnot d a) s = .next (s.setMask d (~~~(s.mask a))).retire
    ∧ (∀ g : BitVec 5, exec (.mpopc g a) s
        = .next (s.setReg g (BitVec.ofNat 64 ((List.range 1024).countP fun e => (s.mask a).getLsbD e)) false).retire)
    ∧ (∀ v : BitVec 5, v.toNat < 4 * s.ctx.ctl.vCount.toNat → ∃ out : List Elem, out.length = 1024
        ∧ (∀ e, e < 1024 → out.getD e 0 = if (s.mask a).getLsbD e then 1 else 0)
        ∧ exec (.mtov v a) s = .next ((s.wake [v]).vwrite v out 0x9 false).retire)
    ∧ (∀ v : BitVec 5, holds s 4 v → ∃ k : BitVec 1024, (∀ e, e < 1024 → k.getLsbD e = (elem s v e != 0))
        ∧ exec (.mfromv d v) s = .next ((s.wake [v]).setMask d k).retire)

/-- Writing a vector register (01 R24, R26, R27; 05 R151, R152): vd gets the tag, or POISON for a poisoned result; with a
mask, elements it leaves out keep vd's contents read in the result's tag, and a POISON vd makes the result POISON; no other
vector register, and nothing else of the machine, changes, and outside LOOP.S no journal entry is made (13 R411). -/
def Sys2Proof.Claims.vectorWriteBack : Prop :=
  ∀ (s : State) (d : BitVec 5) (m : BitVec 3) (out : List Elem) (t : BitVec 4) (p : Bool),
    s.holding = false → s.vphys d < 32 → out.length = 1024 → (s.vreg d).data.length = 1024 →
    let v := s.vwriteMasked d m out t p
    (∀ e, e < 1024 → (s.mask m).getLsbD e = true → (v.vreg d).data.getD e 0 = out.getD e 0)
    ∧ (m ≠ 0 → (s.vreg d).tag = t → t ≠ 0x0 → ∀ e, e < 1024 → (s.mask m).getLsbD e = false →
        (v.vreg d).data.getD e 0 = (s.vreg d).data.getD e 0)
    ∧ (m ≠ 0 → (s.vreg d).tag = 0x0 → ∀ e, e < 1024 → (s.mask m).getLsbD e = false →
        t = 0x4 → (v.vreg d).data.getD e 0 = 0)
    ∧ (v.vreg d).tag = (if p || (decide (m ≠ 0) && decide ((s.vreg d).tag = 0xE)) then 0xE else t)
    ∧ (v.vreg d).data.length = 1024
    ∧ (∀ k, k ≠ s.vphys d → v.core.vregs.toList.getD k VReg.gated = s.core.vregs.toList.getD k VReg.gated)
    ∧ v.ctx = s.ctx ∧ v.dev = s.dev ∧ v.core.spad = s.core.spad ∧ v.core.tiles = s.core.tiles ∧ v.ctxs = s.ctxs

/-- The traps of vector operands (05 R150, 01 R25, 02 R67): a register at or past the allocation traps GROUP_RANGE with
the first such number; under FMODE.TAGTRAP a VOID source traps TAG_VOID and another tag TAG_MISMATCH; a poisoned index of
VGET, and a POISON source of MFROMV, trap POISON_CONSUMED. -/
def Sys2Proof.Claims.vectorOperandTraps : Prop :=
  ∀ (s : State) (d a b : BitVec 5) (m : BitVec 3),
    let inside (n : BitVec 5) : Prop := n.toNat < 4 * s.ctx.ctl.vCount.toNat
    let trap (c : BitVec 10) (info : Nat) : Host.Outcome State Fault Refusal :=
      .next (s.takeTrap c (BitVec.ofNat 22 info) (s.ir.setWidth 64))
    (∀ i ∈ [Instr.vaddF32 d a b m, .vaddI16 d a b m, .vfmaBf16 d a b m, .vcmpLtI8 d a b m, .vsel d a b m],
      (¬inside d → exec i s = trap 0x004 d.toNat)
      ∧ (inside d → ¬inside a → exec i s = trap 0x004 a.toNat)
      ∧ (inside d → inside a → ¬inside b → exec i s = trap 0x004 b.toNat))
    ∧ (inside d → inside a → inside b → s.ctx.ctl.fmode.getLsbD 7 = true →
      (s.vtag a = 0x0 → exec (.vaddF32 d a b m) s = trap 0x081 (32 + a.toNat))
      ∧ (s.vtag a ≠ 0x0 → s.vtag a ≠ 0x1 → s.vtag a ≠ 0xE →
        exec (.vaddF32 d a b m) s = trap 0x080 (0x1 * 2 ^ 10 + (s.vtag a).toNat * 2 ^ 6 + 32 + a.toNat)))
    ∧ (inside a → s.regPoison b = true → exec (.vget d a b) s = trap 0x180 b.toNat)
    ∧ (inside a → s.vtag a = 0xE → exec (.mfromv m a) s = trap 0x180 (32 + a.toNat))

/-- A POISON source makes the result POISON and never traps on its tag, whatever FMODE.TAGTRAP holds: where TAGTRAP is 1, the other
sources fit the tag that the instruction expects, or are POISON themselves (05 R152, R499; 01 R26). A conversion, a pack, a move and a
selection take a POISON source's bits unconverted. -/
def Sys2Proof.Claims.vectorPoisonSpreads : Prop :=
  ∀ (s : State) (d a b : BitVec 5) (m : BitVec 3) (x : BitVec 2),
    let poison (n : BitVec 5) : Prop := s.vtag n = 0xE
    let fits (t : BitVec 4) (n : BitVec 5) : Prop := s.ctx.ctl.fmode.getLsbD 7 = false ∨ s.vtag n = t ∨ poison n
    let masked (i : Instr) (regs : List (BitVec 5)) (t : BitVec 4) (out : List Elem) : Prop :=
      exec i s = .next ((s.wake regs).vwriteMasked d m out t true).retire
    let whole (i : Instr) (regs : List (BitVec 5)) (t : BitVec 4) (out : List Elem) : Prop :=
      exec i s = .next ((s.wake regs).vwrite d out t true).retire
    let holdsOf (out : List Elem) (f : Nat → Elem) : Prop := out.length = 1024 ∧ ∀ e, e < 1024 → out.getD e 0 = f e
    (∀ n, n = d ∨ n = a ∨ n = b → n.toNat < 4 * s.ctx.ctl.vCount.toNat ∧ (s.vreg n).data.length = 1024) →
    (∀ i ∈ vectorTwo d a b m, fits i.1 a → fits i.1 b → poison a ∨ poison b → ∃ out, masked i.2 [d, a, b] i.1 out)
    ∧ (∀ i ∈ vectorCompares d a b m, fits i.1 a → fits i.1 b → poison a ∨ poison b → ∃ out, masked i.2 [d, a, b] 0x9 out)
    ∧ (∀ i ∈ vectorThree d a b m, fits i.1 a → fits i.1 b → fits i.1 d → poison a ∨ poison b ∨ poison d →
        ∃ out, whole i.2 [d, a, b] i.1 out)
    ∧ (∀ i ∈ vectorOne d a m, poison a → ∃ out, masked i.2 [d, a] i.1 out)
    ∧ (∀ i ∈ vectorReductions d a m x, poison a → ∃ out, whole i.2 [d, a] i.1 out)
    ∧ (∀ i ∈ vectorConverts d a m, poison a → ∃ out, holdsOf out (elem s a) ∧ masked i.2 [d, a] i.1 out)
    ∧ (∀ i ∈ vectorPacks d a b m,
        (poison a → ∃ out, holdsOf out (elem s a) ∧ masked i.2 [d, a, b] i.1 out)
        ∧ (poison b → s.vtag a ≠ 0x0 → ¬poison a → tagLanes (s.vtag a) < tagLanes i.1 → ∃ out, masked i.2 [d, a, b] i.1 out))
    ∧ (poison a → ∃ out, holdsOf out (fun e => if (s.mask m).getLsbD e then elem s a e else (s.vreg b).image.getD e 0)
        ∧ whole (.vsel d a b m) [d, a, b] 0xE out)
    ∧ (poison b → s.vtag a ≠ 0x0 → ¬poison a →
        ∃ out, holdsOf out (fun e => if (s.mask m).getLsbD e then elem s a e else elem s b e)
          ∧ whole (.vsel d a b m) [d, a, b] (s.vtag a) out)
    ∧ (poison a → (∃ out, holdsOf out (elem s a) ∧ masked (.vmov d a m) [d, a] 0xE out)
        ∧ (∀ k : BitVec 6, x = 1 ∨ x = 2 → ∀ i ∈ [Instr.vrot d a k x, .vbcast d a k x],
            ∃ out, exec i s = .next ((s.wake [d, a]).vwrite d out 0xE false).retire)
        ∧ (∀ g n : BitVec 5, s.regPoison n = false → exec (.vget g a n) s
            = .next ((s.wake [a]).setReg g ((elem s a ((s.reg n).toNat % 1024)).setWidth 64) true).retire))
    ∧ (poison d → ∀ g n : BitVec 5, s.regPoison n = false → ∃ out, whole (.vsete d g n) [d] 0xE out)

/-- The vector integer majors (05 R156, R157). -/
def Obligations.VectorIntegerResults : Prop :=
  vectorIntegerArithmetic ∧ vectorLogicShiftsAndSaturation

/-- Conversions and special functions (05 R159 to R161). -/
def Obligations.VectorConversionsAndSpecialFunctions : Prop :=
  vectorConversions ∧ specialFunctions

/-- Operands that trap, poison that spreads, and what a write of a vector register changes (05 R150 to R152, R499; 01 R24 to
R27). -/
def Obligations.VectorOperands : Prop :=
  vectorOperandTraps ∧ vectorPoisonSpreads ∧ vectorWriteBack

end

/-! ## Tiles and vector atomics -/

section
open Sys2Proof Sys2Proof.Machine Sys2Proof.Claims

/-- VLD (05 R166, R167, R169, R173; 01 R34 to R36) of a tile that is READY, whether or not it is region-mapped: 16 rows of up
to 256 bytes, in the tile's tag (I32 for RAW), POISON when a byte of them is uncorrectable; of an MX or MX4 tile the two
grains of each row, as 64 binary32 images. Rows past the tile give zero, and XC counts the move. A context with 16 moves on
the crossbar stalls. -/
def Sys2Proof.Claims.tileLoads : Prop :=
  ∀ (s : State) (d : BitVec 5) (i : BitVec 8) (r : BitVec 7),
    let t := s.tile i.toNat
    d.toNat < 4 * s.ctx.ctl.vCount.toNat →
    (16 ≤ s.ctx.ctl.xc.toNat → exec (.vld d i r) s = .next s.stallOn)
    ∧ (s.ctx.ctl.xc.toNat < 16 → ownTile s i r → t.state = .ready → t.rdcnt.toNat < 63 →
      (t.isMx = false → ∃ out : List Elem, out.length = 1024
        ∧ (∀ k c j, k < 16 → c < 64 → j < 4 →
            (out.getD (64 * k + c) 0).extractLsb' (8 * j) 8 = tileByte s t r k (4 * c + j))
        ∧ exec (.vld d i r) s = .next (movedOn ((s.wake [d]).vwrite d out (if t.fmt = 0 then 0x4 else t.fmt)
            ((List.range 16).any (tileBad s t r))).bump).retire)
      ∧ (t.isMx = true → 72 ≤ t.width.toNat → ∀ g : Nat → Nat → Efmt × Nat × List Nat,
        (∀ k h, k < 16 → h < 2 → 16 * r.toNat + k ≤ t.rows.toNat →
          (tileGrain s t r k h).any (·.2) = false
            ∧ readGrain ((tileGrain s t r k h).map (·.1)) (t.fmt == 10) = .ok (g k h).1 (g k h).2.1 (g k h).2.2) →
        ∃ out : List Elem, out.length = 1024
          ∧ (∀ k h j, k < 16 → h < 2 → j < 32 → out.getD (64 * k + 32 * h + j) 0
              = if 16 * r.toNat + k ≤ t.rows.toNat then
                  blockElem s.modes (g k h).1 (g k h).2.1 ((g k h).2.2.getD j 0) else 0)
          ∧ exec (.vld d i r) s = .next (movedOn ((s.wake [d]).vwrite d out 0x1 false).bump).retire))

/-- VPERM (05 R174, R188) of a tile that is READY and no MX tile: vd's own elements, zero if vd is VOID, moved by the index
table, an index with bit 31 set, or that lies outside the tile, giving zero; it traps POISON_CONSUMED on the first
uncorrectable row. -/
def Sys2Proof.Claims.tilePermutes : Prop :=
  ∀ (s : State) (d : BitVec 5) (i : BitVec 8) (r : BitVec 7),
    let t := s.tile i.toNat
    d.toNat < 4 * s.ctx.ctl.vCount.toNat →
    (16 ≤ s.ctx.ctl.xc.toNat → exec (.vperm d i r) s = .next s.stallOn)
    ∧ (s.ctx.ctl.xc.toNat < 16 → ownTile s i r → t.isMx = false → t.state = .ready → t.rdcnt.toNat < 63 →
      ((∀ k, k < 16 → tileBad s t r k = false) → (s.vreg d).data.length = 1024 → ∃ out : List Elem, out.length = 1024
        ∧ (∀ k c, k < 16 → c < 64 →
            let x := leNat ((List.range 4).map fun j => tileByte s t r k (4 * c + j))
            out.getD (64 * k + c) 0
              = if t.rows.toNat < 16 * r.toNat + k ∨ min t.width.toNat 256 < 4 * c + 4 ∨ 2 ^ 31 ≤ x ∨ s.vtag d = 0x0 then 0
                else elem s d (x % 1024))
        ∧ exec (.vperm d i r) s = .next (movedOn ((s.wake [d]).vwrite d out (s.vtag d) false)).retire)
      ∧ (∀ k, k < 16 → tileBad s t r k = true → (∀ j, j < k → tileBad s t r j = false) →
          exec (.vperm d i r) s = .next (s.takeTrap 0x180 (BitVec.ofNat 22 (64 + 16 * r.toNat + k)) (s.ir.setWidth 64))))

/-- VST (05 R168, R169, R173; 01 R33, R35), inside LOOP.S and outside: the first bytes of vd's rows, or of an MX or MX4 tile
the two grains quantised from each, go to the tile's rows, no byte outside them changes, and the tile is READY with its next
generation, DIRTY if it is region-mapped; vd's tag is that of the tile, F32 for a tile of grains, or any but POISON for
RAW. -/
def Sys2Proof.Claims.tileStores : Prop :=
  ∀ (s : State) (d : BitVec 5) (i : BitVec 8) (r : BitVec 7),
    let t := s.tile i.toNat
    let n := if t.isMx then 72 else min t.width.toNat 256
    let f := if t.fmt = 10 then Efmt.e2m1 else (efmtOf (BitVec.ofNat 8 (s.ctx.ctl.vqfmt.toNat % 8)) false).getD .zero
    d.toNat < 4 * s.ctx.ctl.vCount.toNat →
    (16 ≤ s.ctx.ctl.xc.toNat → exec (.vst d i r) s = .next s.stallOn)
    ∧ (s.ctx.ctl.xc.toNat < 16 → ownTile s i r → (t.state = .empty ∨ t.state = .ready) → t.rdcnt = 0 → t.needsFill = false
      → (t.isMx = true → 72 ≤ t.width.toNat) → (t.fmt = 9 → s.ctx.ctl.vqfmt.toNat % 8 < 6)
      → (s.vreg d).tag ≠ 0xE → (s.vreg d).tag ≠ 0x0 → (t.fmt = 0 ∨ (s.vreg d).tag = if t.isMx then 0x1 else t.fmt)
      → (s.vreg d).data.length = 1024 → s.core.spad.wf = true → t.sound = true →
    ∃ u : State, exec (.vst d i r) s = .next u.retire
      ∧ (t.isMx = false → ∀ k c j, k < 16 → 16 * r.toNat + k ≤ t.rows.toNat → c < 64 → j < 4 → 4 * c + j < n →
          u.core.spad.read (t.rowAddr (16 * r.toNat + k) + 4 * c + j) = (elem s d (64 * k + c)).extractLsb' (8 * j) 8)
      ∧ (t.isMx = true → ∀ k h b, k < 16 → 16 * r.toNat + k ≤ t.rows.toNat → h < 2 → b < 36 →
          u.core.spad.read (t.rowAddr (16 * r.toNat + k) + 36 * h + b)
            = (storeGrain f (s.ctx.ctl.vqfmt.getLsbD 3) s.modes.ftz
                ((List.range 32).map fun j => elem s d (64 * k + 32 * h + j))).getD b 0)
      ∧ (∀ a, (∀ k, k < 16 → 16 * r.toNat + k ≤ t.rows.toNat →
            ¬(t.rowAddr (16 * r.toNat + k) ≤ a ∧ a < t.rowAddr (16 * r.toNat + k) + n)) →
          u.core.spad.read a = s.core.spad.read a)
      ∧ u.tile i.toNat = { t with state := .ready, gen := t.gen + 1, dirty := t.rmap || t.dirty }
      ∧ (∀ k, k ≠ i.toNat → u.tile k = s.tile k)
      ∧ u.ctx.ctl = { s.ctx.ctl with xc := s.ctx.ctl.xc + 1 }
      ∧ u.dev = s.dev ∧ u.ctx.regs = s.ctx.regs ∧ u.ctx.masks = s.ctx.masks ∧ u.ctxs = s.ctxs)

/-- TALLOC, TSET, TGET, TWAIT and TFREE (08 R260 to R265; 01 R33): a quad's image becomes the entry, owned by the context and
EMPTY for TALLOC, with GEN kept; TGET shows doubleword 0; TWAIT completes once the tile has no traffic; TFREE of a tile that
is not region-mapped makes it invalid. -/
def Sys2Proof.Claims.tileManagement : Prop :=
  ∀ (s : State) (i : BitVec 8) (q : BitVec 3) (d : BitVec 5),
    let t := s.tile i.toNat
    let mine := t.valid = true ∧ t.owner.toNat = s.ctxNum
    let idle := (t.state = .empty ∨ t.state = .ready) ∧ t.rdcnt = 0
    s.holding = false →
    (t.valid = false → imageOk s t q → exec (.talloc i q) s = .next (s.setTile i.toNat { imageOf s t q with
        valid := true, owner := BitVec.ofNat 2 s.ctxNum, state := .empty, rdcnt := 0, touched := false, dirty := false }).retire)
    ∧ (mine → idle → imageOk s t q → t.dirty = false →
        exec (.tset i q) s = .next (s.setTile i.toNat { imageOf s t q with
          touched := t.touched && decide ((imageOf s t q).rmap = t.rmap) && decide ((imageOf s t q).rva = t.rva)
            && decide ((imageOf s t q).rstride = t.rstride) }).retire)
    ∧ (mine → idle → exec (.twait i) s = .next s.retire)
    ∧ (mine → ¬idle → exec (.twait i) s = .next s.stallOn)
    ∧ (mine → idle → t.rmap = false ∨ t.dirty = false →
        exec (.tfree i) s = .next (s.setTile i.toNat { t with valid := false, state := .empty }).retire)
    ∧ (mine → ∃ w : Word, exec (.tget d i) s = .next (s.setReg d w false).retire
        ∧ w.extractLsb' 48 16 = t.gen ∧ w.extractLsb' 45 3 = t.group ∧ w.extractLsb' 32 13 = t.base
        ∧ w.extractLsb' 20 12 = t.pitch ∧ w.extractLsb' 10 10 = t.rows ∧ w.extractLsb' 6 4 = t.fmt
        ∧ w.extractLsb' 4 2 = t.owner ∧ w.getLsbD 1 = t.rmap ∧ w.getLsbD 0 = t.valid)

/-- A tile that is not valid, or that another context owns, traps TILE_INVALID or TILE_NOT_OWNED with its index; a vector
access past the tile's rows traps TILE_RANGE with the row, and one of an MX tile TILE_FORMAT if the tile is too narrow, or it
is a VPERM; an allocation over a valid tile of the context traps TILE_IN_USE; quad 0 traps ILLEGAL_GROUP; and the tile
instructions that change the table trap LOOP_NEST in LOOP.S (01 R33; 05 R166 to R168, R174; 08 R260 to R263; 03 R92). -/
def Sys2Proof.Claims.tileTraps : Prop :=
  ∀ (s : State) (i : BitVec 8) (q : BitVec 3) (d : BitVec 5) (r : BitVec 7),
    let t := s.tile i.toNat
    let trap (c : BitVec 10) (info : Nat) : Host.Outcome State Fault Refusal :=
      .next (s.takeTrap c (BitVec.ofNat 22 info) (s.ir.setWidth 64))
    let mine := t.valid = true ∧ t.owner.toNat = s.ctxNum
    (d.toNat < 4 * s.ctx.ctl.vCount.toNat → s.vtag d ≠ 0xE → s.ctx.ctl.xc.toNat < 16 →
      (∀ x ∈ [Instr.vld d i r, .vst d i r, .vperm d i r, .twait i, .tget d i],
        (t.valid = false → exec x s = trap 0x200 i.toNat)
        ∧ (t.valid = true → t.owner.toNat ≠ s.ctxNum → exec x s = trap 0x201 i.toNat))
      ∧ (mine → t.rows.toNat < 16 * r.toNat → ∀ x ∈ [Instr.vld d i r, .vst d i r, .vperm d i r],
          exec x s = trap 0x202 (16 * r.toNat))
      ∧ (mine → 16 * r.toNat ≤ t.rows.toNat → t.isMx = true →
          exec (.vperm d i r) s = trap 0x203 i.toNat
          ∧ (t.width.toNat < 72 → exec (.vld d i r) s = trap 0x203 i.toNat ∧ exec (.vst d i r) s = trap 0x203 i.toNat)))
    ∧ (q ≠ 0 → s.holding = false → t.valid = true → t.owner.toNat = s.ctxNum → exec (.talloc i q) s = trap 0x204 i.toNat)
    ∧ exec (.talloc i 0) s = trap 0x003 0 ∧ exec (.tset i 0) s = trap 0x003 0
    ∧ (q ≠ 0 → s.holding = true → ∀ x ∈ [Instr.talloc i q, .tset i q, .tfree i],
        exec x s = trap 0x260 s.ctx.loop.levels.length)

/-- Vector atomics (05 R181, R182): with aligned lane addresses that have a home, the operand register of the operation's
tag, offsets in I32 and nothing on the way, a returning form sends every lane whose VDONE bit is 0 and waits for them, and
one whose lanes are all done completes with VDONE 0; a form that returns nothing posts its lanes and completes. -/
def Sys2Proof.Claims.vectorAtomicsIssue : Prop :=
  ∀ (s s2 : State) (d a b : BitVec 5) (c : BitVec 4) (p : BitVec 3) (lanes : List VatomLane),
    let offs := (s.vreg a).data
    s.inLoopS = false → s.regPoison b = false → holds s 4 a → quietMemory s → quietMemory s2 → s.ctx.vatom = none → s2.ctx.vatom = none →
    s.vatomLanes (s.reg b) offs (s.vreg d).data (List.range 64) = .ok (s2, lanes) →
    let x := s2.wake [d, a]
    (∀ i ∈ [((4 : BitVec 4), AtomOp.add, Instr.vatomAddI32 d a b c p, Instr.vatomAddI32Nr d a b c p),
        (1, .fadd, .vatomAddF32 d a b c p, .vatomAddF32Nr d a b c p),
        (4, .min, .vatomMinI32 d a b c p, .vatomMinI32Nr d a b c p),
        (4, .max, .vatomMaxI32 d a b c p, .vatomMaxI32Nr d a b c p),
        (4, .and, .vatomAnd d a b c p, .vatomAndNr d a b c p), (4, .or, .vatomOr d a b c p, .vatomOrNr d a b c p),
        (4, .xor, .vatomXor d a b c p, .vatomXorNr d a b c p)],
      holds s i.1 d →
      s2.lanesMaySend i.2.1 c p false lanes = true →
      exec i.2.2.2 s = .next (((lanes.foldl (fun y l =>
          (y.post (l.posted i.2.1 c p false y.ctx.cmdSeq y.ctx.postSeq)).nextPost) x).setCtl
          fun k => { k with vdone := 0 }).later .redPerform).retire)
    ∧ (∀ i ∈ [((4 : BitVec 4), AtomOp.add, Instr.vatomAddI32 d a b c p), (1, .fadd, .vatomAddF32 d a b c p),
        (4, .min, .vatomMinI32 d a b c p), (4, .max, .vatomMaxI32 d a b c p), (4, .and, .vatomAnd d a b c p),
        (4, .or, .vatomOr d a b c p), (4, .xor, .vatomXor d a b c p), (4, .swap, .vatomSwap d a b c p)],
      holds s i.1 d →
      let y := x.vwrite d (s.vreg d).data i.1 false
      (lanes = [] → exec i.2.2 s = .next (y.setCtl fun k => { k with vdone := 0 }).retire)
      ∧ (lanes ≠ [] → (∀ l ∈ lanes, residency l.pa ≠ 3) →
        exec i.2.2 s = .next (State.stallOn { y with ctx := { y.ctx with
          vatom := some { op := i.2.1, dst := d, cls := c, scope := p, poisoned := false, out := lanes, refused := none } } })))

/-- A lane of a VATOM comes back from memory of this device (05 R182): applied, its operation is made at its address, row 0
of vd gets the old value in that lane and VDONE the lane's bit; the last lane ends the instruction, with VDONE cleared (and leaves a
context that has halted meanwhile as it is: 13 R417), or with VATOM_INCOMPLETE at the lowest lane that was not applied, whose number
stands in the information from bit 16 on. -/
def Sys2Proof.Claims.vectorAtomicLaneReturns : Prop :=
  ∀ (s : State) (v : VatomSt) (l : VatomLane) (rest : List VatomLane),
    s.ctx.vatom = some v → v.out = l :: rest → l.tag = none → residency l.pa ≠ 3 → s.dev.noHead l.pa = false → v.poisoned = false
      → (∀ x ∈ rest, x.lane ≠ l.lane) → (∀ x ∈ rest, x.pa = l.pa → l.lane ≤ x.lane) →
    let rd := s.atomAt v.op l.pa 2 l.leaf l.data.toNat 0 false false l.va
    let done := (rd.1.putLane v.dst l.lane rd.2.1 rd.2.2).setCtl fun c => { c with vdone := putBit c.vdone l.lane true }
    (rest ≠ [] → exec (.vatomLaneReturn l.lane true) s
        = .next { done with ctx := { done.ctx with vatom := some { v with out := rest } } })
    ∧ (rest = [] → v.refused = none → s.ctx.status = .halted → exec (.vatomLaneReturn l.lane true) s
        = .next ((State.setCtl { done with ctx := { done.ctx with vatom := none } } fun c => { c with vdone := 0 }).retire))
    ∧ (rest = [] → v.refused = none → s.ctx.status ≠ .halted → exec (.vatomLaneReturn l.lane true) s
        = .next ((State.setStatus { done with ctx := { done.ctx with vatom := none } } .active).setCtl
            fun c => { c with vdone := 0 }).retire)
    ∧ (rest = [] → v.refused = none → s.ctx.status ≠ .halted → exec (.vatomLaneReturn l.lane false) s
        = .next ((State.setStatus { s with ctx := { s.ctx with vatom := none } } .active).takeTrap 0x184
            (BitVec.ofNat 22 (l.lane * 2 ^ 16)) l.va))

/-- VLD, VPERM and VST (05 R166 to R168, R174). -/
def Obligations.TileTransfers : Prop :=
  tileLoads ∧ tilePermutes ∧ tileStores

/-- Tile management and its traps (08 R260 to R265; 01 R33). -/
def Obligations.TileTable : Prop :=
  tileManagement ∧ tileTraps

/-- Vector atomics and the return of their lanes (05 R181, R182). -/
def Obligations.VectorAtomics : Prop :=
  vectorAtomicsIssue ∧ vectorAtomicLaneReturns

end

/-! ## Control registers, safe points, the end of a task -/

section
open Sys2Proof Sys2Proof.Machine Sys2Proof.Claims

/-- MFC and MTC (08 R283 to R285; 01 R50): a register that the mode may read is read into s[d], clean; one that the mode may write
gets its RW fields from s[a], HTLIM no more than 1,024, which then read back, and no other register changes; RO fields stay as they
are; in task mode a register without the access, and a number that names no register, trap ILLEGAL_CSR with the number, and so does
such a number in kernel mode, which is the model's choice (log entry 17); a poisoned source of MTC traps POISON_CONSUMED. -/
def Sys2Proof.Claims.controlRegisters : Prop :=
  ∀ (s : State) (d a : BitVec 5) (n : BitVec 12),
    let trap (c : BitVec 10) (info : Nat) : Host.Outcome State Fault Refusal :=
      .next (s.takeTrap c (BitVec.ofNat 22 info) (s.ir.setWidth 64))
    let rw : List (Nat × Word) := [(0x001, 0xFFFFFFFF), (0x002, 0xFFFFFFFFFFFFFFFF), (0x003, 0xFFFFFFFFFFFFFFFC),
      (0x004, 0x00FFFFFFFFFFFFFC), (0x006, 0xFFFFFFFFFFFFFFFF), (0x007, 0xFFFFFFFFFFFFFFFF), (0x020, 0xF8), (0x021, 0xF),
      (0x025, 0xFFFFFFFFFFFFFFFF), (0x034, 0x00FFFFFFFFFFFF80), (0x035, 0x7FF)]
    let mayWrite := csrAccess n.toNat ≠ .absent ∧ (s.kernel = true ∨ csrAccess n.toNat = .write)
    let put (m : Word) : Word := if n.toNat = 0x035 then BitVec.ofNat 64 (min 1024 (s.reg a).toNat) else s.reg a &&& m
    (csrAccess n.toNat = .absent → exec (.mfc d n) s = trap 0x007 n.toNat ∧ exec (.mtc a n) s = trap 0x007 n.toNat)
    ∧ (s.kernel = false → csrAccess n.toNat = .none →
        exec (.mfc d n) s = trap 0x007 n.toNat ∧ exec (.mtc a n) s = trap 0x007 n.toNat)
    ∧ (s.kernel = false → csrAccess n.toNat = .read → exec (.mtc a n) s = trap 0x007 n.toNat)
    ∧ (csrAccess n.toNat ≠ .absent → (s.kernel = true ∨ csrAccess n.toNat ≠ .none) →
        exec (.mfc d n) s = .next (s.setReg d (s.csrRead n.toNat) false).retire)
    ∧ (mayWrite → s.regPoison a = true → exec (.mtc a n) s = trap 0x180 a.toNat)
    ∧ (mayWrite → s.regPoison a = false → (∀ m, (n.toNat, m) ∉ rw) → ¬(0x030 ≤ n.toNat ∧ n.toNat ≤ 0x032) →
        ¬(0x040 ≤ n.toNat ∧ n.toNat ≤ 0x042) → exec (.mtc a n) s = .next s.retire)
    ∧ (mayWrite → s.regPoison a = false → ∀ m, (n.toNat, m) ∈ rw →
        ∃ t : State, exec (.mtc a n) s = .next t.retire ∧ t.csrRead n.toNat = put m
          ∧ (∀ k w, (k, w) ∈ rw → k ≠ n.toNat → t.csrRead k = s.csrRead k)
          ∧ t.ctx.regs = s.ctx.regs ∧ t.ctx.pois = s.ctx.pois ∧ t.ctx.masks = s.ctx.masks ∧ t.ctx.loop = s.ctx.loop
          ∧ t.ctx.ri = s.ctx.ri ∧ t.core = s.core ∧ t.dev = s.dev ∧ t.ctxs = s.ctxs)
    ∧ s.csrRead 0x000 = BitVec.ofNat 64 (s.here / 4 * 256 + s.here % 4 * 16 + (if s.ctx.ctl.preq then 2 else 0)
        + (if s.kernel then 1 else 0))
    ∧ s.csrRead 0x010 = s.ctx.ctl.tid.setWidth 64 ∧ s.csrRead 0x011 = s.ctx.ctl.lid.setWidth 64
    ∧ s.csrRead 0x013 = s.dev.time ∧ s.csrRead 0x014 = s.dev.cycle
    ∧ (s.ctx.loop.levels = [] → s.csrRead 0x028 = 0 ∧ s.csrRead 0x02A = 0)

/-- MTC to a ring register, in either mode (01 R39, R41). While EN = 0, BASE and LOG are written; EN = 1 needs LOG within 4 to 12 and
the ring within the scratchpad, else RING_BUSY. While EN = 1 a write that changes BASE or LOG traps RING_BUSY; that one which writes
them as they are does not is the model's choice (log entry 12). EN = 0 then disables the ring: unread commands are discarded, RPTR is
WPTR, a head that has waited gives its token back, issued commands stay, and of RO the commands that the iteration holds are discarded. -/
def Sys2Proof.Claims.ringRegisters : Prop :=
  ∀ (s : State) (a : BitVec 5), s.regPoison a = false → ∀ y ∈ [((0x030 : BitVec 12), Ring.ri), (0x031, .ro), (0x032, .mx)],
    let r := y.2
    let v := s.reg a
    let x := s.ring r
    let log := v.extractLsb' 28 4
    let base := v.extractLsb' 5 15
    let fits := 4 ≤ log.toNat ∧ log.toNat ≤ 12 ∧ 32 * base.toNat + 32 * 2 ^ log.toNat ≤ 2 ^ 20
    let set (en : Bool) : Host.Outcome State Fault Refusal :=
      .next (s.updRing r fun z => { z with log := log, base := base, en := en }).retire
    let busy : Host.Outcome State Fault Refusal := .next (s.takeTrap 0x215 (y.1.setWidth 22) (s.ir.setWidth 64))
    (x.en = false → v.getLsbD 0 = false → exec (.mtc a y.1) s = set false)
    ∧ (x.en = false → v.getLsbD 0 = true → (fits → exec (.mtc a y.1) s = set true) ∧ (¬fits → exec (.mtc a y.1) s = busy))
    ∧ (x.en = true → log ≠ x.log ∨ base ≠ x.base → exec (.mtc a y.1) s = busy)
    ∧ (x.en = true → log = x.log → base = x.base → v.getLsbD 0 = true → exec (.mtc a y.1) s = .next s.retire)
    ∧ (x.en = true → log = x.log → base = x.base → v.getLsbD 0 = false →
        x.halt = false → x.faulting = none → x.deferred = [] → ∃ t : State, exec (.mtc a y.1) s = .next t.retire
        ∧ (t.ring r).en = false ∧ (t.ring r).rptr = x.wptr ∧ (t.ring r).wptr = x.wptr ∧ (∀ q, q ≠ r → t.ring q = s.ring q)
        ∧ (∀ k, k ∈ t.ctx.cmds ↔ k ∈ s.ctx.cmds ∧ ¬(k.ring = r ∧ k.stage = .queued))
        ∧ (∀ j, j < 10 → t.fifoCount j = s.fifoCount j + if x.popped = some (.fifo j) then 1 else 0)
        ∧ (∀ h, h ∈ t.ctx.loop.held ↔ h ∈ s.ctx.loop.held ∧ (r = .ro → ∀ q, h ≠ .roCommand q))
        ∧ t.ctx.regs = s.ctx.regs ∧ t.core.tiles = s.core.tiles ∧ t.core.spad = s.core.spad ∧ t.dev = s.dev ∧ t.ctxs = s.ctxs)

/-- MTC to a ring fault status register, in kernel mode (06 R197, R199): on a ring that runs, and with neither bit set, nothing
happens; RESTART has the halted command go on; SKIP, which wins, abandons it without a signal, its FILLING or DRAINING targets EMPTY,
those of an ATTNR READY (07 R258), and RPTR past it. HALT and PEND clear. No other fault of the ring waits. -/
def Sys2Proof.Claims.faultStatusRegisters : Prop :=
  ∀ (s : State) (a : BitVec 5), s.kernel = true → s.regPoison a = false →
    ∀ y ∈ [((0x040 : BitVec 12), Ring.ri), (0x041, .ro), (0x042, .mx)],
    let r := y.2
    let v := s.reg a
    let x := s.ring r
    let resumed (t : State) : Prop := (t.ring r).halt = false ∧ (t.ring r).pend = false ∧ (t.ring r).wptr = x.wptr
      ∧ (t.ring r).en = x.en ∧ (∀ q, q ≠ r → t.ring q = s.ring q) ∧ .engine s.here r ∈ t.turns ∧ t.ctx.regs = s.ctx.regs
      ∧ t.ctx.fifos = s.ctx.fifos ∧ t.ctx.ctl = s.ctx.ctl ∧ t.core.spad = s.core.spad ∧ t.dev = s.dev ∧ t.ctxs = s.ctxs
    (x.halt = false ∨ (v.getLsbD 2 = false ∧ v.getLsbD 3 = false) → exec (.mtc a y.1) s = .next s.retire)
    ∧ (x.halt = true → x.deferred = [] → v.getLsbD 2 = true → v.getLsbD 3 = false →
        ∃ t : State, exec (.mtc a y.1) s = .next t.retire ∧ resumed t ∧ (t.ring r).rptr = x.rptr ∧ t.core = s.core
        ∧ t.ctx.cmds = s.ctx.cmds.map fun k => if k.ring ≠ r then k else match k.stage with
            | .halted => { k with stage := .issued }
            | .signalFault => { k with stage := .moved }
            | _ => k)
    ∧ (∀ k, x.halt = true → x.deferred = [] → v.getLsbD 3 = true → s.ctx.haltedCmd r = some k →
        ∃ t : State, exec (.mtc a y.1) s = .next t.retire ∧ resumed t
        ∧ (t.ring r).rptr = (if k.stage = .queued then x.rptr + 1 else x.rptr)
        ∧ (∀ c, c ∈ t.ctx.cmds ↔ c ∈ s.ctx.cmds ∧ c.seq ≠ k.seq)
        ∧ (∀ i, i < 256 → (t.tile i).state =
            if i ∈ k.work.targets.map (·.1) ∧ ((s.tile i).state = .filling ∨ (s.tile i).state = .draining) then
              (if k.cmd.w0.toNat % 256 = 0x48 then .ready else .empty)
            else (s.tile i).state))

/-- MFC and MTC: the control registers, those of the rings, and those of their faults (08 R283 to R285; 01 R39, R41, R50; 06 R197,
R199). -/
def Obligations.ControlRegisterAccess : Prop :=
  controlRegisters ∧ ringRegisters ∧ faultStatusRegisters

/-- SAFEPT (08 R276; 01 R56; 13 R417; 06 R198): an entry past LMTLIM traps LIVEMASK_RANGE, and the SAFEPT is not counted; a pending
engine fault is delivered first (before LIVEMASK_RANGE too, which is the model's choice: log entry 18); else LIVEM names the entry and
the count since the last safe point is 0, and in task mode, outside LOOP.S, a pending pre-emption halts the context there. Inside LOOP.S
it halts nothing (04 R131). SAFE_POINT_OVERDUE ends a task that has issued 4,096 instructions without a safe point and is to issue
another that is no SAFEPT. -/
def Obligations.SafePoints : Prop :=
  ∀ (s : State) (k : BitVec 12),
    let past := (s.setCtl fun c => { c with lmIdx := k, lmValid := true }).retire
    let at_ : State := { past with ctx := { past.ctx with sinceSafe := 0 } }
    (s.kernel = true ∨ s.ctx.pendingFault = none → s.ctx.ctl.lmtlim.toNat ≤ k.toNat →
        exec (.safept k) s = .next (s.takeTrapAt 0x383 (k.setWidth 22) (s.ir.setWidth 64) s.ctx.pc))
    ∧ (s.kernel = true ∨ s.ctx.pendingFault = none → k.toNat < s.ctx.ctl.lmtlim.toNat → s.inLoopS = true →
        exec (.safept k) s = .next at_ ∧ (s.kernel = true ∨ s.atBodyEnd = false →
          at_.ctx.pc = s.ctx.pc + 4 ∧ at_.ctx.ctl.lmIdx = k ∧ at_.ctx.ctl.lmValid = true ∧ at_.ctx.ctl.preq = s.ctx.ctl.preq
          ∧ at_.ctx.status = s.ctx.status ∧ at_.ctx.sinceSafe = 0 ∧ at_.ctx.loop = s.ctx.loop ∧ at_.ctx.regs = s.ctx.regs
          ∧ at_.core = s.core ∧ at_.dev = s.dev))
    ∧ (s.kernel = true ∨ s.ctx.pendingFault = none → k.toNat < s.ctx.ctl.lmtlim.toNat → s.inLoopS = false →
        (s.kernel = true ∨ s.ctx.ctl.preq = false → exec (.safept k) s = .next at_)
        ∧ (s.kernel = false → s.ctx.ctl.preq = true → ∃ t : State, exec (.safept k) s = .next t ∧ t.ctx.status = .halted
            ∧ t.ctx.haltIdx = some k ∧ t.ctx.pc = at_.ctx.pc ∧ t.ctx.regs = s.ctx.regs
            ∧ .own s.here .haltComplete ∈ t.turns))
    ∧ (∀ r, s.kernel = false → s.ctx.pendingFault = some r → exec (.safept k) s = .next (s.deliverFault r))
    ∧ (s.kernel = false → s.ctx.ending = none → 4096 ≤ s.ctx.sinceSafe → s.ctx.status = .active → s.safeptNext = false → ∃ t,
        exec .safePointOverdue s = .next t ∧ t.ctx.ending = some (.killed 0x07 0x380 0 s.ctx.pc)
        ∧ t.ctx.status = .stalled ∧ .own s.here .taskEnd ∈ t.turns ∧ t.ctx.regs = s.ctx.regs ∧ t.dev = s.dev)

/-- VALLOC and WAITX (05 R175, R178; 01 R25, R27): within VALLOC.LIMIT the count becomes k, registers added are zero and
VOID, registers given up are GATED, the others are as before; past the limit VALLOC_LIMIT, and in LOOP.S LOOP_NEST. WAITX
goes on once XC ≤ n. A register's DROWSY state comes and goes without a change of contents or tag (01 R27, R28). -/
def Obligations.VectorAllocation : Prop :=
  ∀ (s : State) (k n : BitVec 12) (reg : Nat),
    let b := s.ctx.ctl.vBase.toNat
    let old := s.ctx.ctl.vCount.toNat
    let v (x : State) (p : Nat) : VReg := x.core.vregs.toList.getD p VReg.gated
    (s.inLoopS = false → k.toNat ≤ s.ctx.ctl.vLimit.toNat → ∃ t : State, exec (.valloc k) s = .next t.retire
      ∧ t.ctx.ctl = { s.ctx.ctl with vCount := k.setWidth 4 }
      ∧ (∀ p, p < 32 → v t p =
          if 4 * (b + old) ≤ p ∧ p < 4 * (b + k.toNat) then { VReg.gated with power := .active }
          else if 4 * (b + k.toNat) ≤ p ∧ p < 4 * (b + old) then VReg.gated else v s p)
      ∧ t.ctx.regs = s.ctx.regs ∧ t.core.spad = s.core.spad ∧ t.core.tiles = s.core.tiles ∧ t.dev = s.dev)
    ∧ (s.inLoopS = false → s.ctx.ctl.vLimit.toNat < k.toNat →
        exec (.valloc k) s = .next (s.takeTrap 0x38C (k.setWidth 22) (s.ir.setWidth 64)))
    ∧ (s.inLoopS = true → exec (.valloc k) s
        = .next (s.takeTrap 0x260 (BitVec.ofNat 22 s.ctx.loop.levels.length) (s.ir.setWidth 64)))
    ∧ exec (.waitx n) s = .next (if s.ctx.ctl.xc.toNat ≤ n.toNat then s.retire else s.stallOn)
    ∧ (reg < 32 → (v s reg).power = .active → ∃ t : State, exec (.registerDrowsy reg) s = .next t
        ∧ v t reg = { v s reg with power := .drowsy } ∧ (∀ p, p ≠ reg → v t p = v s p) ∧ t.ctx = s.ctx ∧ t.dev = s.dev)
    ∧ (reg < 32 → (v s reg).power = .drowsy → ∃ t : State, exec (.debuggerRead reg) s = .next t
        ∧ v t reg = { v s reg with power := .active } ∧ (∀ p, p ≠ reg → v t p = v s p) ∧ t.ctx = s.ctx ∧ t.dev = s.dev)

/-- What WAITC and the task exit do before the end (08 R273): while a command is in a ring they wait; else each owned tile that
has no traffic is freed in index order, one of a region that is dirty once it is written back, and the accesses perform. -/
def Sys2Proof.Claims.tasksSettle : Prop :=
  ∀ s : State,
    (s.ctx.cmds ≠ [] → s.settle = .error (.stall s))
    ∧ (s.ctx.cmds = [] → s.ctx.posted = [] → s.ctx.peer = []
        → (∀ i ∈ s.ownedTiles, let e := s.tile i
            (e.state = .empty ∨ e.state = .ready) ∧ e.rdcnt = 0 ∧ (e.rmap = false ∨ e.dirty = false)) →
        s.settle = .ok (s.ownedTiles.foldl
          (fun x i => x.setTile i { s.tile i with valid := false, state := .empty }) s))

/-- The task exit (08 R272, R273): in either mode, once the task has settled, issue stops with the ending set, and TASK_END is
on the agenda; a pending engine fault is delivered first (06 R198). -/
def Sys2Proof.Claims.taskExits : Prop :=
  ∀ s : State,
    (s.kernel = true ∨ s.ctx.pendingFault = none →
      (s.ctx.cmds ≠ [] → exec .taskExit s = .next s.stallOn)
      ∧ ∀ t : State, s.settle = .ok t → exec .taskExit s
          = .next (State.later { t.countIssue with
              ctx := { t.countIssue.ctx with status := .stalled, ending := some .exit } } .taskEnd))
    ∧ (∀ r, s.kernel = false → s.ctx.pendingFault = some r → exec .taskExit s = .next (s.deliverFault r))

/-- The bytes of a continuation record that WAITC stores (08 R273): the header from byte 8 on, then each live scalar and vector
register at its place. That bytes 44 to 47 of the record, which R273 reserves, are stored as zero and that POIS holds the bits of all 32
registers, live or not, is the model's choice (log entry 19). -/
def Sys2Proof.Claims.continuationRecords : Prop :=
  ∀ (s : State) (r : Word) (sm : BitVec 32) (vm : BitVec 8),
    let at_ (k : Nat) := leNat (((s.recordHeader sm vm).drop (k - 8)).take 8)
    (s.recordHeader sm vm).length = 56 ∧ (s.recordStores r sm vm).head? = some (r.toNat + 8, s.recordHeader sm vm)
    ∧ at_ 8 = (s.ctx.pc + 4).toNat ∧ at_ 16 = s.ctx.ctl.tid.toNat + 2 ^ 32 * s.ctx.ctl.lid.toNat
    ∧ at_ 24 = s.ctx.ctl.pondid.toNat
    ∧ at_ 32 = sm.toNat + 2 ^ 32 * vm.toNat + 2 ^ 40 * (s.ctx.ctl.fmode.toNat % 256) + 2 ^ 48 * s.ctx.ctl.vqfmt.toNat
    ∧ at_ 40 = s.ctx.pois.toNat
    ∧ (∀ a bs, (a, bs) ∈ s.recordStores r sm vm ↔ (a, bs) = (r.toNat + 8, s.recordHeader sm vm)
        ∨ (∃ i, i < 32 ∧ i ≠ 0 ∧ sm.getLsbD i = true ∧ a = r.toNat + 64 + 8 * i
            ∧ bs = leBytes 8 (s.reg (BitVec.ofNat 5 i)).toNat)
        ∨ ∃ g j, g < 8 ∧ j < 4 ∧ vm.getLsbD g = true ∧ a = r.toNat + 512 + 16384 * g + 4096 * j
            ∧ bs = rowBytes (s.vreg (BitVec.ofNat 5 (4 * g + j))).data)

/-- WAITC (08 R272, R273) of a record in memory of this device: with its record aligned and at an atomic home, its live-mask
entry within LMTLIM, read clean and naming only allocated groups, the task settles, the record is stored, ARMED is set by an
atomic OR, and issue stops with the old WAIT as the ending; from the OR on a signal can hand the continuation over (R274). It
traps WAIT_IN_GANG in a group, LOOP_NEST in a loop, POISON_CONSUMED on a poisoned register, and WAITC_RECORD on a record that
is not aligned or has no home. -/
def Sys2Proof.Claims.waitcEnds : Prop :=
  ∀ (s : State) (a : BitVec 5) (k : BitVec 12), s.kernel = true ∨ s.ctx.pendingFault = none →
    let va := s.reg a
    (s.inGroup = true → exec (.waitc a k) s = .next (s.takeTrap 0x381 0 (s.ir.setWidth 64)))
    ∧ (s.inGroup = false → s.ctx.loop.levels ≠ [] →
        exec (.waitc a k) s = .next (s.takeTrap 0x260 (BitVec.ofNat 22 s.ctx.loop.levels.length) (s.ir.setWidth 64)))
    ∧ (s.inGroup = false → s.ctx.loop.levels = [] → s.regPoison a = true →
        exec (.waitc a k) s = .next (s.takeTrap 0x180 (a.setWidth 22) (s.ir.setWidth 64)))
    ∧ (s.inGroup = false → s.ctx.loop.levels = [] → s.regPoison a = false → va.toNat % 128 ≠ 0 →
        exec (.waitc a k) s = .next (s.takeTrap 0x384 0 va))
    ∧ ∀ (s1 : State) (pa : Nat) (leaf : BitVec 64), s.inGroup = false → s.ctx.loop.levels = [] → s.regPoison a = false →
      va.toNat % 128 = 0 → s.access va .atomic = .ok (s1, pa, leaf) →
      (s1.atomicHome pa leaf = false → exec (.waitc a k) s = .next (s1.takeTrap 0x384 0 va))
      ∧ (s1.atomicHome pa leaf = true → s1.ctx.ctl.lmtlim.toNat ≤ k.toNat →
          exec (.waitc a k) s = .next (s1.takeTrap 0x383 (k.setWidth 22) (s1.ir.setWidth 64)))
      ∧ ∀ (s2 : State) (mpa : Nat) (mleaf : BitVec 64), s1.atomicHome pa leaf = true → k.toNat < s1.ctx.ctl.lmtlim.toNat →
        s1.access (BitVec.ofNat 64 (s1.liveMaskVa k.toNat)) .read = .ok (s2, mpa, mleaf) → quietMemory s2 →
        residency pa ≠ 3 → residency mpa ≠ 3 →
        let rd := s2.loadPhys mpa 8 mleaf
        let lm : BitVec 64 := BitVec.ofNat 64 (leNat rd.2.1)
        rd.2.2 = false → (∀ g, g < 8 → lm.getLsbD (32 + g) = true → g < rd.1.ctx.ctl.vCount.toNat) →
        ∀ t u : State, rd.1.settle = .ok t → t.ctx.peer = [] →
          t.storeAll (t.recordStores (t.reg a) (lm.extractLsb' 0 32) (lm.extractLsb' 32 8)) = .ok u →
          let o := u.atomAt .or pa 3 leaf (2 ^ 32) 0 false false (u.reg a)
          o.2.2 = false → exec (.waitc a k) s
            = .next ((o.1.countIssue.expectSignals (o.1.reg a)).endTask (.waitc (o.1.reg a) (o.2.1 % 2 ^ 32)))

/-- TASK_END (08 R273; 13 R410; 01 R18, R27, R33): the context becomes FREE, its tiles invalid and its vector reservation GATED,
other contexts' tiles and registers stay, and no memory changes. A task that has exited counts as ended; of one that waits in
WAITC the continuation, left armed with no signal to come, is handed over; one that is killed records its failure and counts
as ended once its commands and accesses are done. -/
def Sys2Proof.Claims.tasksEnd : Prop :=
  ∀ (s : State) (e : Ending) (j : Job), s.ctx.ending = some e → s.ctx.job = some j → j.prologue = false
    → (∀ c ∈ s.ctxs, c.atBarrier = none ∧ c.status ≠ .halted) →
    let v (x : State) (p : Nat) := x.core.vregs.toList.getD p VReg.gated
    let mine (p : Nat) : Prop := 4 * s.ctx.ctl.vBase.toNat ≤ p ∧ p < 4 * (s.ctx.ctl.vBase.toNat + s.ctx.ctl.vLimit.toNat)
    let ended (sl : Sluice) := sl.updMember j.launch j.mem fun m => { m with ended := m.ended + 1 }
    let leaves (t : State) : Prop := t.ctx = Ctx.vacant ∧ t.ctxs = s.ctxs ∧ t.dev.mem = s.dev.mem
      ∧ (∀ i, i < 256 → (s.tile i).owner.toNat = s.ctxNum → (t.tile i).valid = false)
      ∧ (∀ p, p < 32 → mine p → v t p = VReg.gated)
    let frame (t : State) : Prop := (∀ i, i < 256 → (s.tile i).owner.toNat ≠ s.ctxNum → t.tile i = s.tile i)
      ∧ (∀ p, p < 32 → ¬mine p → v t p = v s p)
    (e = .exit → ∃ t : State, exec .taskEnd s = .next t ∧ leaves t ∧ frame t ∧ t.dev.sluice = ended s.dev.sluice)
    ∧ (∀ r p, e = .waitc r p → (p = 0 → s.dev.sluice.stopped = false) → ∃ t : State, exec .taskEnd s = .next t ∧ leaves t ∧ frame t
        ∧ t.dev.sluice = (match (if p = 0 then s.dev.sluice.conts.find? fun c =>
              !c.handed && c.record == r && c.launch == j.launch else none) with
            | some c => s.dev.sluice.handOver c
            | none => s.dev.sluice))
    ∧ (∀ st cause info addr, e = .killed st cause info addr → s.ctx.cmds = [] → s.ctx.posted = [] → s.ctx.peer = [] →
        (∀ r, (s.ring r).deferred = []) →
        ∃ t : State, exec .taskEnd s = .next t ∧ leaves t ∧ (s.ctx.loop.journal = [] → frame t)
          ∧ t.dev.sluice = ended (s.dev.sluice.updMember j.launch j.mem fun m => { m with out := m.out.fail st cause info addr }))

/-- STALL_CLEAR (01 R18): a stalled context that is to issue is ACTIVE again; it does nothing to another. -/
def Sys2Proof.Claims.stallsClear : Prop :=
  ∀ s : State,
    (s.ctx.issues = true →
      exec .stallClear s = .next { s with ctx := { s.ctx with status := .active } })
    ∧ (s.ctx.issues = false → exec .stallClear s = .next s)
    ∧ (s.ctx.issues = true ↔ s.ctx.status = .stalled ∧ s.ctx.ending = none ∧ s.ctx.loop.rolling = false)

/-- ROLLBACK_RESUME (13 R413, R414): while an issued command of the iteration has not completed it tries again later; then the
held entries and the journal are discarded, what the iteration has taken is given back, the journal is played back, newest
first, the checkpoint is restored, and the iteration starts over, marked as retried. -/
def Sys2Proof.Claims.rollbacksResume : Prop :=
  ∀ s : State, s.ctx.loop.rolling = true → (∀ r, (s.ring r).halt = false ∧ (s.ring r).faulting = none ∧ (s.ring r).deferred = []) →
    let back := s.ctx.loop.journal.foldl State.undo (s.ctx.loop.taken.foldl State.giveBack s)
    ((∃ c ∈ s.ctx.cmds, c.uncommitted = true) → exec .rollbackResume s = .next { s with
        turns := s.turns ++ [.engine s.here .ri, .engine s.here .ro, .engine s.here .mx, .own s.here .rollbackResume] })
    ∧ (∀ (k : Checkpoint) (lv : Level) (rest : List Level), (∀ c ∈ s.ctx.cmds, c.uncommitted = false) →
        s.ctx.loop.ckpt = some k → k.levels = lv :: rest → ∃ t : State, exec .rollbackResume s = .next t
        ∧ t.ctx.regs = k.regs ∧ t.ctx.pois = k.pois ∧ t.ctx.masks = k.masks ∧ t.ctx.sg = k.sg
        ∧ t.ctx.ctl = { s.ctx.ctl with vrb := k.vrb, fmode := k.fmode, vqfmt := k.vqfmt, enqst := k.enqst }
        ∧ t.ctx.loop.levels = k.levels ∧ t.ctx.pc = lv.start ∧ t.ctx.loop.held = [] ∧ t.ctx.loop.heldRo = 0
        ∧ t.ctx.loop.journal = [] ∧ t.ctx.loop.taken = [] ∧ t.ctx.loop.retried = true ∧ t.ctx.loop.rolling = false
        ∧ t.ctx.status = .active ∧ t.core = back.core ∧ t.clu = back.clu
        ∧ t.ctx.fifos = back.ctx.fifos ∧ t.ctx.cmds = s.ctx.cmds ∧ t.dev = s.dev ∧ t.ctxs = s.ctxs)

/-- What giving back and playing back do (13 R411, R413): a count goes up by one, a semaphore no higher than 0xFFFF; a vector
register and its tag, and a tile's STATE and GEN, are as they were. -/
def Sys2Proof.Claims.undoing : Prop :=
  ∀ (s : State) (k : Nat), (k < 10 → (s.giveBack (.fifo k)).fifoCount k = s.fifoCount k + 1)
    ∧ (k < 32 → (s.giveBack (.sem k)).semVal k = min 0xFFFF (s.semVal k + 1))
    ∧ (∀ (d : List Elem) (t : BitVec 4), k < 32 →
        (s.undo (.vreg k d t)).core.vregs.toList.getD k VReg.gated = { data := d, tag := t, power := .active })
    ∧ (∀ rows ue st gen, k < 256 →
        ((s.undo (.vst k rows ue st gen)).tile k) = { s.tile k with state := st, gen := gen })

/-- The end of a task, by exit, by WAITC or by a kill; a stall that clears; and the rollback of an iteration (08 R272, R273;
13 R410, R411, R413, R414; 01 R18, R27, R33). -/
def Obligations.TasksEndAndResume : Prop :=
  tasksSettle ∧ taskExits ∧ continuationRecords ∧ waitcEnds ∧ tasksEnd ∧ stallsClear ∧ rollbacksResume ∧ undoing

/-- Tokens and semaphores outside LOOP.S (01 R43 to R46; 08 R266 to R268): a wait takes one or stalls, inside LOOP.S noting what
it took for a rollback (13 R413); a signal, once nothing is on the way, gives one or stalls on a full FIFO; an increment past
0xFFFF traps SEM_OVERFLOW with the selector and leaves the semaphore; a pond-1 semaphore without a group traps POND_NONE. A
FENCE stalls while a command that it covers has accesses to make. Inside LOOP.S a signal or fence is held for the commit. -/
def Obligations.TokensSemaphoresAndFences : Prop :=
  ∀ (s : State) (sel : BitVec 6) (d : BitVec 5) (m : BitVec 16) (sc : BitVec 3),
    let f := sel.toNat - 1
    let g := sel.toNat - 16
    let p := sel.toNat - 48
    let took (t : State) (x : Take) : Host.Outcome State Fault Refusal :=
      .next (if s.holding then t.setLoop fun l => { l with taken := x :: l.taken } else t).retire
    let overflow := s.takeTrap 0x214 (sel.setWidth 22) (s.ir.setWidth 64)
    (1 ≤ sel.toNat → sel.toNat ≤ 10 → exec (.tokw sel) s
        = if s.fifoCount f = 0 then .next s.stallOn else took (s.setFifo f (s.fifoCount f - 1)) (.fifo f))
    ∧ (16 ≤ sel.toNat → sel.toNat < 48 → exec (.semw sel) s
        = if s.semVal g = 0 then .next s.stallOn else took (s.setSem g (s.semVal g - 1)) (.sem g))
    ∧ (48 ≤ sel.toNat → s.inGroup = true → exec (.semw sel) s
        = if s.psemVal p = 0 then .next s.stallOn else took (s.setPsem p (s.psemVal p - 1)) (.psem p))
    ∧ (s.holding = false → quietMemory s →
      (1 ≤ sel.toNat → sel.toNat ≤ 10 →
        exec (.toks sel) s = .next (if 8 ≤ s.fifoCount f then s.stallOn else (s.setFifo f (s.fifoCount f + 1)).retire))
      ∧ (16 ≤ sel.toNat → sel.toNat < 48 → exec (.sems sel) s
        = .next (if s.semVal g = 0xFFFF then overflow else (s.setSem g (s.semVal g + 1)).retire))
      ∧ (48 ≤ sel.toNat → s.inGroup = true → exec (.sems sel) s
        = .next (if s.psemVal p = 0xFFFF then overflow else (s.setPsem p (s.psemVal p + 1)).retire))
      ∧ exec (.fence sc m) s = .next s.retire)
    ∧ (s.holding = false → s.ctx.posted = [] → (∃ k ∈ s.ctx.cmds, k.hasAccesses = true ∧ k.seq < s.ctx.cmdSeq
        ∧ m.getLsbD k.cls.toNat = true) → exec (.fence sc m) s = .next s.stallOn)
    ∧ (s.holding = true → exec (.toks sel) s = .next (s.hold (.toks sel s.ctx.cmdSeq s.ctx.postSeq)).retire
        ∧ exec (.fence sc m) s = .next (s.hold (.fence m sc s.ctx.cmdSeq)).retire
        ∧ (16 ≤ sel.toNat → sel.toNat < 48 ∨ s.inGroup = true →
          exec (.sems sel) s = .next (s.hold (.sems sel s.ir s.ctx.cmdSeq s.ctx.postSeq)).retire))
    ∧ (16 ≤ sel.toNat → sel.toNat < 48 →
        exec (.semr d sel) s = .next (s.setReg d (BitVec.ofNat 64 (s.semVal g)) false).retire)
    ∧ (48 ≤ sel.toNat → s.inGroup = true →
        exec (.semr d sel) s = .next (s.setReg d (BitVec.ofNat 64 (s.psemVal p)) false).retire)
    ∧ (48 ≤ sel.toNat → s.inGroup = false → ∀ i ∈ [Instr.semw sel, .sems sel, .semr d sel],
        exec i s = .next (s.takeTrap 0x382 0 (s.ir.setWidth 64)))

/-- POND.SYNC and BARRIER_PASS (08 R269 to R271): with nothing on the way, a context that arrives at a barrier every member
has arrived at goes on and lets the others go; else it waits, and at levels 2 and 3, when its pond is not resident, its group
leaves; a waiting context whose barrier is open is made ACTIVE, at level 3 with other devices once the news of their arrival
has come. A group that has left comes back with the dispatch that the barrier of level 2 or 3 brings about. A level-3 barrier without a pond of devices traps POND_NONE, and one in a loop, at level 1 in a LOOP.S, LOOP_NEST. -/
def Obligations.Barriers : Prop :=
  (∀ (s : State) (l : BitVec 2), quietMemory s → l ≠ 0 → s.inLoopS = false → (l = 1 ∨ s.ctx.loop.levels = [])
    → (l = 3 → s.pondDevices ≠ 0) →
    let s2 := s.arrive l.toNat
    let k := arrivals s2.ctx.barrierCount l.toNat
    (s.ctx.atBarrier ≠ some l.toNat → k = arrivals s.ctx.barrierCount l.toNat + 1)
    ∧ (s2.barrierOpen l.toNat k = true → exec (.pondSync l) s
        = .next (let s3 := if s.ctx.atBarrier = some l.toNat then s2 else s2.later (.barrierPass l.toNat)
                 let s3 := if l = 1 then s3 else s3.later .dispatch
                 State.retire { s3 with ctx := { s3.ctx with atBarrier := none } }))
    ∧ (s2.barrierOpen l.toNat k = false → s.ctx.pendingFault = none →
        exec (.pondSync l) s
          = .next (if l = 1 ∨ s2.pondResident = true then s2.stallOn else s2.stallOn.leavePond l.toNat k)))
  ∧ (∀ (s : State) (l : BitVec 2), (l = 3 → s.pondDevices = 0 →
      exec (.pondSync l) s = .next (s.takeTrap 0x382 3 (s.ir.setWidth 64)))
    ∧ ((l = 3 → s.pondDevices ≠ 0) → (l ≠ 1 ∧ s.ctx.loop.levels ≠ []) ∨ s.inLoopS = true → exec (.pondSync l) s
      = .next (s.takeTrap 0x260 (BitVec.ofNat 22 s.ctx.loop.levels.length) (s.ir.setWidth 64))))
  ∧ (∀ (s : State) (j : Job) (level : Nat), 1 ≤ level → level ≤ 3 → s.here < s.ctxs.length → s.ctx.job = some j
    → s.ctx.status = .stalled → s.ctx.atBarrier = some level → (∀ c ∈ s.ctxs, c.atBarrier ≠ some level) →
    let next := (s.dev.sluice.launch? j.launch).elim 0 fun l => l.p3 + 1
    let news : State := { s with dev := { s.dev with sluice := s.dev.sluice.updLaunch j.launch fun l => { l with p3 := l.p3 + 1 } } }
    let go (t : State) : Host.Outcome State Fault Refusal :=
      let u : State := { t with ctx := { t.ctx with status := .active } }
      .next (if level = 1 then u else u.later .dispatch)
    (level ≠ 3 ∨ s.pondDevices < 2 → s.barrierOpen level (arrivals s.ctx.barrierCount level) = true →
      exec (.barrierPass level) s = go s)
    ∧ (level = 3 → 2 ≤ s.pondDevices → (s.siblings j).any (fun c => arrivals c.barrierCount 3 == next) = true →
        news.barrierOpen 3 next = true → news.barrierOpen 3 (arrivals s.ctx.barrierCount 3) = true →
        exec (.barrierPass level) s = go news))

/-- SNAPOPEN and SNAPPUB (08 R280 to R282; 10 R337): on a clean address outside LOOP.S that translates as a read into an SF
region of the pool whose version word lies in a BI region, SNAPOPEN of a newer version opens it, under a new epoch with the
region's clean lines dropped, and returns it, stalling while the scrubber has the epoch to come; of an older one it changes
nothing; SNAPPUB adds 1 to the version word once every dirty line of the region is written back, and returns the new version.
Elsewhere both trap SNAP_REGION, in LOOP.S LOOP_NEST, and on a poisoned address POISON_CONSUMED. -/
def Obligations.Snapshots : Prop :=
  ∀ (s : State) (d a : BitVec 5),
    let both := [Instr.snapopen d a, .snappub d a]
    (s.regPoison a = true → ∀ i ∈ both, exec i s = .next (s.takeTrap 0x180 (a.setWidth 22) (s.ir.setWidth 64)))
    ∧ (s.regPoison a = false → s.inLoopS = true → ∀ i ∈ both, exec i s
        = .next (s.takeTrap 0x260 (BitVec.ofNat 22 s.ctx.loop.levels.length) (s.ir.setWidth 64)))
    ∧ ∀ (s1 : State) (pa : Nat) (leaf : BitVec 64), s.regPoison a = false → s.inLoopS = false →
      s.access (s.reg a) .read = .ok (s1, pa, leaf) →
      (residency pa ≠ 2 → ∀ i ∈ both, exec i s = .next (s1.takeTrap 0x185 (BitVec.ofNat 22 (residency pa)) (s1.ir.setWidth 64)))
      ∧ (residency pa = 2 → s1.dev.regionOf pa = none → ∀ i ∈ both,
          exec i s = .next (s1.takeTrap 0x185 (BitVec.ofNat 22 (2 + 48)) (s1.ir.setWidth 64)))
      ∧ (∀ r i, residency pa = 2 → s1.dev.regionOf pa = some (r, i) → (r.mode ≠ 2 ∨ s1.dev.inBi r.verpa = false) →
          ∀ x ∈ both, exec x s = .next (s1.takeTrap 0x185
            (BitVec.ofNat 22 (2 + r.mode * 16 + if r.mode = 2 then 64 else 0)) (s1.ir.setWidth 64)))
      ∧ (∀ r i, residency pa = 2 → s1.dev.regionOf pa = some (r, i) → r.mode = 2 → s1.dev.inBi r.verpa = true →
        (let rd := s1.readPhys r.verpa 8 0
         let t := rd.1
         let v : Word := BitVec.ofNat 64 (leNat rd.2.1)
         let newer := rd.2.2 = false ∧ ¬v ≤ t.dev.openVersion i
         quietMemory s1 → s1.dev.noHead r.verpa = false →
         (rd.2.2 = true → exec (.snapopen d a) s = .next (t.setReg d v true).retire)
         ∧ (rd.2.2 = false → v ≤ t.dev.openVersion i → exec (.snapopen d a) s = .next (t.setReg d v false).retire)
         ∧ (newer → t.snapWaits = true → exec (.snapopen d a) s = .next t.stallOn)
         ∧ (newer → t.snapWaits = false → t.dev.epochBlocked = true → exec (.snapopen d a) s = .next t.markSnap.stallOn)
         ∧ (newer → t.snapWaits = false → t.dev.epochBlocked = false → ∃ dv : Device,
             exec (.snapopen d a) s = .next (State.setReg { t with dev := dv, ctx := { t.ctx with snapWait := none } } d v false).retire
             ∧ dv.epoch = t.dev.epoch + 1 ∧ dv.openVersion i = v ∧ dv.mem = t.dev.mem
             ∧ (∀ l, l ∈ dv.lines ↔ ∃ y ∈ t.dev.lines, (∀ x ∈ t.dev.lines, x.pa = y.pa → r.covers x.pa = true → x.dirty = true)
                 ∧ l = if r.covers y.pa then { y with stale := true } else y)))
        ∧ (quietMemory s1 → s1.cap.isEmpty = false → s1.dev.publishWaits r = false → s1.dev.noHead r.verpa = false →
          let s3 : State := { s1 with dev := s1.dev.publish r }
          let o := s3.atomAt .add r.verpa 3 0 1 0 false false (s.reg a)
          exec (.snappub d a) s = .next (o.1.setReg d (BitVec.ofNat 64 (o.2.1 + 1)) o.2.2).retire
          ∧ ∀ l ∈ s3.dev.lines, r.covers l.pa = true → l.dirty = false))

/-- ENQ and ENQ.NB (06 R189, R190; 01 R39, R40; 04 R128): on an enabled ring with room the four registers become the command in
the slot past WPTR and the held commands; WPTR advances and the engine has a turn, or, for RO in LOOP.S, the command is held
for the commit, where a 65th entry traps LOOP_STORE_OVERFLOW. On a full ring ENQ waits and ENQ.NB sets ENQST.FULL; a disabled
ring traps RING_DISABLED, quad 0 ILLEGAL_GROUP, a poisoned register POISON_CONSUMED with its number, and a command of the
arrays whose tiles fail the bank-group check as that says (06 R225). ENQ leaves ENQST as it is. -/
def Obligations.Enqueues : Prop :=
  ∀ (s : State) (n : BitVec 2) (q : BitVec 3),
    let r : Ring := if n = 0 then .ri else if n = 1 then .ro else .mx
    let g (k : Nat) : BitVec 5 := BitVec.ofNat 5 (4 * q.toNat + k)
    let w (k : Nat) : Word := s.reg (g k)
    let cmd : Cmd := { w0 := w 0, w1 := w 1, w2 := w 2, w3 := w 3 }
    let clear := ∀ k, k < 4 → s.regPoison (g k) = false
    let both := [Instr.enq n q, .enqNb n q]
    let trap (c : BitVec 10) (info : Nat) : Host.Outcome State Fault Refusal :=
      .next (s.takeTrap c (BitVec.ofNat 22 info) (s.ir.setWidth 64))
    let open_ := n ≠ 3 ∧ q ≠ 0 ∧ (s.ring r).en = true ∧ clear ∧ (n = 2 → s.bankCheck cmd = none)
    let ahead := if n = 1 then s.ctx.loop.heldRo else 0
    let slot := (s.ring r).slotAddr ((s.ring r).wptr + BitVec.ofNat 16 ahead)
    let written (t : State) : Prop := t.ctx.cmdSeq = s.ctx.cmdSeq + 1 ∧ t.ctx.regs = s.ctx.regs ∧ t.ctx.ctl = s.ctx.ctl
      ∧ t.core.tiles = s.core.tiles ∧ t.core.vregs = s.core.vregs ∧ t.dev = s.dev ∧ t.ctxs = s.ctxs
      ∧ (s.core.spad.wf = true → ∀ k, k < 4 → t.core.spad.readLE (slot + 8 * k) 8 = (w k).toNat)
    exec (.enq n 0) s = trap 0x003 0 ∧ exec (.enqNb n 0) s = trap 0x003 0
    ∧ (n ≠ 3 → q ≠ 0 → (s.ring r).en = false → ∀ i ∈ both, exec i s = trap 0x213 n.toNat)
    ∧ (n ≠ 3 → q ≠ 0 → (s.ring r).en = true → ∀ k, k < 4 → s.regPoison (g k) = true →
        (∀ j, j < k → s.regPoison (g j) = false) → ∀ i ∈ both, exec i s = trap 0x180 (g k).toNat)
    ∧ (n = 2 → q ≠ 0 → (s.ring r).en = true → clear → ∀ c x, s.bankCheck cmd = some (c, x) → ∀ i ∈ both,
        exec i s = trap c x)
    ∧ (open_ → s.ringFull r = true → exec (.enq n q) s = .next s.stallOn
        ∧ exec (.enqNb n q) s = .next (s.setCtl fun c => { c with enqst := true }).retire)
    ∧ (open_ → s.ringFull r = false → n = 1 → s.holding = true → 64 ≤ s.ctx.loop.storeCount → ∀ i ∈ both,
        exec i s = trap 0x261 64)
    ∧ (open_ → s.ringFull r = false → n = 1 → s.holding = true → s.ctx.loop.storeCount < 64 → ∃ t : State,
        exec (.enq n q) s = .next t.retire ∧ exec (.enqNb n q) s = .next (t.setCtl fun c => { c with enqst := false }).retire
        ∧ written t ∧ (t.ring r).wptr = (s.ring r).wptr ∧ t.ctx.cmds = s.ctx.cmds ∧ t.turns = s.turns
        ∧ t.ctx.loop = { s.ctx.loop with held := s.ctx.loop.held ++ [.roCommand s.ctx.cmdSeq], heldRo := s.ctx.loop.heldRo + 1 })
    ∧ (open_ → s.ringFull r = false → (n = 1 → s.holding = false) → ∃ t : State,
        exec (.enq n q) s = .next t.retire ∧ exec (.enqNb n q) s = .next (t.setCtl fun c => { c with enqst := false }).retire
        ∧ written t ∧ (t.ring r).wptr = (s.ring r).wptr + 1 ∧ .engine s.here r ∈ t.turns ∧ t.ctx.loop = s.ctx.loop
        ∧ (∃ k ∈ t.ctx.cmds, k.ring = r ∧ k.count = (s.ring r).wptr ∧ k.seq = s.ctx.cmdSeq ∧ k.stage = .queued
            ∧ k.kernel = s.kernel ∧ k.uncommitted = s.holding ∧ (s.core.spad.wf = true → ahead = 0 → k.cmd = cmd)))

end

/-! ## Engine commands -/

namespace Sys2Proof.Claims
open Sys2Proof Sys2Proof.Machine

/-- The commands of the rake, each with the work that its 32 bytes ask for. -/
noncomputable def rakeForms (r : Ring) (c : Cmd) : List (Instr × EngJob) :=
  [(.tload r c, tileJob c false false), (.tloadt r c, tileJob c true false), (.tstore r c, tileJob c false true),
   (.tstoret r c, tileJob c true true), (.copy r c, copyJob r c), (.fillTile r c, fillTileJob c),
   (.fillMemory r c, fillMemoryJob c), (.gather r c, indexJob c false), (.scatter r c, indexJob c true),
   (.bind r c, bindJob c), (.unbind r c, unbindJob c), (.mark r c, markJob c), (.bload r c, bloadJob c),
   (.bwait r c, bwaitJob c), (.bdisc r c, bdiscJob c), (.bflush r c, bflushJob c), (.rfetch r c, farJob c true),
   (.rsend r c, farJob c false), (.migrate r c, migrateJob r c), (.twback r c, twbackJob c), (.cinv r c, cinvJob c)]

/-- Those that keep the KV cache and the prefix tree (07). -/
noncomputable def kvForms (r : Ring) (c : Cmd) : List (Instr × EngJob) :=
  [(.kvappend r c, kvappendJob c), (.kvgrow r c, kvgrowJob c), (.kvcow r c, kvcowJob c), (.kvremap r c, kvremapJob c),
   (.pfxwalk r c, pfxwalkJob c), (.pfxins r c, pfxinsJob c), (.pfxrelSequence r c, pfxrelSequenceJob c),
   (.pfxrelList r c, pfxrelListJob c), (.pfxdirClaim r c, pfxdirClaimJob c), (.pfxdirShare r c, pfxdirShareJob c),
   (.pfxdirDrop r c, pfxdirDropJob c)]

/-- A command whose work is done: it waits for its effects to perform (06 R192). -/
def worked (t : State) (k : CmdRec) : State :=
  (t.updCmd k.seq fun x => { x with stage := CmdStage.moved }).later (.commandComplete k.ring)

/-- No command of the ring has issued and not completed its work; the ring runs, and no full FIFO holds it. -/
def ringIdle (s : State) (r : Ring) : Prop :=
  (s.ring r).halt = false ∧ (s.ring r).faulting = none ∧ s.ringHeld r = false
    ∧ ∀ k ∈ s.ctx.cmds, ¬(k.ring = r ∧ k.stage = .issued)

/-- The fault of a head that the engine has not issued: nothing but the ring's fault and the step that records it. -/
def headFaults (s : State) (i : Instr) (r : Ring) (cause : BitVec 10) (info : Nat) : Prop :=
  ∃ t : State, exec i s = .next t
    ∧ (t.ring r).faulting = some { cause := cause, info := BitVec.ofNat 22 info, va := 0, cursor := cursorOf [] }
    ∧ .own s.here (.engineFault r) ∈ t.turns ∧ t.ctx.regs = s.ctx.regs ∧ t.core = s.core ∧ t.dev = s.dev
    ∧ t.ctx.pc = s.ctx.pc ∧ (∀ q, q ≠ r → t.ring q = s.ring q)

/-- A head `k`, with the words `c` and the bits `bad` of it that fail, that steps 1 and 2 of R191 (06) find in order: its
selectors are its ring's, its iteration is committed, its wait can be taken, after which the state is `x`, and the context
has no other command and no access under way. -/
def readyHead (s : State) (r : Ring) (c : Cmd) (bad : List Nat) (k : CmdRec) (x : State) : Prop :=
  ringIdle s r ∧ s.head r = some k ∧ k.cmd = c ∧ k.uncommitted = false ∧ bad = [] ∧ (s.ring r).headPast2 = false
    ∧ s.selectorOk (mayWait r) (wordBits c.w0 8 6) = true ∧ s.selectorOk (maySignal r) (wordBits c.w0 14 6) = true
    ∧ s.ctx.cmds = [k] ∧ s.ctx.posted = [] ∧ s.ctx.peer = []
    ∧ ∃ (s1 : State) (tk : Option Take), s.take (selectorOf (wordBits c.w0 8 6)) = some (s1, tk)
        ∧ x = s1.updRing r fun y => { y with popped := tk, headPast2 := true }

/-- What a command asks of its tiles when it names none. -/
def noTiles : Gated := { targets := [], readers := [], words := [] }

/-- A tile of the context that waits for no first fill (01 R33, R35). -/
def mineNow (x : State) (i : Nat) : Prop :=
  (x.tile i).valid = true ∧ (x.tile i).owner.toNat = x.ctxNum ∧ (x.tile i).needsFill = false

/-- `n` bytes of one line that a command reads: `va` translates to an address that is no peer's, and no older access to the
bytes is under way. `bs` are the bytes, each marked if the line is poisoned, and `y` is the state after the read. -/
def lineRead (x : State) (k : CmdRec) (rv : Resolver) (va n : Nat) (bs : List Marked) (y : State) : Prop :=
  ∃ (z : State) (pa : Nat) (leaf : BitVec 64), 0 < n ∧ va % 128 + n ≤ 128 ∧ va < 2 ^ 64 ∧ rv x va .read = (z, .ok pa leaf)
    ∧ residency pa ≠ 3 ∧ z.pieceHeld k ⟨va, pa, n, leaf, false⟩ = false
    ∧ let got := z.dev.readLine (if k.na then [] else z.cap) pa n leaf
      bs = got.2.1.map (fun b => (b, got.2.2))
      ∧ y = (State.dropAnswers { z with dev := got.1 } (ringCode k.ring) [⟨va, pa, n, leaf, k.na⟩]).bump

/-- Bytes within one line that a command writes, under the same conditions; the line is poisoned if a byte is marked. -/
def lineWritten (x : State) (k : CmdRec) (rv : Resolver) (va : Nat) (bs : List Marked) (y : State) : Prop :=
  ∃ (z : State) (pa : Nat) (leaf : BitVec 64), 0 < bs.length ∧ va % 128 + bs.length ≤ 128 ∧ va < 2 ^ 64
    ∧ rv x va .write = (z, .ok pa leaf) ∧ residency pa ≠ 3 ∧ z.pieceHeld k ⟨va, pa, bs.length, leaf, false⟩ = false
    ∧ y = if k.na = true ∧ z.dev.poolGone pa = false
          then ({ z with dev := z.dev.writePast pa (bs.map (·.1)) leaf (bs.any (·.2)) } : State).reportKick pa
          else z.writePhys pa (bs.map (·.1)) leaf (bs.any (·.2)) (BitVec.ofNat 64 va)

end Sys2Proof.Claims

section
open Sys2Proof Sys2Proof.Machine Sys2Proof.Claims

/-- R191 and R196 for every command of the rake: the head is taken through its steps, its work is done, and it then waits for
its effects; an issued command goes on; a halted ring does nothing; a wait leaves the head where it is. -/
def Sys2Proof.Claims.rakeCommandsRun : Prop :=
  ∀ (s : State) (r : Ring) (c : Cmd) (x : Instr × EngJob), x ∈ rakeForms r c ++ kvForms r c →
    ((s.ring r).halt = true ∨ (s.ring r).faulting.isSome = true → exec x.1 s = .next s)
    ∧ (ringIdle s r → s.head r = none → exec x.1 s = .next s)
    ∧ (∀ k s1 k1 t, ringIdle s r → s.head r = some k → s.admitHead { k with cmd := c } x.2 = .ok (s1, k1)
        → x.2.body s1 k1 = .ok t → exec x.1 s = .next (worked t k1) ∧ k1.seq = k.seq ∧ k1.stage = .issued ∧ k1.ring = k.ring)
    ∧ (∀ k s1, ringIdle s r → s.head r = some k → s.admitHead { k with cmd := c } x.2 = .error (.wait s1) → exec x.1 s = .next s1)
    ∧ (∀ k t, (s.ring r).halt = false → (s.ring r).faulting = none
        → s.ctx.cmds.find? (fun k => k.ring == r && k.stage == .issued) = some k
        → x.2.body s { k with cmd := c } = .ok t → exec x.1 s = .next (worked t k))
    ∧ (∀ k t f, (s.ring r).halt = false → (s.ring r).faulting = none
        → s.ctx.cmds.find? (fun k => k.ring == r && k.stage == .issued) = some k
        → x.2.body s { k with cmd := c } = .error (.fault t f)
        → ∃ u : State, exec x.1 s = .next u ∧ (u.ring k.ring).faulting = some f ∧ .own t.here (.engineFault k.ring) ∈ u.turns)

/-- Step 1 of R191 (03 R100): a bit that fails raises CMD_FIELD, then WAIT and SIG are checked; nothing of the command happens, and no
wait is taken. That the lowest of several bad bits is reported (log entry 22), and that the fields come before the selectors, WAIT before
SIG, and all of them before the wait (log entry 21), is the model's choice. -/
def Sys2Proof.Claims.rakeFieldsFirst : Prop :=
  ∀ (s : State) (r : Ring) (c : Cmd) (x : Instr × EngJob) (k : CmdRec), x ∈ rakeForms r c ++ kvForms r c → ringIdle s r →
    s.head r = some k →
    let w := wordBits c.w0 8 6
    let g := wordBits c.w0 14 6
    (∀ b ∈ x.2.bad, (∀ b' ∈ x.2.bad, b ≤ b') → headFaults s x.1 r 0x211 b)
    ∧ (x.2.bad = [] → k.ring = r → s.selectorOk (mayWait r) w = false → headFaults s x.1 r 0x212 w)
    ∧ (x.2.bad = [] → k.ring = r → s.selectorOk (mayWait r) w = true → s.selectorOk (maySignal r) g = false →
        headFaults s x.1 r 0x212 (64 + g))

/-- UNBIND, MARK, BWAIT, BDISC and MIGRATE (06 R202, R211, R212, R214, R217): the handle is forgotten; MARK does nothing but
to signal; BWAIT is done once every line of its block is filled, and waits before; the block's lines are dropped with what
they hold, those of the block that was declared at the address (by address space and virtual address) or, where none was, the one line
of a block that a miss made there (10 R329); a request for each page is queued. How a block is named, and that BDISC of an address that
does not translate drops nothing, is the model's choice (log entry 24). -/
def Sys2Proof.Claims.simpleCommandsWork : Prop :=
  ∀ (s x : State) (r : Ring) (c : Cmd) (k : CmdRec),
    let y := (x.issue k noTiles).1
    let does (i : Instr) (t : State) : Prop := exec i s = .next (worked t (x.issue k noTiles).2)
    let block := y.dev.blocksAt y.ctx.asid (wordBits c.w1 0 56)
    let pages := y.pagesFrom (wordBits c.w2 0 16 + 1) (wordBits c.w1 0 56)
    (∀ (d : Device) (pa l : Nat), l ∈ d.missedLine pa ↔ l = lineOf pa ∧ ∃ b ∈ d.blocks, b.nl = 0 ∧ l ∈ b.lines)
    ∧ (readyHead s r c (unbindJob c).bad k x → wordBits c.w1 0 10 < x.ctx.ctl.htlim.toNat →
      does (.unbind r c) { y with ctx := { y.ctx with binds := y.ctx.binds.filter fun b => b.handle != wordBits c.w1 0 10 } })
    ∧ (readyHead s r c (markJob c).bad k x → does (.mark r c) y)
    ∧ (readyHead s r c (bwaitJob c).bad k x → (∀ b ∈ block, b.done = true) → does (.bwait r c) y)
    ∧ (readyHead s r c (bwaitJob c).bad k x → (∃ b ∈ block, b.done = false) → exec (.bwait r c) s = .next x)
    ∧ (readyHead s r c (bdiscJob c).bad k x → block ≠ [] →
        does (.bdisc r c) { y with dev := (block.flatMap (·.lines)).foldl Device.dropLine y.dev })
    ∧ (∀ z, readyHead s r c (bdiscJob c).bad k x → block = [] →
        (∀ cause info, y.translate k.kernel (wordBits c.w1 0 56) .read = (z, .fault cause info) → does (.bdisc r c) z)
        ∧ ∀ pa leaf, y.translate k.kernel (wordBits c.w1 0 56) .read = (z, .ok pa leaf) →
            does (.bdisc r c) { z with dev := (z.dev.missedLine pa).foldl Device.dropLine z.dev })
    ∧ (readyHead s r c (migrateJob r c).bad k x → does (.migrate r c) { y with dev := { y.dev with mig := { y.dev.mig with
          reqs := y.dev.mig.reqs ++ pages.map fun va => ⟨y.ctx.asid, y.ctx.root, va, wordBits c.w0 32 4, c.w3, none⟩ } } })

/-- FILL (06 R209): of a tile that may be written, every row gets the four bytes of the pattern over and over, and one of
grains zero blocks; of memory, here within one line, every byte gets the pattern's byte. -/
def Sys2Proof.Claims.fillsWork : Prop :=
  ∀ (s x : State) (r : Ring) (c : Cmd) (k : CmdRec),
    let i := wordBits c.w1 0 8
    let va := wordBits c.w2 0 56
    let len := wordBits c.w3 0 32
    let pattern (b : Nat) : Byte := c.w0.extractLsb' (32 + 8 * (b % 4)) 8
    let rows (z : State) (f : Nat → Marked) : State := (List.range ((z.tile i).rows.toNat + 1)).foldl
      (fun u n => u.rowWrite (z.tile i) n 0 ((List.range (z.tile i).width.toNat).map f)) z
    (readyHead s r c (fillTileJob c).bad k x → mineNow x i → (x.tile i).mayWrite = true →
      let y := x.issue k { targets := [(i, .filling)], readers := [], words := [] }
      ((x.tile i).isMx = false → exec (.fillTile r c) s = .next (worked (rows y.1 fun b => (pattern b, false)) y.2))
      ∧ ((x.tile i).isMx = true → (x.tile i).width.toNat % 36 = 0 →
          exec (.fillTile r c) s = .next (worked (rows y.1 fun b => (zeroGrain.getD (b % 36) 0, false)) y.2)))
    ∧ (∀ z, readyHead s r c (fillMemoryJob c).bad k x → let y := x.issue k noTiles
        lineWritten y.1 y.2 y.2.plain va ((List.range len).map fun b => (pattern b, false)) z →
        exec (.fillMemory r c) s = .next (worked (z.advance k.seq len) y.2))

/-- GATHER and SCATTER (06 R210) of one index, with its bytes in one line: RLEN bytes at BVA + index × RSTR go to the row of
TILE, or come from it; index 2³¹ gathers zeros and scatters nothing. That bytes which an uncorrectable index moves are marked is the model's choice (log entry
23). -/
def Sys2Proof.Claims.indexedTransfersWork : Prop :=
  ∀ (s x : State) (r : Ring) (c : Cmd) (k : CmdRec),
    let m := indexMove c
    let y (st : TileState) : State × CmdRec := x.issue k { targets := [(m.tile, st)], readers := [m.itile], words := [] }
    let ready (may : Tile → Bool) : Prop := mineNow x m.tile ∧ mineNow x m.itile ∧ may (x.tile m.tile) = true
      ∧ (x.tile m.itile).mayRead = true ∧ m.check x (x.tile m.tile) (x.tile m.itile) = .ok () ∧ m.rows = 1
    let marks (e : Nat × Bool) (bs : List Marked) : List Marked := if e.2 then bs.map fun b => (b.1, true) else bs
    let va (e : Nat × Bool) : Nat := wrapVa ((m.bva : Int) + toSigned 32 e.1 * m.rstr)
    (readyHead s r c (indexJob c false).bad k x → ready Tile.mayWrite →
      let y := y .filling
      let e := m.entry y.1 0
      let t := y.1.tile m.tile
      (e.1 = 2 ^ 31 → exec (.gather r c) s
          = .next (worked ((y.1.rowWrite t 0 0 (marks e (List.replicate m.rlen (0, false)))).advance k.seq m.rlen) y.2))
      ∧ (∀ bs z, e.1 ≠ 2 ^ 31 → lineRead y.1 y.2 y.2.plain (va e) m.rlen bs z →
          exec (.gather r c) s = .next (worked ((z.rowWrite t 0 0 (marks e bs)).advance k.seq m.rlen) y.2)))
    ∧ (readyHead s r c (indexJob c true).bad k x → ready Tile.mayStore →
      let y := y .draining
      let e := m.entry y.1 0
      (e.1 = 2 ^ 31 → exec (.scatter r c) s = .next (worked (y.1.advance k.seq m.rlen) y.2))
      ∧ (∀ z, e.1 ≠ 2 ^ 31 →
          lineWritten y.1 y.2 y.2.plain (va e) (marks e (y.1.rowRead (y.1.tile m.tile) 0 0 m.rlen)) z →
          exec (.scatter r c) s = .next (worked (z.advance k.seq m.rlen) y.2)))

/-- TLOAD, TLOADT, TSTORE and TSTORET (06 R204 to R206) of one tile row of an unpacked tensor whose elements lie inside it
and side by side in one line: the elements at BASE + Σ xᵢ × STRIDEᵢ go to the tile's row, or come from it. -/
def Sys2Proof.Claims.tileTransfersWork : Prop :=
  ∀ (s x : State) (r : Ring) (c : Cmd) (k : CmdRec) (f : Instr × Bool × Bool) (b : Binding),
    f ∈ [(Instr.tload r c, false, false), (.tloadt r c, true, false), (.tstore r c, false, true), (.tstoret r c, true, true)] →
    let flip := f.2.1
    let store := f.2.2
    let m := tileMove c flip
    let h := Handle.ofWords (packWords 16 b.image)
    let y := x.issue k { targets := [(m.tile, if store then .draining else .filling)], readers := [],
                         words := packWords 16 b.image, handles := [m.hnd] }
    let t := y.1.tile m.tile
    let va := wrapVa (h.addrFrom h.base (m.coords h 0 0))
    let n := m.cols * h.esize
    readyHead s r c (tileJob c flip store).bad k x → m.hnd < x.ctx.ctl.htlim.toNat →
    x.ctx.binds.find? (fun b => b.handle == m.hnd) = some b → mineNow x m.tile →
    (if store then (x.tile m.tile).mayStore else (x.tile m.tile).mayWrite) = true →
    m.check x (Handle.ofBytes b.image) (x.tile m.tile) = .ok () → h.packed = false → m.rows = 1 → m.inside h 0 = m.cols →
    (m.cols = 1 ∨ h.stride.getD (if flip then 1 else 0) 0 = (h.esize : Int)) →
    (∀ bs z, store = false → lineRead y.1 y.2 (viaHandle y.2 m.hnd h) va n bs z →
      exec f.1 s = .next (worked ((z.rowWrite t m.row0 0 bs).advance k.seq m.cols) y.2))
    ∧ (∀ z, store = true → lineWritten y.1 y.2 (viaHandle y.2 m.hnd h) va (y.1.rowRead t m.row0 0 n) z →
      exec f.1 s = .next (worked (z.advance k.seq m.cols) y.2))

/-- COPY (06 R208) of a region of one row whose elements lie side by side in one line at either end, where the two ends do
not overlap: the destination's elements take the source's, poison with them. -/
def Sys2Proof.Claims.copiesWork : Prop :=
  ∀ (s x : State) (r : Ring) (c : Cmd) (k : CmdRec) (a b : Binding),
    let hs := wordBits c.w3 0 10
    let hd := wordBits c.w3 16 10
    let ws := packWords 16 a.image ++ packWords 16 b.image
    let m := copyMove c ws
    let y := x.issue k { targets := [], readers := [], words := ws, handles := [hs, hd] }
    let e := m.src.esize
    let n := m.src.size.getD 0 1
    let at0 := (mixedRadix m.src.size 0).1
    readyHead s r c (copyJob r c).bad k x → hs < x.ctx.ctl.htlim.toNat → hd < x.ctx.ctl.htlim.toNat →
    x.ctx.binds.find? (fun b => b.handle == hs) = some a → x.ctx.binds.find? (fun b => b.handle == hd) = some b →
    (Handle.ofBytes a.image).fmt = (Handle.ofBytes b.image).fmt → (Handle.ofBytes a.image).packed = false →
    0 < n → m.src.size.foldl (· * ·) 1 = n → m.overlap = false →
    (n = 1 ∨ (m.src.stride.getD 0 0 = (e : Int) ∧ m.dst.stride.getD 0 0 = (e : Int))) →
    ∀ bs z w, lineRead y.1 y.2 (viaHandle y.2 hs m.src) (wrapVa (m.src.addrFrom m.sbase at0)) (n * e) bs z →
      lineWritten z y.2 (viaHandle y.2 hd m.dst) (wrapVa (m.dst.addrFrom m.dbase at0)) (bs.take (n * e)) w →
      exec (.copy r c) s = .next (worked (w.advance k.seq n) y.2)

/-- BIND (06 R202, R203) of a handle that is in order, whose 128 bytes can be read: the copy is kept, in place of the
handle's older one, with no page for a tensor that each access translates, and with its page for one of HBM that lies in a
single page. -/
def Sys2Proof.Claims.bindingsWork : Prop :=
  ∀ (s x z : State) (r : Ring) (c : Cmd) (k : CmdRec) (bs : List Marked),
    let hnd := wordBits c.w1 0 10
    let y := x.issue k noTiles
    let ws := packWords 16 (bs.map (·.1))
    let h := Handle.ofWords ws
    let u := z.updWork k.seq fun w => { w with words := ws }
    let kept (v : State) : Prop := exec (.bind r c) s = .next (worked (v.keepBinding hnd (v.workOf k.seq)) y.2)
    readyHead s r c (bindJob c).bad k x → hnd < x.ctx.ctl.htlim.toNat →
    (x.ctx.binds.length < 64 ∨ ∃ b ∈ x.ctx.binds, b.handle = hnd) →
    lineRead y.1 y.2 y.2.plain (y.1.ctx.ctl.htbase.toNat * 128 + 128 * hnd) 128 bs z →
    h.fieldBad = false → h.layoutBad = false →
    (h.res ≠ 0 ∨ h.packed = true → kept u)
    ∧ (∀ u1 pa leaf lvl e, h.res = 0 → h.packed = false →
        let lo := wrapVa h.span.1
        let base := lo / 2 ^ pageShift lvl * 2 ^ pageShift lvl
        u.translate k.kernel lo .read = (u1, .ok pa leaf) → u1.pageAt u1.ctx.asid u1.ctx.root lo = some (lvl, e) →
        lo + (h.span.2 - h.span.1).toNat < base + 2 ^ pageShift lvl →
        kept (u1.updWork k.seq fun w =>
          { w with progress := 1, words := w.words ++ [BitVec.ofNat 64 base, BitVec.ofNat 64 lvl, leaf] }))

/-- BLOAD and BFLUSH (06 R211), of one line: BLOAD declares and fills the block, unless it is declared or there is no block
cache; BFLUSH writes back the dirty lines of the block, declared or made by a miss (10 R329; 18 R497), and drops
it if I is 1. That BLOAD fills in its own step, and how a block is named, is the model's choice (log entry 24). -/
def Sys2Proof.Claims.blockCommandsWork : Prop :=
  ∀ (s x : State) (r : Ring) (c : Cmd) (k : CmdRec),
    let va := wordBits c.w1 0 56
    let nl := wordBits c.w1 56 6 + 1
    let y := (x.issue k noTiles).1
    let does (i : Instr) (t : State) : Prop := exec i s = .next (worked t (x.issue k noTiles).2)
    let noting (z : State) (pa : Nat) (leaf : BitVec 64) : State :=
      (z.updWork k.seq fun w => { w with words := w.words ++ [BitVec.ofNat 64 pa, leaf] }).advance k.seq 1
    (readyHead s r c (bloadJob c).bad k x →
      (y.cap = [] ∨ (∃ b ∈ y.dev.blocksAt y.ctx.asid va, b.nl = nl) → does (.bload r c) y)
      ∧ (∀ z pa leaf, y.cap ≠ [] → (∀ b ∈ y.dev.blocksAt y.ctx.asid va, b.nl ≠ nl) → nl = 1 → pa < 2 ^ 64 →
          y.translate k.kernel va .read = (z, .ok pa leaf) → z.dev.cacheable pa leaf = true →
          z.dev.spanWaits (lineOf pa) 128 = false →
          let u := noting z pa leaf
          let d := (u.dev.splitBlock u.ctx.asid va).declareBlock u.cap va 1 u.ctx.asid [(pa, leaf)]
          does (.bload r c) (({ u with dev := d } : State).later (.blockFill va))))
    ∧ (readyHead s r c (bflushJob c).bad k x →
      (∀ z, y.dev.blocksAt y.ctx.asid va = [] →
          (∀ cause info, y.translate k.kernel va .read = (z, .fault cause info) → does (.bflush r c) z)
          ∧ ∀ pa leaf, y.translate k.kernel va .read = (z, .ok pa leaf) →
              let ls := z.dev.missedLine pa
              (∀ l ∈ ls, z.dev.spanWaits l 128 = false) →
              let d := ls.foldl Device.cleanLine z.dev
              does (.bflush r c) { z with dev := if c.w0.getLsbD 27 then ls.foldl Device.dropLine d else d })
      ∧ (∀ z pa leaf b bs, y.dev.blocksAt y.ctx.asid va = b :: bs → b.nl = 1 →
          y.translate k.kernel va .read = (z, .ok pa leaf) →
          let u := noting z pa leaf
          let ls := u.dev.blockLines y.ctx.asid va
          (∀ l ∈ ls, u.dev.spanWaits l 128 = false) →
          let d := ls.foldl Device.cleanLine u.dev
          does (.bflush r c) { u with dev := if c.w0.getLsbD 27 then ls.foldl Device.dropLine d else d }))

/-- RFETCH and RSEND of one line (06 R213): the far end is the pool or a peer, the near one local HBM or a vault; the line is
read at its source, kept in the lagoon too if RFETCH's flag asks for it, and written at its destination. -/
def Sys2Proof.Claims.farTransfersWork : Prop :=
  ∀ (s x : State) (r : Ring) (c : Cmd) (k : CmdRec) (fetch : Bool),
    let sva := wordBits c.w1 0 56
    let dva := wordBits c.w2 0 56
    let y := x.issue k noTiles
    readyHead s r c (farJob c fetch).bad k x → wordBits c.w3 0 25 = 128 →
    ∀ z1 z2 z3 z4 pa pb la lb bs, y.1.translate k.kernel sva .read = (z1, .ok pa la) →
      (if fetch then farEnd pa else nearEnd pa) = true → z1.translate k.kernel dva .write = (z2, .ok pb lb) →
      (if fetch then nearEnd pb else farEnd pb) = true → lineRead z2 y.2 y.2.plain sva 128 bs z3 →
      let z := if fetch && c.w0.getLsbD 27 then { z3 with dev := z3.dev.fillFrame pa (leafPmode la) } else z3
      lineWritten z y.2 y.2.plain dva bs z4 →
      exec (if fetch then .rfetch r c else .rsend r c) s = .next (worked (z4.advance k.seq 128) y.2)

/-- TWBACK and CINV (06 R215, R216): a clean tile is left as it is, the row of a dirty one of one row, which lies in one line,
goes to its region, and DIRTY clears; CINV of bytes of one page writes back and invalidates the lines that hold them. -/
def Sys2Proof.Claims.writeBacksWork : Prop :=
  ∀ (s x : State) (r : Ring) (c : Cmd) (k : CmdRec),
    let i := wordBits c.w1 0 8
    let y := x.issue k { targets := [(i, .draining)], readers := [], words := [] }
    let t := y.1.tile i
    let va := wordBits c.w1 0 56
    let len := wordBits c.w2 0 32
    (readyHead s r c (twbackJob c).bad k x → mineNow x i → (x.tile i).rmap = true → (x.tile i).mayStore = true →
      (t.dirty = false → exec (.twback r c) s = .next (worked y.1 y.2))
      ∧ (∀ z pa leaf, let bs := y.1.rowRead t 0 0 t.width.toNat
          t.dirty = true → t.rows = 0 → 0 < t.width.toNat → t.rva.toNat % 128 + t.width.toNat ≤ 128 →
          y.1.translate k.kernel t.rva.toNat .write = (z, .ok pa leaf) → residency pa ≠ 3 →
          exec (.twback r c) s = .next (worked ((z.writePhys pa (bs.map (·.1)) leaf (bs.any (·.2)) (t.rva.setWidth 64)).updTile i
            fun e => { e with dirty := false }) y.2)))
    ∧ (readyHead s r c (cinvJob c).bad k x → let y := x.issue k noTiles
      ∀ z pa leaf, va % 2 ^ 16 + len ≤ 2 ^ 16 → y.1.translate k.kernel va .read = (z, .ok pa leaf) →
        z.pieceHeld k ⟨va, pa, len, leaf, false⟩ = false → z.dev.spanWaits pa len = false →
        exec (.cinv r c) s = .next (worked (({ z with dev := z.dev.flushSpan pa len } : State).advance k.seq len) y.2))

/-- The commands of the rake and of the KV cache: how they run and what step 1 refuses (06 R191, R196; 03 R100), and what
the commands that transfer nothing do (06 R202, R209, R211, R212, R214, R217). Clauses that rest on the model's choices say so: log
entries 21, 22 and 24. -/
def Obligations.EngineCommands : Prop := rakeCommandsRun ∧ rakeFieldsFirst ∧ simpleCommandsWork ∧ fillsWork

/-- What the commands of the rake that transfer data do (06 R202 to R216; log entries 23 and 24), each for the least transfer, of one row,
line or index, where its fields and tiles are in order and the bytes it reaches can be reached. -/
def Obligations.RakeTransfers : Prop :=
  tileTransfersWork ∧ indexedTransfersWork ∧ copiesWork ∧ bindingsWork ∧ blockCommandsWork ∧ farTransfersWork ∧ writeBacksWork

end

/-! ## KV and prefix commands -/

namespace Sys2Proof.Claims
open Sys2Proof Sys2Proof.Machine

/-! The accesses that make up the course of a KV or prefix command, in its order: each takes the machine from one state to
the next, and is noted in the command (07 R240). -/

/-- One access of a command. -/
abbrev Leg := State → State → Prop

/-- Accesses one after another. -/
def course : List Leg → Leg
  | [] => fun x y => y = x
  | l :: ls => fun x y => ∃ z, l x z ∧ course ls z y

/-- An access noted with its answer, and whether it has changed anything. -/
def noted (x : State) (k : CmdRec) (effect : Bool) (r : List Nat) : State :=
  x.updWork k.seq fun w => { w with log := w.log ++ [(effect, r)] }

/-- The cursor of a command. -/
def cursorNow (x : State) (k : CmdRec) : List (BitVec 32) := cursorOf [(x.workOf k.seq).progress]

/-- `n` bytes of a structure, at `va`, lie at their atomic home, which is no peer (07 R238). -/
def homedSpan (k : CmdRec) (va n : Nat) : Leg := fun x y => ∃ z p ps,
  x.rangeBy k.plain .read (va % 2 ^ 64) n = (z, .ok (p :: ps)) ∧ (∀ q ∈ p :: ps, z.atomicHome q.pa q.leaf = true)
    ∧ residency p.pa ≠ 3 ∧ y = noted z k false [residency p.pa]

/-- The same of a structure in one line. -/
def homed (k : CmdRec) (va : Nat) : Leg := homedSpan k va 1

/-- `n` bytes at `va` can be read, and are `bs`, none of them poisoned. -/
def fetched (k : CmdRec) (va n : Nat) (bs : List Byte) : Leg := fun x y => ∃ z,
  x.engFetch k (cursorNow x k) (va % 2 ^ 64) n = .ok (z, clean bs) ∧ y = noted z k false (answerBytes (clean bs))

/-- A number read. -/
def fetchedNat (k : CmdRec) (va n v : Nat) : Leg := fun x y => ∃ bs, leNat bs = v ∧ fetched k va n bs x y

/-- Bytes written at `va`. -/
def put (k : CmdRec) (va : Nat) (bs : List Marked) : Leg := fun x y => ∃ z,
  x.engPut k (cursorNow x k) (va % 2 ^ 64) bs = .ok z ∧ y = noted z k true []

/-- The addresses of a write that an indivisible step makes later translate. -/
def touched (k : CmdRec) (va n : Nat) : Leg := fun x y => ∃ z ps,
  x.rangeBy k.plain .write (va % 2 ^ 64) n = (z, .ok ps) ∧ y = noted z k false []

/-- Every write of the command's class has been acknowledged. -/
def allAcked (k : CmdRec) : Leg := fun x y => x.ctx.unacked (oneClass k.cls) x.ctx.postSeq = false ∧ y = noted x k false []

/-- The word at `va`, which holds `old`, changed as one action; left as it is where `f` gives no new value. -/
def changed (k : CmdRec) (va n : Nat) (f : Nat → Option Nat) (old : Nat) : Leg := fun x y => ∃ z ps w bs,
  x.rangeBy k.plain .atomic va n = (z, .ok ps) ∧ ps.any (z.pieceHeld k) = false
    ∧ z.readPieces (ringCode k.ring) ps = (w, clean bs) ∧ leNat bs = old
    ∧ (f old = none → y = noted w k false [old])
    ∧ (∀ v, f old = some v → ∃ u, w.writePieces k.cls k.scope ps (clean (leBytes n v)) = some u ∧ y = noted u k true [old])

/-- `n` bytes copied, 2 KiB at a time, poison with them. -/
def copied (k : CmdRec) (src dst n : Nat) : List Leg :=
  (List.range ((n + 2047) / 2048)).map fun i => fun x y => ∃ z u bs,
    x.engFetch k (cursorNow x k) ((src + 2048 * i) % 2 ^ 64) (min 2048 (n - 2048 * i)) = .ok (z, bs)
      ∧ z.engPut k (cursorNow x k) ((dst + 2048 * i) % 2 ^ 64) bs = .ok u ∧ y = noted u k true []

/-- A restart point. -/
def pointed (k : CmdRec) (n : Nat) (ws : List Word) : Leg := fun x y =>
  y = x.updWork k.seq fun w => { w with progress := n, words := ws, log := [] }

/-- Something that holds at this place of the course. -/
def seen (f : State → Prop) : Leg := fun x y => f x ∧ y = x

/-- A register of the context changed. -/
def sets (f : Ctl → Ctl) : Leg := fun x y => y = x.setCtl f

/-- A commit of a head whose VER is still the one read (07 R237). -/
def nextVer (old new : KvHead) : KvHead := { new with ver := (old.ver + 1) % 2 ^ 16 }
def commits (k : CmdRec) (dva : Nat) (old new : KvHead) : List Leg :=
  [allAcked k, homed k dva,
   fun x y => ∃ z u bs, x.engFetch k (cursorNow x k) (dva % 2 ^ 64) 32 = .ok (z, clean bs) ∧ fieldLE bs 10 2 = old.ver
     ∧ z.engPut k (cursorNow x k) (dva % 2 ^ 64) (clean (nextVer old new).image) = .ok u ∧ y = noted u k true [],
   allAcked k]

/-- A head, and the KV space that it names, read. -/
def headRead (k : CmdRec) (dva : Nat) (hb : List Byte) : List Leg := [homed k dva, fetched k dva 64 hb]
def layerRead (k : CmdRec) (dva : Nat) (hb kb : List Byte) : List Leg :=
  headRead k dva hb ++ [fetched k (KvHead.ofBytes hb).ksva 64 kb]

/-- The slot that a head is about to release is one of the KV space that it names, which is read for that (11 R354, R359). -/
def releaseRead (k : CmdRec) (hb kb : List Byte) : List Leg :=
  if (KvHead.ofBytes hb).prel = noSlot then [] else [fetched k (KvHead.ofBytes hb).ksva 64 kb]
def releaseOk (hb kb : List Byte) : Prop :=
  (KvHead.ofBytes hb).prel = noSlot ∨ ∃ ks, KvSpace.ofBytes kb = some ks ∧ (KvHead.ofBytes hb).prel < ks.nslots

/-- A head that a command which writes it may go on with: in order, of a KV space in order with such a layer, with no move and
no release pending (07 R235, R236, R241). -/
def layerOpen (lay : Nat) (hb kb : List Byte) (h : KvHead) (ks : KvSpace) : Prop :=
  headBad hb = false ∧ h = KvHead.ofBytes hb ∧ KvSpace.ofBytes kb = some ks ∧ lay < ks.layers ∧ h.prel = noSlot ∧ h.move = false

/-- The free queue read: `qb` are its first 32 bytes. -/
def queueRead (k : CmdRec) (ks : KvSpace) (qb : List Byte) : List Leg := [homed k ks.freeq, fetched k ks.freeq 32 qb]

/-- A slot's count, which is `old`, one less (07 R239); at 0 the slot goes to entry `n` of the free queue (11 R365). -/
def lowers (k : CmdRec) (ks : KvSpace) (g old : Nat) (qb : List Byte) (n : Nat) : List Leg :=
  let va := ks.rcnt + 4 * g
  let ev := fieldLE qb 24 8 % 2 ^ 56 + 4 * (n % fieldLE qb 16 4)
  [homed k va, fetchedNat k va 4 old] ++ (if old = 1 then queueRead k ks qb else [])
    ++ [homed k va, changed k (va % 2 ^ 64) 4 (fun v => if v = 0 then none else some (v - 1)) old]
    ++ if old = 1 then
         queueRead k ks qb ++ [homed k ks.freeq, changed k (ks.freeq % 2 ^ 64) 8 (fun v => some ((v + 1) % 2 ^ 64)) n,
           homed k ev, touched k ev 4, allAcked k,
           fun x y => ∃ z u bs, x.engFetch k (cursorNow x k) (ev % 2 ^ 64) 4 = .ok (z, clean bs) ∧ leNat bs = noSlot
             ∧ z.engPut k (cursorNow x k) (ev % 2 ^ 64) (clean (leBytes 4 g)) = .ok u ∧ y = noted u k true []]
       else []

/-- A slot whose count may fall: there is one, and a free queue in order. -/
def lowerable (ks : KvSpace) (g old : Nat) (qb : List Byte) : Prop :=
  g < ks.nslots ∧ 0 < old ∧ (old = 1 → fieldLE qb 16 4 ≠ 0 ∧ fieldLE qb 24 8 % 2 ^ 56 % 4 = 0)

/-- The new count of an increment (07 R239): none at the greatest count, nor, of a conditional one, at 0. -/
def raisedCount (conditional : Bool) (v : Nat) : Option Nat :=
  if v = noSlot ∨ (conditional = true ∧ v = 0) then none else some (v + 1)

/-- The copy-on-write of a partly filled last prefix page (07 R243): the page of slot `g` goes to the slab, and the count of
`g`, which is `old`, falls. -/
def cowHead (h : KvHead) (g : Nat) : KvHead :=
  nextVer h { h with plen := h.plen - h.plen % 64, npfx := h.npfx - 1, prel := g }
def needsCow (h : KvHead) : Bool := h.len == h.plen && h.plen % 64 != 0
def cows (k : CmdRec) (ks : KvSpace) (dva : Nat) (h : KvHead) (g old : Nat) (qb : List Byte) (n : Nat) : List Leg :=
  if needsCow h then
    [fetchedNat k (h.pseg + 4 * (h.npfx - 1)) 4 g] ++ copied k (ks.pool + g * ks.pslot) h.slab ks.page
      ++ commits k dva h { h with plen := h.plen - h.plen % 64, npfx := h.npfx - 1, prel := g }
      ++ [touched k dva 32] ++ lowers k ks g old qb n ++ commits k dva (cowHead h g) { cowHead h g with prel := noSlot }
  else []
def afterCow (h : KvHead) (g : Nat) : KvHead :=
  if needsCow h then nextVer (cowHead h g) { cowHead h g with prel := noSlot } else h

/-- The element of VT at a row and channel, with its mark (07 R244). -/
def vtAt (x : State) (a : Append) (row ch : Nat) : FVal × Bool :=
  let u := x.tile a.vt
  let es := if u.fmt == 1 then 4 else 2
  let bs := x.rowRead u row (es * ch) es
  (vtValue (u.fmt == 1) (leNat (bs.map (·.1))), bs.any (·.2))

/-- What a KVAPPEND finds for token `i` (07 R242, R244): for each head the parts of its K cell, which are its records and the zeros
behind them; and for each head and channel
the element of VT and, where its block is open, the V record's format and bytes. -/
structure TokenData where
  cell : Nat → List (List Marked)
  value : Nat → Nat → FVal × Bool
  format : Nat → Nat → Efmt
  record : Nat → Nat → List Byte

/-- Parts written one behind the other, each by itself (09 R293, R320). -/
def putsAt (k : CmdRec) : Nat → List (List Marked) → List Leg
  | _, [] => []
  | va, r :: rs => put k va r :: putsAt k (va + r.length) rs

/-- One token of a KVAPPEND: every byte that it writes translates; its grains are in order; then, head by head, the K cell
is written, and for each channel the V element is put into its record. -/
def tokenLegs (k : CmdRec) (a : Append) (h : KvHead) (ks : KvSpace) (i : Nat) (d : TokenData) : List Leg :=
  let q := h.len + i - h.plen
  let t := q % 64
  let page := h.slab + q / 64 * ks.pslot
  let va (j ch : Nat) : Nat := ks.vrecAt page j ch (t / 32)
  let row (j : Nat) : Nat := a.row0 + ks.heads * i + j
  let heads (f : Nat → List Leg) : List Leg := (List.range ks.heads).flatMap f
  let chans (f : Nat → List Leg) : List Leg := (List.range ks.d).flatMap f
  heads (fun j => touched k (ks.cellAt page j t) ks.kcell :: chans fun ch => [touched k (va j ch) ks.vrec])
    ++ [seen fun x => ∀ j, j < ks.heads → ∃ rs,
          kRecords ((x.tile a.kt).fmt == 10) ks.krec
              ((List.range (ks.d / 32)).map fun b => x.rowRead (x.tile a.kt) (row j) (36 * b) 36) = .ok rs
            ∧ d.cell j = rs ++ [clean (List.replicate (ks.kcell - rs.flatten.length) 0)]]
    ++ (if t % 32 = 0 then [] else heads fun j => chans fun ch => [fun x y => ∃ fb,
          efmtOf fb false = some (d.format j ch) ∧ fetched k (va j ch) 1 [fb] x y])
    ++ heads fun j => putsAt k (ks.cellAt page j t) (d.cell j) ++ chans fun ch =>
         let v := d.value j ch
         let b := VBlock.ofRecord (d.format j ch) (d.record j ch)
         let writes (e : VBlock) : Leg := put k (va j ch) (e.record.map fun z => (z, v.2))
         [seen fun x => vtAt x a (row j) ch = v]
           ++ if t % 32 = 0 then [writes (VBlock.opened ks.vf 0 v.1)]
              else [fun x y => ∃ fb, efmtOf fb false = some (d.format j ch) ∧ fetched k (va j ch) 1 [fb] x y,
                    fetched k (va j ch) (d.format j ch).recordLen (d.record j ch)]
                ++ if d.format j ch ≠ .zero ∧ b.scale = 0xFF then [] else [writes (b.put ks.vf (t % 32) v.1)]

/-- A node in order at a depth (11 R367): its header `nb` and its child table `tb`. -/
def nodeFits (ks : KvSpace) (nb tb : List Byte) : Prop :=
  let q (i : Nat) : Nat := fieldLE nb (8 * i) 8
  let elen := q 0 % 2 ^ 7
  q 0 / 2 ^ 24 = 0 ∧ q 0 / 2 ^ 12 % 16 = 0 ∧ q 0 / 2 ^ 7 % 2 = 0 ∧ (∀ i, i < 8 → 2 ≤ i → q i = 0)
    ∧ q 0 / 2 ^ 16 % 256 = ks.layers - 1 ∧ 0 < elen ∧ elen ≤ 64 ∧ q 0 / 2 ^ 8 % 16 ≤ 10
    ∧ ∀ e ∈ numbers 8 (2 ^ (q 0 / 2 ^ 8 % 16)) tb, 1 < e → e % 64 = 0 ∧ e < 2 ^ 56 ∧ elen = 64
def nodeClog (nb : List Byte) : Nat := fieldLE nb 0 8 / 2 ^ 8 % 16
def nodeElen (nb : List Byte) : Nat := fieldLE nb 0 8 % 2 ^ 7

/-- A node read: of the root, and of PARENT, the edge and the pages are not read. -/
def topRead (k : CmdRec) (ks : KvSpace) (va : Nat) (nb tb : List Byte) : List Leg :=
  [homed k va, fetched k va 64 nb, homedSpan k (va + childOffset ks.layers) (8 * 2 ^ nodeClog nb),
   fetched k (va + childOffset ks.layers) (8 * 2 ^ nodeClog nb) tb]
def nodeRead (k : CmdRec) (ks : KvSpace) (va : Nat) (nb eb tb : List Byte) : List Leg :=
  [homed k va, fetched k va 64 nb, homedSpan k (va + 64) (256 + 4 * ks.layers), fetched k (va + 64) (256 + 4 * ks.layers) eb,
   homedSpan k (va + childOffset ks.layers) (8 * 2 ^ nodeClog nb), fetched k (va + childOffset ks.layers) (8 * 2 ^ nodeClog nb) tb]

/-- The entry of a child table that a probe for a token meets first (11 R368). -/
def firstEntry (nb tb : List Byte) (tok : Nat) : Nat :=
  (numbers 8 (2 ^ nodeClog nb) tb).getD (firstProbe (nodeClog nb) tok) 0

end Sys2Proof.Claims

section
open Sys2Proof Sys2Proof.Machine Sys2Proof.Claims

/-- KVAPPEND (07 R242 to R244): where the head and its KV space are in order, the tiles hold the rows and the slab the tokens,
and every byte can be reached, a partly filled last prefix page is copied first, each token's K cells and V elements are
written in order, and a commit adds NTOK to LEN. -/
def Sys2Proof.Claims.appendsWork : Prop :=
  ∀ (s x z : State) (r : Ring) (c : Cmd) (k : CmdRec) (hb kb qb : List Byte) (h : KvHead) (ks : KvSpace) (g old n : Nat)
    (d : Nat → TokenData),
    let a := appendOf c
    let y := x.issue k { targets := [], readers := [a.kt, a.vt], words := [] }
    let t := x.tile a.kt
    let u := x.tile a.vt
    let h1 := afterCow h g
    let last := a.row0 + ks.heads * a.ntok - 1
    let fits (v : State) : Prop := last ≤ (v.tile a.kt).rows.toNat ∧ 36 * ks.d / 32 ≤ (v.tile a.kt).width.toNat
      ∧ last ≤ (v.tile a.vt).rows.toNat ∧ ks.d * (if (v.tile a.vt).fmt = 1 then 4 else 2) ≤ (v.tile a.vt).width.toNat
    readyHead s r c (kvappendJob c).bad k x → mineNow x a.kt → mineNow x a.vt → t.isMx = true → (u.fmt = 1 ∨ u.fmt = 2) →
    t.mayRead = true → u.mayRead = true → layerOpen 0 hb kb h ks → (needsCow h = true → lowerable ks g old qb) →
    h1.len + a.ntok - h1.plen ≤ 64 * 2 ^ h1.slog →
    course (layerRead y.2 a.dva hb kb ++ [seen fits] ++ cows y.2 ks a.dva h g old qb n
      ++ [pointed y.2 0 [], pointed y.2 0 (h1.words ++ ks.words)]
      ++ (List.range a.ntok).flatMap (fun i => tokenLegs y.2 a h1 ks i (d i) ++ [pointed y.2 (i + 1) (h1.words ++ ks.words)])
      ++ commits y.2 a.dva h1 { h1 with len := h1.len + a.ntok }) y.1 z →
    exec (.kvappend r c) s = .next (worked z y.2)

/-- KVGROW (07 R246 to R248; 11 R359): a commit sets MOVE, and forwarding begins; the used bytes of the slab are copied, 2 KiB
at a time, and the cursor follows; a commit ends the move with the new slab, twice as large, and forwarding ends. -/
def Sys2Proof.Claims.growsWork : Prop :=
  ∀ (s x z : State) (r : Ring) (c : Cmd) (k : CmdRec) (hb kb : List Byte) (h : KvHead) (ks : KvSpace),
    let dva := wordBits c.w1 0 56
    let nslab := wordBits c.w2 0 56
    let y := x.issue k noTiles
    let h1 := nextVer h { h with move := true }
    let used := (h.len - h.plen + 63) / 64 * ks.pslot
    readyHead s r c (kvgrowJob c).bad k x → layerOpen 0 hb kb h ks → h.slog ≠ 15 →
    course (layerRead y.2 dva hb kb ++ [put y.2 (dva + 48) (clean (leBytes 8 nslab))] ++ commits y.2 dva h { h with move := true }
      ++ [sets fun c => { c with fwdOld := BitVec.ofNat 56 h.slab, fwdNew := BitVec.ofNat 56 nslab, fwdAct := true, fwdOff := 0,
                                 fwdSpan := 64 * 2 ^ h.slog * ks.pslot, fwdUsed := used },
          pointed y.2 0 (1 :: h1.words)]
      ++ (List.range ((used + 2047) / 2048)).flatMap (fun i =>
           copied y.2 (h.slab + 2048 * i) (nslab + 2048 * i) (min 2048 (used - 2048 * i))
             ++ [allAcked y.2, sets fun c => { c with fwdOff := BitVec.ofNat 48 (2048 * i + min 2048 (used - 2048 * i)) },
                 pointed y.2 (2048 * i + min 2048 (used - 2048 * i)) (1 :: h1.words)])
      ++ [put y.2 (dva + 48) (clean (leBytes 8 0))]
      ++ commits y.2 dva h1 { h1 with slab := nslab, slog := h1.slog + 1, move := false }
      ++ [sets fun c => { c with fwdOld := 0, fwdNew := 0, fwdAct := false, fwdOff := 0, fwdSpan := 0, fwdUsed := 0 }]) y.1 z →
    exec (.kvgrow r c) s = .next (worked z y.2)

/-- KVCOW (07 R245): layer by layer, a partly filled last prefix page goes to the slab; nothing else is changed. -/
def Sys2Proof.Claims.cowsWork : Prop :=
  ∀ (s x z : State) (r : Ring) (c : Cmd) (k : CmdRec) (hb kb qb : Nat → List Byte) (h : Nat → KvHead) (ks : Nat → KvSpace)
    (g old n : Nat → Nat),
    let dva := wordBits c.w1 0 56
    let layers := wordBits c.w3 0 8 + 1
    let y := x.issue k noTiles
    readyHead s r c (kvcowJob c).bad k x →
    (∀ l, l < layers → layerOpen l (hb l) (kb l) (h l) (ks l)
      ∧ (needsCow (h l) = true → lowerable (ks l) (g l) (old l) (qb l))) →
    course ((List.range layers).flatMap fun l => layerRead y.2 (dva + 64 * l) (hb l) (kb l)
      ++ cows y.2 (ks l) (dva + 64 * l) (h l) (g l) (old l) (qb l) (n l) ++ [pointed y.2 (l + 1) []]) y.1 z →
    exec (.kvcow r c) s = .next (worked z y.2)

/-- A source prefix slot taken over by KVREMAP, `i` of them being there: its count rises, it is entered in the destination's
segment and committed. -/
def Sys2Proof.Claims.remapHead (src h : KvHead) (i : Nat) : KvHead :=
  { h with npfx := i + 1, plen := min src.plen (64 * (i + 1)), len := min src.plen (64 * (i + 1)) }
def Sys2Proof.Claims.remapSlotLegs (k : CmdRec) (dva l : Nat) (ks : KvSpace) (src : KvHead) (g old : Nat → Nat) :
    Nat → Nat → KvHead → List Leg × KvHead
  | _, 0, h => ([], h)
  | i, n + 1, h =>
    let h1 := nextVer h (remapHead src h i)
    let va := ks.rcnt + 4 * g i
    let rest := remapSlotLegs k dva l ks src g old (i + 1) n h1
    ([fetchedNat k (src.pseg + 4 * i) 4 (g i), homed k va, changed k (va % 2 ^ 64) 4 (raisedCount false) (old i),
      put k (h.pseg + 4 * i) (clean (leBytes 4 (g i)))] ++ commits k dva h (remapHead src h i)
       ++ [pointed k l (1 :: h1.words ++ ks.words ++ src.words)] ++ rest.1, rest.2)

/-- KVREMAP (07 R250): every destination is empty; layer by layer the source's prefix slots are counted, entered and
committed, with the flag the tokens of its slab are copied, and the source's head is as it was. -/
def Sys2Proof.Claims.remapsWork : Prop :=
  ∀ (s x z : State) (r : Ring) (c : Cmd) (k : CmdRec) (eb hb kb sb nb kb1 kb2 : Nat → List Byte) (h src : Nat → KvHead)
    (ks : Nat → KvSpace) (g old : Nat → Nat → Nat),
    let dva (l : Nat) : Nat := wordBits c.w1 0 56 + 64 * l
    let sva (l : Nat) : Nat := wordBits c.w2 0 56 + 64 * l
    let layers := wordBits c.w3 0 8 + 1
    let y := x.issue k noTiles
    let slots (l : Nat) : List Leg × KvHead := remapSlotLegs y.2 (dva l) l (ks l) (src l) (g l) (old l) (h l).npfx
      ((src l).npfx - (h l).npfx) (h l)
    let toks (l : Nat) : Nat := (src l).len - (src l).plen
    let slab (l : Nat) : List Leg :=
      if c.w0.getLsbD 27 then
        ((List.range ((toks l + 63) / 64)).flatMap fun j => ((ks l).tokenBytes (toks l - 64 * j)).flatMap fun b =>
            copied y.2 ((src l).slab + j * (ks l).pslot + b.1) ((slots l).2.slab + j * (ks l).pslot + b.1) b.2)
          ++ commits y.2 (dva l) (slots l).2 { (slots l).2 with len := (src l).len }
      else []
    readyHead s r c (kvremapJob c).bad k x →
    (∀ l, l < layers → headBad (eb l) = false ∧ (KvHead.ofBytes (eb l)).len = 0 ∧ (KvHead.ofBytes (eb l)).npfx = 0
      ∧ (KvHead.ofBytes (eb l)).move = false ∧ layerOpen l (hb l) (kb l) (h l) (ks l)
      ∧ headBad (sb l) = false ∧ src l = KvHead.ofBytes (sb l) ∧ releaseOk (sb l) (kb1 l) ∧ releaseOk (nb l) (kb2 l)
      ∧ (∀ i, i < (src l).npfx → g l i < (ks l).nslots ∧ old l i ≠ noSlot)
      ∧ (c.w0.getLsbD 27 = true → toks l ≤ 64 * 2 ^ (slots l).2.slog)
      ∧ headBad (nb l) = false ∧ (KvHead.ofBytes (nb l)).ver = (src l).ver) →
    course ((List.range layers).flatMap (fun l => headRead y.2 (dva l) (eb l)) ++ [pointed y.2 0 [1]]
      ++ (List.range layers).flatMap fun l => layerRead y.2 (dva l) (hb l) (kb l) ++ headRead y.2 (sva l) (sb l)
        ++ releaseRead y.2 (sb l) (kb1 l) ++ [pointed y.2 l (1 :: (h l).words ++ (ks l).words ++ (src l).words)] ++ (slots l).1 ++ slab l
        ++ headRead y.2 (sva l) (nb l) ++ releaseRead y.2 (nb l) (kb2 l) ++ [pointed y.2 (l + 1) [1]]) y.1 z →
    exec (.kvremap r c) s = .next (worked z y.2)

/-- PFXWALK (07 R251, R252) from heads that are empty and in order: with no child for the first token it writes that nothing
matched, and the root; with a child of less than 64 tokens whose edge the tokens match, the counts of its pages rise, its
pages are entered in the layers' segments, each layer is committed, and the length and the node are written. -/
def Sys2Proof.Claims.walksWork : Prop :=
  ∀ (s x z : State) (r : Ring) (c : Cmd) (k : CmdRec) (h0b kb nb tb cb ceb ctb ts qb : List Byte) (hb : Nat → List Byte)
    (tok : Nat) (old : Nat → Nat) (ks : KvSpace),
    let tokva := wordBits c.w1 0 56
    let sdva := wordBits c.w2 0 56
    let rva := wordBits c.w3 0 56
    let y := x.issue k noTiles
    let h (l : Nat) : KvHead := KvHead.ofBytes (hb l)
    let heads := (List.range ks.layers).map h
    let start : Walk := { p := 0, node := ks.tree, depth := 0, heads := heads }
    let child := firstEntry nb tb tok
    let elen := nodeElen cb
    let pages := numbers 4 ks.layers (ceb.drop 256)
    let page (l : Nat) : Nat := pages.getD l 0
    let next (l : Nat) : KvHead := { h l with plen := elen, len := elen, npfx := (h l).npfx + 1 }
    let layers (f : Nat → List Leg) : List Leg := (List.range ks.layers).flatMap f
    let opens : List Leg := headRead y.2 sdva h0b ++ [fetched y.2 (KvHead.ofBytes h0b).ksva 64 kb]
      ++ layers (fun l => headRead y.2 (layerVa sdva l) (hb l)) ++ [pointed y.2 0 (start.words ks)]
      ++ topRead y.2 ks ks.tree nb tb ++ [fetchedNat y.2 tokva 4 tok]
    readyHead s r c (pfxwalkJob c).bad k x → headBad h0b = false → KvSpace.ofBytes kb = some ks →
    (∀ l, l < ks.layers → headBad (hb l) = false ∧ (h l).ksva = (KvHead.ofBytes h0b).ksva ∧ (h l).len = 0 ∧ (h l).npfx = 0
      ∧ (h l).prel = noSlot ∧ (h l).move = false) → nodeFits ks nb tb →
    (child = 0 → course (opens ++ [put y.2 rva (clean (leBytes 8 0 ++ leBytes 8 ks.tree))]) y.1 z →
      exec (.pfxwalk r c) s = .next (worked z y.2))
    ∧ (1 < child → nodeFits ks cb ctb → elen < 64 → elen ≤ wordBits c.w0 32 32 →
        numbers 4 elen ts = numbers 4 elen ceb → (∀ l, l < ks.layers → page l < ks.nslots ∧ old l ≠ noSlot ∧ old l ≠ 0) →
        fieldLE qb 16 4 ≠ 0 → fieldLE qb 24 8 % 2 ^ 56 % 4 = 0 →
        course (opens ++ [homedSpan y.2 child 68, fetchedNat y.2 (child + 64) 4 tok] ++ nodeRead y.2 ks child cb ceb ctb
          ++ [fetched y.2 tokva (4 * elen) ts]
          ++ layers (fun l => [homed y.2 (ks.rcnt + 4 * page l), touched y.2 (ks.rcnt + 4 * page l) 4])
          ++ layers (fun l => [touched y.2 ((h l).pseg + 4 * (h l).npfx) 4, touched y.2 (layerVa sdva l) 32])
          ++ queueRead y.2 ks qb ++ [touched y.2 ks.freeq 8]
          ++ layers (fun l => [homed y.2 (ks.rcnt + 4 * page l),
               changed y.2 ((ks.rcnt + 4 * page l) % 2 ^ 64) 4 (raisedCount true) (old l)])
          ++ layers (fun l => put y.2 ((h l).pseg + 4 * (h l).npfx) (clean (leBytes 4 (page l)))
               :: commits y.2 (layerVa sdva l) (h l) (next l))
          ++ [pointed y.2 1 ((Walk.mk elen child 1 ((List.range ks.layers).map fun l => nextVer (h l) (next l))).words ks),
              put y.2 rva (clean (leBytes 8 elen ++ leBytes 8 child))]) y.1 z →
        exec (.pfxwalk r c) s = .next (worked z y.2))

/-- PFXINS (07 R253; 11 R367 to R369) of one new node below PARENT, whose table has an empty entry where the probe begins: each
layer's page is copied into its slot, the node is written, the slots' counts become 1, and the entry takes the node's
address. -/
def Sys2Proof.Claims.insertsWork : Prop :=
  ∀ (s x z : State) (r : Ring) (c : Cmd) (k : CmdRec) (ib vb h0b kb pb tb sb ts pb2 tb2 : List Byte) (hb : Nat → List Byte)
    (src : Nat → Nat) (ks : KvSpace) (tok : Nat),
    let irva := wordBits c.w1 0 56
    let sdva := wordBits c.w2 0 56
    let y := x.issue k noTiles
    let i := Insertion.ofBytes ib
    let node := fieldLE vb 0 8
    let slots := numbers 4 ks.layers sb
    let slot (l : Nat) : Nat := slots.getD l 0
    let h (l : Nat) : KvHead := KvHead.ofBytes (hb l)
    let from_ (l : Nat) : Nat :=
      if i.tok0 < (h l).plen then ks.pool + src l * ks.pslot else (h l).slab + (i.tok0 - (h l).plen) / 64 * ks.pslot
    let entry := i.parent + childOffset ks.layers + 8 * firstProbe (nodeClog pb2) tok
    let layers (f : Nat → List Leg) : List Leg := (List.range ks.layers).flatMap f
    readyHead s r c (pfxinsJob c).bad k x → insertionBad ib = [] → i.ne = 1 → node % 64 = 0 → node < 2 ^ 56 →
    headBad h0b = false → KvSpace.ofBytes kb = some ks → nodeFits ks pb tb → nodeElen pb = 64 → nodeFits ks pb2 tb2 →
    firstEntry pb2 tb2 tok = 0 →
    (∀ l, l < ks.layers → headBad (hb l) = false ∧ (h l).ksva = (KvHead.ofBytes h0b).ksva ∧ i.tok0 + i.tail ≤ (h l).len
      ∧ ((h l).prel = noSlot ∨ (h l).prel < ks.nslots) ∧ slot l < ks.nslots ∧ src l < ks.nslots) →
    course ([fetched y.2 irva 64 ib, fetched y.2 i.nodeva 8 vb] ++ headRead y.2 sdva h0b
      ++ [fetched y.2 (KvHead.ofBytes h0b).ksva 64 kb] ++ layers (fun l => headRead y.2 (layerVa sdva l) (hb l))
      ++ topRead y.2 ks i.parent pb tb ++ [homedSpan y.2 node (childOffset ks.layers + 64), fetched y.2 i.slotva (4 * ks.layers) sb]
      ++ layers (fun l => [homed y.2 (ks.rcnt + 4 * slot l)])
      ++ layers (fun l => (if i.tok0 < (h l).plen then [fetchedNat y.2 ((h l).pseg + 4 * (i.tok0 / 64)) 4 (src l)] else [])
           ++ copied y.2 (from_ l) (ks.pool + slot l * ks.pslot) ks.page)
      ++ [fetched y.2 (i.tokva + 4 * i.tok0) (4 * i.tail) ts,
          put y.2 node (clean (nodeImage ks i.tail i.parent (numbers 4 i.tail ts) slots none))]
      ++ layers (fun l => [put y.2 (ks.rcnt + 4 * slot l) (clean (leBytes 4 1))])
      ++ [fetchedNat y.2 (i.tokva + 4 * i.tok0) 4 tok] ++ topRead y.2 ks i.parent pb2 tb2
      ++ [homed y.2 entry, touched y.2 entry 8, allAcked y.2, homed y.2 entry,
          changed y.2 (entry % 2 ^ 64) 8 (fun v => if v = 0 then some node else none) 0]) y.1 z →
    exec (.pfxins r c) s = .next (worked z y.2)

/-- The prefix slots of a layer released from the last down (07 R254). -/
def Sys2Proof.Claims.releaseLegs (k : CmdRec) (dva l : Nat) (ks : KvSpace) (g old n : Nat → Nat) (qb : Nat → List Byte) :
    Nat → KvHead → List Leg
  | 0, _ => []
  | i + 1, h =>
    let h1 := nextVer h { h with npfx := i }
    [fetchedNat k (h.pseg + 4 * i) 4 (g i), touched k dva 32] ++ lowers k ks (g i) (old i) (qb i) (n i)
      ++ commits k dva h { h with npfx := i } ++ [pointed k l (1 :: h1.words ++ ks.words)]
      ++ releaseLegs k dva l ks g old n qb i h1

/-- PFXREL (07 R254): of a sequence, layer by layer, LEN and PLEN become 0 and the prefix slots are released from the last
down, each with a commit; of a list, the count of each slot falls. -/
def Sys2Proof.Claims.releasesWork : Prop :=
  ∀ (s x z : State) (r : Ring) (c : Cmd) (k : CmdRec),
    let y := x.issue k noTiles
    (∀ (hb kb : Nat → List Byte) (h : Nat → KvHead) (ks : Nat → KvSpace) (g old n : Nat → Nat → Nat) (qb : Nat → Nat → List Byte),
      let dva (l : Nat) : Nat := layerVa (wordBits c.w1 0 56) l
      let layers := wordBits c.w3 0 8 + 1
      let h1 (l : Nat) : KvHead := nextVer (h l) { h l with len := 0, plen := 0 }
      readyHead s r c (pfxrelSequenceJob c).bad k x →
      (∀ l, l < layers → layerOpen l (hb l) (kb l) (h l) (ks l)
        ∧ ∀ i, i < (h l).npfx → lowerable (ks l) (g l i) (old l i) (qb l i)) →
      course ((List.range layers).flatMap fun l => layerRead y.2 (dva l) (hb l) (kb l)
        ++ commits y.2 (dva l) (h l) { h l with len := 0, plen := 0 } ++ [pointed y.2 l (1 :: (h1 l).words ++ (ks l).words)]
        ++ releaseLegs y.2 (dva l) l (ks l) (g l) (old l) (n l) (qb l) (h l).npfx (h1 l) ++ [pointed y.2 (l + 1) []]) y.1 z →
      exec (.pfxrelSequence r c) s = .next (worked z y.2))
    ∧ (∀ (kb : List Byte) (ks : KvSpace) (g old n : Nat → Nat) (qb : Nat → List Byte),
      let lva := wordBits c.w1 0 56
      let count := wordBits c.w0 32 32
      readyHead s r c (pfxrelListJob c).bad k x → KvSpace.ofBytes kb = some ks →
      (∀ j, j < count → lowerable ks (g j) (old j) (qb j)) →
      course ([fetched y.2 (wordBits c.w2 0 56) 64 kb, pointed y.2 0 ks.words]
        ++ (List.range count).flatMap fun j => [fetchedNat y.2 (lva + 4 * j) 4 (g j)]
          ++ lowers y.2 ks (g j) (old j) (qb j) (n j) ++ [pointed y.2 (j + 1) ks.words]) y.1 z →
      exec (.pfxrelList r c) s = .next (worked z y.2))

/-- PFXDIR CLAIM, SHARE and DROP (07 R255; 11 R371) of an entry in a BI page of the pool with a block cache, from a state that
the operation leaves: the entry's 32 bytes change as one action. No ATTNR on an entry that is dropped is being served here. -/
def Sys2Proof.Claims.directoryCommandsWork : Prop :=
  ∀ (s x z : State) (r : Ring) (c : Cmd) (k : CmdRec) (old : Nat),
    let y := x.issue k noTiles
    let va := wordBits c.w1 0 56
    let claim := dirClaim y.1.pondDev y.1.ctx.asid.toNat (wordBits c.w2 0 56) (wordBits c.w3 0 32) (wordBits c.w3 32 7)
    let works (i : Instr) (bad : List Nat) (f : Nat → Option Nat) (drop : Bool) : Prop :=
      readyHead s r c bad k x → (f old).isSome = true →
      course [fun u v => ∃ p ps, u.rangeBy y.2.plain .read va 32 = (v, .ok (p :: ps)) ∧ residency p.pa = 2
                ∧ v.atomicHome p.pa p.leaf = true ∧ (drop = true → v.servesEntry y.2 va = false),
              changed y.2 va 32 f old] y.1 z →
      exec i s = .next (worked z y.2)
    works (.pfxdirClaim r c) (pfxdirClaimJob c).bad claim false
    ∧ works (.pfxdirShare r c) (pfxdirShareJob c).bad (dirShare y.1.pondDev) false
    ∧ works (.pfxdirDrop r c) (pfxdirDropJob c).bad (dirDrop y.1.pondDev) true

/-- The transitions of a directory entry that PFXDIR makes (07 R255, 11 R371): CLAIM of an absent entry, SHARE of one that is
exclusive or read-shared, DROP of one by its holder or by a reader of a read-shared one; every other fails. -/
def Sys2Proof.Claims.directoryTransitions : Prop :=
  ∀ (e dev asid hpages bpos elen : Nat),
    ((dirClaim dev asid hpages bpos elen e).isSome = true ↔ e % 4 = 0)
    ∧ ((dirShare dev e).isSome = true ↔ e % 4 = 1 ∨ e % 4 = 2)
    ∧ ((dirDrop dev e).isSome = true ↔
        (e % 4 = 1 ∨ e % 4 = 2) ∧ (e / 16 % 16 = dev ∨ (e % 4 = 2 ∧ (e / 2 ^ 16 % 2 ^ 16).testBit dev = true)))
    ∧ (∀ n, dirClaim dev asid hpages bpos elen e = some n → n % 4 = 1 ∧ n / 16 % 16 = dev % 16)
    ∧ (∀ n, dirShare dev e = some n → e / 16 % 16 ≠ dev → n % 4 = 2)
    ∧ (∀ n, dirDrop dev e = some n → e / 16 % 16 = dev → n % 4 = 0 ∧ n / 16 % 16 = 0)

/-- The commands that keep the KV cache (07 R242 to R250): each, where its structures are in order and can be reached, makes
the accesses of its course in order and completes. -/
def Obligations.KvCommands : Prop := appendsWork ∧ growsWork ∧ cowsWork ∧ remapsWork

/-- The commands that keep the prefix tree and its directory, in the same sense (07 R251 to R255; 11 R367 to R371). -/
def Obligations.PrefixCommands : Prop :=
  walksWork ∧ insertsWork ∧ releasesWork ∧ directoryCommandsWork ∧ directoryTransitions

end

/-! ## Completion, signals and faults of commands; the matrix engine -/

section
open Sys2Proof Sys2Proof.Machine Sys2Proof.Claims

/-- ENGINE_FAULT (06 R196, R197): once the requests that the command sent have been answered, the ring's fault registers take the fault
and the ring halts; nothing else changes. Until then it waits. -/
def Sys2Proof.Claims.engineFaultsAreRecorded : Prop :=
  ∀ (s : State) (r : Ring) (f : EngFault), (s.ring r).faulting = some f →
    (s.requestsOut r = true → exec (.engineFault r) s = .next s) ∧ (s.ctx.peer = [] → s.requestsOut r = false)
    ∧ (s.requestsOut r = false → ∃ t : State, exec (.engineFault r) s = .next t
      ∧ (t.ring r).fsCause = f.cause ∧ (t.ring r).fsInfo = f.info ∧ (t.ring r).fa = f.va ∧ (t.ring r).fc = f.cursor
      ∧ (t.ring r).pend = true ∧ (t.ring r).halt = true ∧ (t.ring r).faulting = none
      ∧ (t.ring r).fsIdx = ((s.ctx.haltedCmd r).map (·.count)).getD (s.ring r).rptr
      ∧ (t.ring r).wptr = (s.ring r).wptr ∧ (t.ring r).rptr = (s.ring r).rptr ∧ (∀ q, q ≠ r → t.ring q = s.ring q)
      ∧ t.ctx.regs = s.ctx.regs ∧ t.ctx.pc = s.ctx.pc ∧ t.ctx.cmds = s.ctx.cmds ∧ t.core = s.core ∧ t.dev = s.dev)

/-- COMMAND_COMPLETE (06 R192; 01 R33, R35): a command whose work is done, with no request of its class unanswered, lets its
tiles go and signals when it is the ring's oldest. -/
def Sys2Proof.Claims.commandsComplete : Prop :=
  ∀ (s : State) (r : Ring) (k : CmdRec), s.ctx.cmds.find? (fun k => k.ring == r && k.stage == .moved) = some k →
    r = .mx ∨ s.ctx.unacked (oneClass k.cls) s.ctx.postSeq = false →
    exec (.commandComplete r) s = .next ((s.finishWork k).signalOldest r)
    ∧ (∀ (i : Nat), k.work.readers = [] → k.work.targets = [(i, .ready)] → i < 256 →
        ((s.finishWork k).tile i).state = (if (s.tile i).state = .filling then .ready
          else if (s.tile i).state = .draining then .ready else (s.tile i).state)
        ∧ ((s.tile i).state = .filling → ((s.finishWork k).tile i).gen = (s.tile i).gen + 1)
        ∧ ∀ j, j ≠ i → (s.finishWork k).tile j = s.tile j)

/-- HELD_SIGNAL_PUSH (01 R44, R46; 13 R412, R414): the oldest command, complete, signals and is gone, and its ring's engine has
a turn; a full FIFO and an uncommitted iteration hold it; a discarded iteration's signal is dropped; a semaphore at 0xFFFF is
an engine fault SEM_OVERFLOW. -/
def Sys2Proof.Claims.signalsAreGiven : Prop :=
  ∀ (s : State) (r : Ring) (k : CmdRec), s.oldest r = some k → k.stage = .signalling →
    let gone (x : State) : State :=
      { x with ctx := { x.ctx with cmds := x.ctx.cmds.filter fun c => c.seq != k.seq } }
    let sel := selectorOf (wordBits k.cmd.w0 14 6)
    (k.dropSignal = true → exec (.heldSignalPush r) s = .next ((gone s).queue (.engine s.here r)))
    ∧ (k.dropSignal = false → k.uncommitted = true → exec (.heldSignalPush r) s = .next s)
    ∧ (k.dropSignal = false → k.uncommitted = false →
        (∀ n, sel = .fifo n → 8 ≤ s.fifoCount n → exec (.heldSignalPush r) s = .next s)
        ∧ (∀ n, sel = .fifo n → s.fifoCount n < 8 →
            exec (.heldSignalPush r) s = .next ((gone (s.setFifo n (s.fifoCount n + 1))).queue (.engine s.here r)))
        ∧ (∀ n, sel = .sem n → s.semVal n ≠ 0xFFFF →
            exec (.heldSignalPush r) s = .next ((gone (s.setSem n (s.semVal n + 1))).queue (.engine s.here r)))
        ∧ (sel = .none → exec (.heldSignalPush r) s = .next ((gone s).queue (.engine s.here r)))
        ∧ (∀ n, sel = .sem n → s.semVal n = 0xFFFF → (s.ring r).halt = false → (s.ring r).faulting = none →
            ∃ t : State, exec (.heldSignalPush r) s = .next t ∧ (t.ring r).faulting
              = some { cause := 0x214, info := BitVec.ofNat 22 (wordBits k.cmd.w0 14 6), va := 0, cursor := cursorOf [] }))

/-- BLOCK_FILL_COMPLETE sets the completion flag of the block at its address, and of no other (06 R211); REGION_FILL_COMPLETE
makes a region-mapped tile that its first touch fills READY, with its next generation (10 R350). -/
def Sys2Proof.Claims.fillsComplete : Prop :=
  (∀ (s : State) (va : Nat), ∃ t : State, exec (.blockFillComplete va) s = .next t
    ∧ t.dev.blocks.length = s.dev.blocks.length
    ∧ (∀ (n : Nat) (b : Block), s.dev.blocks[n]? = some b → ∃ b', t.dev.blocks[n]? = some b'
        ∧ b' = if b.nl ≠ 0 ∧ b.asid = s.ctx.asid ∧ b.va = va then { b with done := true } else b)
    ∧ t.dev.lines = s.dev.lines ∧ t.dev.mem = s.dev.mem ∧ t.ctx = s.ctx ∧ t.core = s.core)
  ∧ (∀ (s : State) (i : Nat), let e := s.tile i
    e.valid = true → e.rmap = true → e.touched = false → e.state = .filling →
      exec (.regionFillComplete i) s = .next (s.setTile i { e with state := .ready, gen := e.gen + 1, touched := true, dirty := false }))

/-- How engine commands complete, signal and fault (06 R192, R196, R197; 01 R44, R46). -/
def Obligations.EngineCompletion : Prop :=
  engineFaultsAreRecorded ∧ commandsComplete ∧ signalsAreGiven ∧ fillsComplete

end

/-! ## The matrix engine -/

namespace Sys2Proof.Claims
open Sys2Proof Sys2Proof.Machine

/-- The commands of the arrays, with their jobs and opcodes (06 R220). -/
noncomputable def arrayForms (r : Ring) (c : Cmd) : List (Instr × EngJob × Nat) :=
  [(.mmul r c, mmulJob c, 0x60), (.mmul2 r c, mmul2Job c, 0x61), (.attn r c, attnJob c, 0x62), (.mxv r c, mxvJob c, 0x63)]

/-- The helper commands (06 R227). -/
noncomputable def helperForms (r : Ring) (c : Cmd) : List (Instr × EngJob × Nat) :=
  [(.mzero r c, mzeroJob c, 0x64), (.sinit r c, sinitJob c, 0x65), (.sfin r c, sfinJob c, 0x66),
   (.smerge r c, smergeJob c, 0x67), (.scopy r c, scopyJob c, 0x68)]

/-- How often a command reads a tile. -/
def readsOf (uses : List TileUse) (i : Nat) : Nat := (uses.filter fun v => match v with
  | .reads j => j == i
  | _ => false).length

/-- Step 3 of R191 (06) finds what a matrix command names in order: its tiles are the context's, of the formats and sizes that
it asks, and pass the bank-group rule; none is still to be filled, each may be read or written as it is to be (01 R35, R36),
and the arrays that it needs first are free and not frozen (06 R228, R229). -/
def mxReady (x : State) (c : Cmd) (needs : List Need) (uses : List TileUse) : Prop :=
  (∀ n ∈ needs, (x.tile n.tile).valid = true ∧ (x.tile n.tile).owner.toNat = x.ctxNum ∧ n.check x = .ok ())
  ∧ x.bankCheck c = none ∧ (∀ u ∈ uses, (x.tile u.tile).needsFill = false)
  ∧ (∀ i, TileUse.reads i ∈ uses → (x.tile i).state = .ready ∧ (x.tile i).rdcnt.toNat + readsOf uses i ≤ 63)
  ∧ (∀ i, TileUse.writes i ∈ uses → (x.tile i).mayWrite = true) ∧ (∀ i, TileUse.changes i ∈ uses → (x.tile i).mayStore = true)
  ∧ (∀ a ∈ firstArrays c, x.arrayFree a = true ∧ x.core.frozen = false)

/-- The command issued: its tiles move, and it holds the arrays of its first passes (06 R228). -/
def mxIssued (x : State) (k : CmdRec) (c : Cmd) (uses : List TileUse) : State × CmdRec :=
  let holds (a : Bool) : Word := if a ∈ firstArrays c then 1 else 0
  x.issue k { targets := useTargets uses, readers := useReaders uses, words := [0, 0, holds false, holds true] }

/-- The MX ring runs and none of its commands has a fault to record. -/
def mxRuns (s : State) : Prop := (s.ring .mx).halt = false ∧ (s.ring .mx).faulting = none

end Sys2Proof.Claims

section
open Sys2Proof Sys2Proof.Machine Sys2Proof.Claims

/-- R191, R227 and R228 for a matrix command at the head of an idle MX ring: a helper command does its work at its issue; a
command of the arrays issues and begins its passes; ATTNR sends what it asks (07 R256); a wait leaves the head. -/
def Sys2Proof.Claims.matrixCommandsIssue : Prop :=
  ∀ (s : State) (r : Ring) (c : Cmd) (k : CmdRec), ringIdle s .mx → s.head .mx = some k →
    (∀ x s1 k1 t, x ∈ helperForms r c → c.w0.toNat % 256 = x.2.2 → s.admitHead { k with cmd := c } x.2.1 = .ok (s1, k1)
        → x.2.1.body s1 k1 = .ok t → exec x.1 s = .next (worked t k1))
    ∧ (∀ x s1 k1, x ∈ arrayForms r c → c.w0.toNat % 256 = x.2.2 → s.admitHead { k with cmd := c } x.2.1 = .ok (s1, k1)
        → exec x.1 s = .next (s1.kick k1) ∧ k1.stage = .issued ∧ k1.work.pos false = 0 ∧ k1.work.pos true = 0
            ∧ k1.work.holds false = true ∧ (k1.work.holds true = true ↔ x.2.2 = 0x61 ∨ x.2.2 = 0x63))
    ∧ (∀ s1 k1 t, c.w0.toNat % 256 = 0x48 → s.admitHead { k with cmd := c } (attnrJob c) = .ok (s1, k1)
        → (attnrOf c).send s1 k1 = .ok t → exec (.attnr r c) s = .next t)
    ∧ (∀ x s1, x ∈ helperForms r c ++ arrayForms r c ++ [(.attnr r c, attnrJob c, 0x48)]
        → s.admitHead { k with cmd := c } x.2.1 = .error (.wait s1) → exec x.1 s = .next s1)

/-- The commands of the arrays (06 R220, R222, R224, R226, R228): with its tiles in order and the arrays of its first passes free,
each issues, holds those arrays and begins their passes; ATTN waits for S and O only at its soft-maximum step. -/
def Sys2Proof.Claims.passesBegin : Prop :=
  ∀ (s x : State) (r : Ring) (c : Cmd) (k : CmdRec),
    let p := productOf c.w1 (c.w0.getLsbD 27)
    let q := productOf c.w2 (c.w0.getLsbD 28)
    let a := chunkOf c
    let v := matVecOf c
    let first (y : State) : State := y.later (.arrayPassEnd false .agree [])
    let both (y : State) : State := (first y).later (.arrayPassEnd true .agree [])
    (c.w0.toNat % 256 = 0x60 → readyHead s .mx c (mmulJob c).bad k x → mxReady x c p.needs p.uses →
      exec (.mmul r c) s = .next (first (mxIssued x k c p.uses).1))
    ∧ (c.w0.toNat % 256 = 0x61 → readyHead s .mx c (mmul2Job c).bad k x → mxReady x c (p.needs ++ q.needs) (p.uses ++ q.uses) →
      exec (.mmul2 r c) s = .next (both (mxIssued x k c (p.uses ++ q.uses)).1))
    ∧ (c.w0.toNat % 256 = 0x62 → readyHead s .mx c (attnJob c).bad k x → mxReady x c [.operand a.q a.qn (a.d / 32),
        .operand a.k a.klen (a.d / 32), .operand a.v a.d 2, .f32 a.o a.qn (4 * a.d), .f32 a.s a.qn 8]
        [.reads a.q, .reads a.k, .reads a.v] →
      exec (.attn r c) s = .next (first (mxIssued x k c [.reads a.q, .reads a.k, .reads a.v]).1))
    ∧ (let uses := [TileUse.reads v.w, .reads v.x, if v.fresh then .writes v.y else .changes v.y]
       c.w0.toNat % 256 = 0x63 → readyHead s .mx c (mxvJob c).bad k x →
        mxReady x c [.operand v.w v.n v.kb, .operand v.x 1 v.kb, .f32 v.y 1 (4 * v.n)] uses →
        exec (.mxv r c) s = .next (both (mxIssued x k c uses).1))

/-- The helper commands (06 R227; 02 R82, R83): with their tiles in order, MZERO writes zeros to every row, or zero blocks to one of
grains; SINIT sets m to −∞ and l to 0, and with OZ the rows of O to 0; SFIN divides each row of O by l; SMERGE merges two partial
results; SCOPY copies m and l. -/
def Sys2Proof.Claims.helpersComplete : Prop :=
  ∀ (s x : State) (r : Ring) (c : Cmd) (k : CmdRec) (row row2 out out2 : Nat → List F32),
    let op := c.w0.toNat % 256
    let i := wordBits c.w1 0 8
    let j := wordBits c.w1 8 8
    let n := wordBits c.w1 16 6 + 1
    let a := statOf c
    let m := mergeOf c
    let oz := c.w0.getLsbD 27
    let readsRows (y : State) (t len qn : Nat) (f : Nat → List F32) : Prop := ∀ q, q < qn → y.f32Row t 0 len q = .ok (f q)
    (op = 0x64 → readyHead s .mx c (mzeroJob c).bad k x → mxReady x c [.any i] [.writes i] →
      let y := mxIssued x k c [.writes i]
      exec (.mzero r c) s = .next (worked (y.1.zeroTile i) y.2))
    ∧ (op = 0x65 → readyHead s .mx c (sinitJob c).bad k x →
      mxReady x c (.f32 a.s a.qn 8 :: if oz then [.f32 a.o a.qn (4 * a.d)] else []) (.writes a.s :: if oz then [.writes a.o] else []) →
      let y := mxIssued x k c (.writes a.s :: if oz then [.writes a.o] else [])
      let z := y.1.putRows a.s 0 0 (List.replicate a.qn [0xFF800000, 0])
      exec (.sinit r c) s = .next (worked (if oz then z.putRows a.o 0 0 (List.replicate a.qn (List.replicate a.d 0)) else z) y.2))
    ∧ (op = 0x66 → readyHead s .mx c (sfinJob c).bad k x →
      mxReady x c [.f32 a.s a.qn 8, .f32 a.o a.qn (4 * a.d)] [.reads a.s, .changes a.o] →
      let y := mxIssued x k c [.reads a.s, .changes a.o]
      readsRows y.1 a.s 2 a.qn row → readsRows y.1 a.o a.d a.qn out →
      exec (.sfin r c) s = .next (worked
        (y.1.putRows a.o 0 0 ((List.range a.qn).map fun q => finalRow ((row q).getD 1 0) (out q))) y.2))
    ∧ (op = 0x67 → readyHead s .mx c (smergeJob c).bad k x →
      mxReady x c [.f32 m.s1 m.qn 8, .f32 m.o1 m.qn (4 * m.d), .f32 m.s2 m.qn 8, .f32 m.o2 m.qn (4 * m.d)]
        [.changes m.s1, .changes m.o1, .reads m.s2, .reads m.o2] →
      let y := mxIssued x k c [.changes m.s1, .changes m.o1, .reads m.s2, .reads m.o2]
      readsRows y.1 m.s1 2 m.qn row → readsRows y.1 m.s2 2 m.qn row2 → readsRows y.1 m.o1 m.d m.qn out →
      readsRows y.1 m.o2 m.d m.qn out2 →
      exec (.smerge r c) s = .next (worked (y.1.putMerged m.s1 m.o1 ((List.range m.qn).map fun q =>
        mergeRow ((row q).getD 0 0) ((row q).getD 1 0) ((row2 q).getD 0 0) ((row2 q).getD 1 0) (out q) (out2 q))) y.2))
    ∧ (op = 0x68 → readyHead s .mx c (scopyJob c).bad k x → mxReady x c [.f32 i n 8, .f32 j n 8] [.reads i, .writes j] →
      let y := mxIssued x k c [.reads i, .writes j]
      readsRows y.1 i 2 n row → exec (.scopy r c) s = .next (worked (y.1.putRows j 0 0 ((List.range n).map row)) y.2))

/-- ATTNR (07 R256) whose directory entry lies in pool memory that has an atomic home, is clean and names another device as its
holder: with its tiles in order and room for the request, the entry's address, the fields and the rows of Q are sent to that
holder, and the command waits for the reply. The payload and its parts are the model's choice (log entry 48). -/
def Sys2Proof.Claims.requestsAreSent : Prop :=
  ∀ (s x z w : State) (r : Ring) (c : Cmd) (k : CmdRec) (p : Piece) (ps : List Piece) (bs : List Marked) (qs : List (List Blk)),
    let a := attnrOf c
    let y := mxIssued x k c a.uses
    let e := leNat (bs.map (·.1))
    let dst := dirHolder e
    let ask := a.ask c ((w.tile a.q).fmt == 2) p.pa
    let payload := ask.image ++ (List.range a.qn).flatMap fun q => (w.rowRead (w.tile a.q) q 0 ask.rowBytes).map (·.1)
    let gs := attnrParts w k.cls payload
    let u := (w.updWork k.seq fun v => { v with progress := 1 }).awaitReply dst k.seq k.cls w.dev.tagNext
    c.w0.toNat % 256 = 0x48 → readyHead s .mx c (attnrJob c).bad k x → mxReady x c a.needs a.uses →
    y.1.rangeBy y.2.plain .read a.deva 32 = (z, .ok (p :: ps)) → residency p.pa = 2 → z.atomicHome p.pa p.leaf = true →
    lineRead z y.2 y.2.plain a.deva 32 bs w → (∀ b ∈ bs, b.2 = false) → dirState e ≠ 0 →
    w.opRows a.q (2 * 2 ^ a.dc) 0 a.qn = .ok qs → dst ≠ w.dev.num.toNat → w.dev.peerGone dst = false →
    w.dev.mayAll dst k.cls gs = true →
    exec (.attnr r c) s = .next { u with dev := gs.foldl (fun d g => d.sendLane dst (k.cls.toNat % 4) g) u.dev }

/-- The work of the helper commands (06 R227): SINIT sets m to −∞ and l to 0, and with OZ the rows of O to 0; SCOPY copies
bytes 0 to 7 of each row; both write whole rows of F32. -/
def Sys2Proof.Claims.helperWork : Prop :=
  ∀ (s : State) (k : CmdRec) (c : Cmd),
    let st := wordBits c.w1 0 8
    let o := wordBits c.w1 8 8
    let n := wordBits c.w1 16 6 + 1
    let d := 64 * 2 ^ wordBits c.w1 24 2
    (c.w0.getLsbD 27 = false → (sinitJob c).body s k = .ok (s.putRows st 0 0 (List.replicate n [0xFF800000, 0])))
    ∧ (c.w0.getLsbD 27 = true → (sinitJob c).body s k = .ok
        ((s.putRows st 0 0 (List.replicate n [0xFF800000, 0])).putRows o 0 0 (List.replicate n (List.replicate d 0))))
    ∧ (∀ rows : List (List F32), rows.length = n → (∀ i, i < n → s.f32Row st 0 2 i = .ok (rows.getD i [])) →
        (scopyJob c).body s k = .ok (s.putRows o 0 0 rows))

/-- A pass of a product (06 R222, R229): element (i, j) of its 64 × 64 part of C is the dot product of row i of A and row j of
B, over the blocks in order, on the old value or, with Z, on +0. -/
def Sys2Proof.Claims.productPasses : Prop :=
  ∀ (s : State) (p : Product) (i : Nat) (as bs : List (List Blk)) (cs : List (List F32)),
    let i0 := 64 * (i / ((p.n + 63) / 64))
    let j0 := 64 * (i % ((p.n + 63) / 64))
    let rows := min 64 (p.m - i0)
    let cols := min 64 (p.n - j0)
    s.opRows p.a p.kb i0 rows = .ok as → s.opRows p.b p.kb j0 cols = .ok bs →
    (p.fresh = true → p.pass s i = .ok (s.putRows p.c j0 i0 (as.map fun a => bs.map fun b => dotBlocks a b 0)))
    ∧ (p.fresh = false → cs.length = rows → (∀ r, r < rows → s.f32Row p.c j0 cols (i0 + r) = .ok (cs.getD r [])) →
        p.pass s i = .ok (s.putRows p.c j0 i0
          ((List.range rows).map fun r => (List.range cols).map fun q =>
            dotBlocks (as.getD r []) (bs.getD q []) ((cs.getD r []).getD q 0))))

/-- ARRAY_PASS_END (06 R229 to R231; 13 R423): the pass is counted, and its results are written unless all three rows differ,
which halts the command with ARRAY_CHECK, as a failed read does with its own cause; a mismatch is entered in the record. An MMUL's
pass whose rows can be read writes its part of C. A free array of core 0 serves a request of another device (log entry 48). That the
pass count rises at every outcome of the check is the model's choice (log entry 28). -/
def Sys2Proof.Claims.arrayPassesEnd : Prop :=
  (∀ (s : State) (o : Gauge) (cols : List Nat) (k : CmdRec) (as bs : List (List Blk)),
    let p := productOf k.cmd.w1 true
    let i0 := 64 * (k.work.pos false / ((p.n + 63) / 64))
    let j0 := 64 * (k.work.pos false % ((p.n + 63) / 64))
    s.ctx.holder false = some k → k.cmd.w0.toNat % 256 = 0x60 → k.cmd.w0.getLsbD 27 = true → s.core.frozen = false → o ≠ .allDiffer →
    s.opRows p.a p.kb i0 (min 64 (p.m - i0)) = .ok as → s.opRows p.b p.kb j0 (min 64 (p.n - j0)) = .ok bs →
    exec (.arrayPassEnd false o cols) s = .next (((
      (s.putRows p.c j0 i0 (as.map fun a => bs.map fun b => dotBlocks a b 0)).updWork k.seq fun w =>
        w.setPos false (k.work.pos false + 1)).gauged false o cols).afterPass k false))
  ∧ (∀ (s : State) (arr : Bool) (o : Gauge) (cols : List Nat), s.ctx.holder arr = none →
      exec (.arrayPassEnd arr o cols) s = .next (s.servePass arr o cols))
  ∧ ∀ (s : State) (arr : Bool) (cols : List Nat) (k : CmdRec), s.ctx.holder arr = some k → s.core.frozen = false →
    ¬(k.cmd.w0.toNat % 256 = 0x63 ∧ k.work.pos (!arr) < k.work.pos arr) →
    (∀ s1 o, s.passWork k arr = .ok s1 → o ≠ .allDiffer → exec (.arrayPassEnd arr o cols) s = .next ((s1.gauged arr o cols).afterPass k arr))
    ∧ (∀ s1, s.passWork k arr = .ok s1 → mxRuns s → ∃ t : State, exec (.arrayPassEnd arr .allDiffer cols) s = .next t
        ∧ (t.ring .mx).faulting = some
            ⟨0x281, BitVec.ofNat 22 ((if arr then 64 else 0) + (s.core.array arr).passes % 64), 0, cursorOf []⟩
        ∧ t.core.spad = s.core.spad ∧ t.core.tiles = s.core.tiles)
    ∧ (∀ o cause info, s.passWork k arr = .error (cause, info) → mxRuns s → ∃ t : State,
        exec (.arrayPassEnd arr o cols) s = .next t
        ∧ (t.ring .mx).faulting = some { cause := cause, info := BitVec.ofNat 22 info, va := 0, cursor := cursorOf [] }
        ∧ t.core = s.core)
    ∧ (∀ (x : State) o, ((x.gauged arr o cols).core.array arr).passes = (x.core.array arr).passes + 1
        ∧ (x.gauged arr o cols).core.array (!arr) = x.core.array (!arr)
        ∧ ((x.gauged arr .agree cols).core.array arr).bittern = (x.core.array arr).bittern
        ∧ (o ≠ .agree → .own x.here (.bitternCommit arr) ∈ (x.gauged arr o cols).turns))

/-- ATTN_SOFTMAX_START (06 R228; 02 R81): the scores of the score pass are reduced row by row with S's statistics, and the
value pass may begin: with S and O gated already, or once they are. -/
def Sys2Proof.Claims.softmaxSteps : Prop :=
  ∀ (s s1 : State) (k : CmdRec) (ml : Nat → List F32), s.ctx.softWaiting = some k → k.work.progress = 1 → s.core.frozen = false →
    mxRuns s → (k.work.targets ≠ [] ∧ s1 = s) ∨ (k.work.targets = [] ∧ (chunkOf k.cmd).gateSoft s k = .ok s1) →
    let a := chunkOf k.cmd
    (∀ i, i < a.qn → s1.f32Row a.s 0 2 i = .ok (ml i)) →
    let rows := (scoresOf a.qn k.work.elems).zipIdx.map fun x =>
      softRow a.sigma ((ml x.2).getD 0 0) ((ml x.2).getD 1 0) (a.masked x.2 x.1)
    exec .attnSoftmaxStart s = .next ((s1.updWork k.seq fun w =>
      { w with progress := 2, elems := rows.flatMap fun x => x.m :: x.l :: x.alpha :: x.p }).kickAll)

/-- ATTNR_REPLY and ATTNR_TIMEOUT (07 R256 to R258): partials are merged row by row (02 R83) and the command completes; MOVED,
GEOMETRY and the loss of both planes fault it with PFX_MOVED, KV_GEOMETRY and PFX_REMOTE; a poisoned byte and a format byte that
fails on the holder's side fault it with their own causes (log entry 48). -/
def Sys2Proof.Claims.attnrReplies : Prop :=
  ∀ (s : State) (w : PeerWait) (k : CmdRec), s.ctx.asking w.key = some k → mxRuns s →
    let a := attnrOf k.cmd
    let s1 := s.dropWait w.tag
    let fails (i : Instr) (cause : BitVec 10) (info : Nat) : Prop := ∃ t : State, exec i s = .next t
      ∧ (t.ring .mx).faulting = some { cause := cause, info := BitVec.ofNat 22 info, va := 0, cursor := cursorOf [] }
      ∧ t.core = s.core ∧ t.dev = s.dev
    (s.ctx.attnrWait .moved = some w → fails (.attnrReply .moved) 0x30C w.dst)
    ∧ (s.ctx.attnrWait .geometry = some w → fails (.attnrReply .geometry) 0x305 a.layer)
    ∧ (s.ctx.attnrWait .poisoned = some w → fails (.attnrReply .poisoned) 0x180 0)
    ∧ (s.ctx.attnrWait .format = some w → fails (.attnrReply .format) 0x082 0)
    ∧ (∀ (rows : List AttnRow) (ml out : Nat → List F32), s.ctx.attnrWait (.partials rows) = some w → rows.length ≤ a.qn →
        (∀ i, i < rows.length → s1.f32Row a.s 0 2 i = .ok (ml i) ∧ s1.f32Row a.o 0 (64 * 2 ^ a.dc) i = .ok (out i)) →
        let t := s1.putMerged a.s a.o (rows.zipIdx.map fun x =>
          mergeRow ((ml x.2).getD 0 0) ((ml x.2).getD 1 0) x.1.m x.1.l (out x.2) x.1.o)
        exec (.attnrReply (.partials rows)) s
          = .next ((t.updCmd k.seq fun x => { x with stage := CmdStage.moved }).later (.commandComplete .mx)))
    ∧ (∀ p, s.dev.peers.toList[w.dst]? = some p → (p.unreachable = true ∨ (p.failA = true ∧ p.failB = true)) →
        s.ctx.peer = [w] → w.kind = 2 → w.data = none → fails .attnrTimeout 0x30D w.dst)

/-- MATRIX_FREEZE and MATRIX_RESUME stop the arrays of the core and let them go on (06 R229); ARRAY_ROW_REMAP takes the spare
row once, for a row at the threshold and an array that no command holds, and reports it (13 R424; 15 R471); BITTERN_COMMIT
keeps the record of the array, by the core as built, in Bizil, in place of the one kept before (13 R423). The event's arguments, core,
array and row, are the model's choice (log entry 49). -/
def Sys2Proof.Claims.arrayCare : Prop :=
  ∀ (s : State) (arr : Bool) (row : Nat),
    exec .matrixFreeze s = .next { s with core := { s.core with frozen := true } }
    ∧ (let s1 : State := { s with core := { s.core with frozen := false } }
       let s2 := (List.range 4).foldl (fun x n => x.atPlace (4 * (s.here / 4) + n) State.kickAll) s1
       exec .matrixResume s = .next s2.wakeEngines.kickServes)
    ∧ (∀ n, n < 4 → .engine (4 * (s.here / 4) + n) .mx ∈ s.wakeEngines.kickServes.turns)
    ∧ (let b := (s.core.array arr).bittern
       row < 65 → b.thr.toNat ≤ (b.rowCnt.getD row 0).toNat → b.spare = 0xFF → s.arrayFree arr = true →
        ∃ t : State, exec (.arrayRowRemap arr row) s = .next t
          ∧ (t.core.array arr).bittern = { b with spare := BitVec.ofNat 8 row } ∧ t.core.array (!arr) = s.core.array (!arr)
          ∧ .own s.here (.bitternCommit arr) ∈ t.turns ∧ t.ctx = s.ctx ∧ t.dev = s.dev.event 8 s.dev.num.toNat (s.here / 4 * 2 ^ 8 + (if arr then 2 ^ 7 else 0) + row)
          ∧ t.core.spad = s.core.spad)
    ∧ ((s.core.array arr).bittern.spare ≠ 0xFF → exec (.arrayRowRemap arr row) s = .next s)
    ∧ (let core := s.clu.hwCore (s.here / 4)
       ∃ t : State, exec (.bitternCommit arr) s = .next t
        ∧ (core, arr, (s.core.array arr).bittern) ∈ t.dev.bizil.records
        ∧ (∀ x ∈ t.dev.bizil.records, x.1 = core ∧ x.2.1 = arr → x.2.2 = (s.core.array arr).bittern)
        ∧ (∀ x, ¬(x.1 = core ∧ x.2.1 = arr) → (x ∈ t.dev.bizil.records ↔ x ∈ s.dev.bizil.records))
        ∧ t.ctx = s.ctx ∧ t.core = s.core ∧ t.dev.mem = s.dev.mem)

/-- Matrix commands at their issue, and the helper commands' work (06 R191, R220 to R228; 07 R256). -/
def Obligations.MatrixCommands : Prop := matrixCommandsIssue ∧ passesBegin ∧ helpersComplete ∧ requestsAreSent ∧ helperWork

/-- The steps of the arrays (06 R222 to R231; 07 R256 to R258; 13 R423, R424). -/
def Obligations.MatrixEngineSteps : Prop := productPasses ∧ arrayPassesEnd ∧ softmaxSteps ∧ attnrReplies ∧ arrayCare

end

/-! ## The sluice -/

section
open Sys2Proof Sys2Proof.Machine Sys2Proof.Claims

/-- DOORBELL, KICK_REPORT, QUEUE_SCAN and QUEUE_IDLE_TIMEOUT (12 R381 to R383): KICK is raised by unsigned maximum; a bound
queue passes the slots that it has parsed, TYPE 0 first and then RIDX, and parses its next slot by its TYPE; a scan takes the
4,096 queues in order, and each moves between its states as the table of R383 says; an idle bound queue gives its slot up. What
comes while the pair restarts waits for it (13 R429). -/
def Sys2Proof.Claims.queuesMove : Prop :=
  ∀ (s : State) (q : Nat) (v : BitVec 64),
    let x := s.dev.sluice.queue q
    let d := s.queueDesc q
    (s.dev.state = .ready → q < 4096 → exec (.doorbell q v) s
      = .next (if d.kick < v then (s.writeQueue q 0 (leBytes 8 v.toNat)).reportKick (s.dev.queuePa q) else s))
    ∧ (s.dev.state ≠ .ready → exec (.doorbell q v) s = .next s)
    ∧ (s.dev.sluice.stopped = true → exec (.kickReport q) s = .next (s.sluiceWait (.kickReport q))
        ∧ (s.dev.state = .ready → exec .queueScan s = .next (s.sluiceWait .queueScan)))
    ∧ (s.dev.sluice.stopped = false → d.ridx ∉ x.done →
        (x.state ≠ .bound ∨ d.kick ≤ x.next ∨ 256 ≤ s.dev.sluice.heapCount → exec (.kickReport q) s = .next s)
        ∧ (∀ s1 bs, x.state = .bound → x.next < d.kick → s.dev.sluice.heapCount < 256 →
            s.readSlotAt d.asid d.root (d.ring + 128 * (x.next.toNat % 2 ^ d.log)) 128 = (s1, .ok (bs, false)) →
            exec (.kickReport q) s = .next (match (bs.getD 0 0).toNat with
              | 0 => s1.dropReads
              | 2 => s1.later (.packetResume q)
              | 3 => s1.later (.packetShootdown q)
              | 4 => s1.later (.packetNop q)
              | _ => s1.later (.packetLaunch q))))
    ∧ (∀ n va, va = d.ring + 128 * (d.ridx.toNat % 2 ^ d.log) → d.ridx ∈ x.done →
        s.sluiceStalls d.asid d.root va .write = false →
        s.passSlots q (n + 1) = ((((s.writeSlotAt d.asid d.root va [0]).writeQueue q 8 (leBytes 8 (d.ridx + 1).toNat)).sluice
          fun sl => sl.setQueue { x with done := x.done.filter (· != d.ridx) })).passSlots q n)
    ∧ (s.dev.state = .ready → s.dev.sluice.stopped = false → ∃ t : State, exec .queueScan s = .next t
        ∧ (t = (List.range 4096).foldl State.scanQueue s ∨ t = ((List.range 4096).foldl State.scanQueue s).later .queueScan))
    ∧ (x.state = .disabled → d.en = false → s.scanQueue q = s)
    ∧ (x.state = .disabled → d.en = true → s.scanQueue q = s.setQueueState q (if d.valid then .idle else .broken))
    ∧ (x.state = .broken → s.scanQueue q
        = if d.en = false then s.setQueueState q .disabled else if d.valid then s.setQueueState q .idle else s)
    ∧ (x.state = .idle → d.en = false → s.scanQueue q
        = (s.setQueueState q .disabled).sluice fun sl => { sl with bindList := sl.bindList.filter (· != q) })
    ∧ (x.state = .idle → d.en = true → d.kick ≤ d.ridx → s.scanQueue q = s)
    ∧ (x.state = .idle → d.en = true → d.ridx < d.kick → s.dev.sluice.boundCount < 64 → s.dev.sluice.bindList = [] →
        s.scanQueue q = s.bindQueue q)
    ∧ (x.state = .idle → d.en = true → d.ridx < d.kick → s.dev.sluice.boundCount = 64 → q ∉ s.dev.sluice.bindList →
        s.scanQueue q = s.sluice fun sl => { sl with bindList := sl.bindList ++ [q] })
    ∧ (x.state = .bound → d.en = false → s.scanQueue q = (s.setQueueState q .disabled).grantSlot)
    ∧ (x.state = .bound → d.en = true → s.scanQueue q = s.parseNext q)
    ∧ exec (.queueIdleTimeout q) s = .next (if x.state = .bound ∧ d.kick = d.ridx ∧ x.held = [] ∧ s.dev.sluice.bindList ≠ []
          ∧ s.dev.sluice.stopped = false
        then ((s.setQueueState q .idle).grantSlot).scanQueue q else s)
    ∧ (d.valid = true → 4 ≤ d.log ∧ d.log ≤ 12 ∧ d.smin ≠ 3 ∧ s.partFormed d.part = true ∧ d.root < 2 ^ 39)

/-- PACKET_LAUNCH (12 R380, R385, R386, R388, R392, R397, R400, R402): the outcomes at parse, in the order of R385; a LAUNCH
that meets none registers its buffer uses and joins a batch or the heap, and its slot is passed, or held for its prologue. One
whose kernel descriptor, or whose completion, has to wait for a page, a head or a peer is parsed again later (10 R343, R351; 14 R447). -/
def Sys2Proof.Claims.launchesParsed : Prop :=
  ∀ (s s1 s2 : State) (q : Nat) (d : QDesc) (bs : List Byte) (m : Member), s.slot q = .packet s1 d bs →
    ¬(2 ≤ (bs.getD 0 0).toNat ∧ (bs.getD 0 0).toNat ≤ 4) → s1.newMember q d bs = (s2, m) →
    let completes (x : State) (o : Outcomes) : Prop := ∀ y,
      (x.completionReady d.asid d.root m.pkt = (y, true) →
        exec (.packetLaunch q) s = .next ((y.completeMember d.asid d.root { m with out := o }).slotParsed q false))
      ∧ (x.completionReady d.asid d.root m.pkt = (y, false) →
        exec (.packetLaunch q) s = .next ((s1.completionReady d.asid d.root m.pkt).1.sluiceWait (.kickReport q)))
    let ends (x : State) (st : BitVec 8) : Prop := completes x (.ofStatus st)
    (s2.badPacket d bs = true → ends s2 0x06)
    ∧ (∀ s3 o, s2.badPacket d bs = false → s2.readKernel d.asid d.root m.pkt.kdva = (s3, .error (some o)) → completes s3 o)
    ∧ (∀ s3, s2.badPacket d bs = false → s2.readKernel d.asid d.root m.pkt.kdva = (s3, .error none) →
        exec (.packetLaunch q) s = .next ((s1.readKernel d.asid d.root m.pkt.kdva).1.sluiceWait (.kickReport q)))
    ∧ (∀ s3 kd, s2.badPacket d bs = false → s2.readKernel d.asid d.root m.pkt.kdva = (s3, .ok kd) →
        (m.pkt.n = 0 → ends s3 0x02)
        ∧ (2 ^ 24 < m.pkt.n.toNat → ends s3 0x05)
        ∧ (m.pkt.n ≠ 0 → m.pkt.n.toNat ≤ 2 ^ 24 →
          (s3.canHold d.part m.pkt = false → ends s3 0x0A)
          ∧ (s3.canHold d.part m.pkt = true →
            (s3.admits d.part m.pkt.scls m.pkt.due m.pkt.estim = false → ends s3 0x04)
            ∧ (s3.admits d.part m.pkt.scls m.pkt.due m.pkt.estim = true →
                let u := s3.dev.sluice.registerUses { m with kd := kd }
                exec (.packetLaunch q) s = .next (((s3.sluice fun _ => u.1).place u.2 d).slotParsed q m.pkt.pro)))))

/-- PACKET_RESUME, PACKET_SHOOTDOWN and PACKET_NOP (12 R385, R389; 08 R274; 10 R348, R349), the end of a shoot-down, and what
every parse does with an empty slot, with a poisoned one, and with one whose completion or signal has to wait (12 R380; 10 R343,
R351). -/
def Sys2Proof.Claims.otherPacketsParsed : Prop :=
  ∀ (s s1 : State) (q : Nat),
    (∀ bs, let x := s.dev.sluice.queue q
      let d := s.queueDesc q
      x.state = .bound → x.next < d.kick → s.dev.sluice.heapCount < 256 → s.dev.sluice.stopped = false →
      s.dev.sluice.outOfService = false →
      s.readSlotAt d.asid d.root (d.ring + 128 * (x.next.toNat % 2 ^ d.log)) 128 = (s1, .ok (bs, false)) → bs.getD 0 0 ≠ 0 →
      (s1.packetStalls d bs = false → s.slot q = .packet s1 d bs)
      ∧ (s1.packetStalls d bs = true → s.slot q = .nothing (s1.sluiceWait (.kickReport q))))
    ∧ (∀ i ∈ [Instr.packetLaunch q, .packetResume q, .packetShootdown q, .packetNop q],
      (s.slot q = .nothing s1 → exec i s = .next s1) ∧ (s.slot q = .poisoned s1 → exec i s = .next (s1.dropSlot q)))
    ∧ (∀ (s2 : State) (d : QDesc) (bs : List Byte) (m : Member), s.slot q = .packet s1 d bs → s1.newMember q d bs = (s2, m) →
      let ends (i : Instr) (x : State) (o : Outcomes) : Prop := ∀ y,
        (x.completionReady d.asid d.root m.pkt = (y, true) →
          exec i s = .next ((y.completeMember d.asid d.root { m with out := o }).slotParsed q false))
        ∧ (x.completionReady d.asid d.root m.pkt = (y, false) →
          exec i s = .next ((s1.completionReady d.asid d.root m.pkt).1.sluiceWait (.kickReport q)))
      let typ := (bs.getD 0 0).toNat
      (typ = 2 → s2.badPacket d bs = true → ends (.packetResume q) s2 (.ofStatus 0x06))
      ∧ (typ = 3 → s2.badPacket d bs = true → ends (.packetShootdown q) s2 (.ofStatus 0x06))
      ∧ (typ = 4 → s2.badPacket d bs = true → ends (.packetNop q) s2 (.ofStatus 0x06))
      ∧ (∀ s3, typ = 2 → s2.badPacket d bs = false → s2.signalRecord d.asid d.root (m.pkt.kdva.setWidth 64) = (s3, none) →
          ends (.packetResume q) s3 Outcomes.clean)
      ∧ (∀ s3 c i, typ = 2 → s2.badPacket d bs = false →
          s2.signalRecord d.asid d.root (m.pkt.kdva.setWidth 64) = (s3, some (.fault c i)) →
          ends (.packetResume q) s3 { Outcomes.ofStatus 0x0C with
            cause := c, info := i, taddr := if c = 0 then 0 else m.pkt.kdva.setWidth 64 })
      ∧ (∀ s3, typ = 2 → s2.badPacket d bs = false →
          s2.signalRecord d.asid d.root (m.pkt.kdva.setWidth 64) = (s3, some .wait) → exec (.packetResume q) s
            = .next ((s1.signalReady d.asid d.root (m.pkt.kdva.setWidth 64)).1.sluiceWait (.kickReport q)))
      ∧ (typ = 3 → s2.badPacket d bs = false → d.kpriv = false → ends (.packetShootdown q) s2 (.ofStatus 0x0D))
      ∧ (typ = 3 → s2.badPacket d bs = false → d.kpriv = true → ∃ (x : Shootdown) (t : State),
          exec (.packetShootdown q) s = .next (t.slotParsed q false) ∧ t.dev.sluice.shootdowns = s2.dev.sluice.shootdowns ++ [x]
          ∧ .own s2.here .shootdownComplete ∈ t.turns ∧ x.lid = m.lid
          ∧ t.clu.tlb = (s2.clu.dropTlb x.span).tlb ∧ (t.clus = s2.clus.map fun c => c.dropTlb x.span)
          ∧ t.core.tlb = (s2.core.dropTlb x.span).tlb ∧ (t.cores = s2.cores.map fun c => c.dropTlb x.span))
      ∧ (typ = 4 → s2.badPacket d bs = false → let u := s2.dev.sluice.registerUses m
          exec (.packetNop q) s = .next (((s2.sluice fun _ => u.1).place u.2 d).slotParsed q false)))
    ∧ (s.dev.sluice.shootdowns = [] → exec .shootdownComplete s = .next s)
    ∧ (∀ x, s.dev.sluice.shootdowns = [x] → s.dev.sluice.stopped = false →
        (∀ p : Packet, p.crva = x.crva → p.wcva = 0 → s.drain.completionStalls x.qasid x.root p = false) →
        (∀ c ∈ s.drain.allCtxs ++ s.drain.storedCtxs, c.translated x.span = false) →
        ∃ m : Member, m.lid = x.lid ∧ m.out = Outcomes.clean ∧ m.pkt.crva = x.crva ∧ m.pkt.cmpi = x.cmpi ∧ m.pkt.wcva = 0
          ∧ exec .shootdownComplete s
            = .next (((s.drain.shootDown x.span).sluice fun sl => { sl with shootdowns := [] }).completeMember x.qasid x.root m))
    ∧ (∀ x xs, s.dev.sluice.shootdowns = x :: xs → (∃ c ∈ s.drain.allCtxs ++ s.drain.storedCtxs, c.translated x.span = true) →
        exec .shootdownComplete s = .next s.drain)

/-- BATCH_CLOSE (12 R403), DISPATCH (12 R393), PROLOGUE_START (12 R396, R397), PROLOGUE_OVERRUN (12 R398) and LAUNCH_COMPLETE
(12 R387, R388, R389). -/
def Sys2Proof.Claims.launchesRun : Prop :=
  ∀ (s : State) (w : Nat) (lid : BitVec 32),
    (∀ l, s.dev.sluice.launches.find? (fun l => l.window? == some w) = some l →
        (s.dev.sluice.stopped = true → exec (.batchClose w) s = .next (s.sluiceWait (.batchClose w)))
        ∧ (s.dev.sluice.stopped = false → ∃ t : State, exec (.batchClose w) s = .next t
          ∧ .own s.here .dispatch ∈ t.turns ∧ t.dev.sluice = (s.dev.sluice.updLaunch l.key Launch.summed).enterHeap l.key
          ∧ t.ctx = s.ctx ∧ t.dev.mem = s.dev.mem))
    ∧ (s.dev.state = .ready → s.dev.sluice.stopped = false → s.dev.sluice.outOfService = false →
        (∀ t, s.returnPond = some t → exec .dispatch s = .next (t.later .dispatch))
        ∧ (∀ t, s.returnPond = none → s.tryEntries true s.ready = some t → exec .dispatch s = .next (t.later .dispatch))
        ∧ (s.returnPond = none → s.ready = [] → exec .dispatch s = .next s)
        ∧ (∀ l es mem k m u ps, s.returnPond = none → s.ready = .launch l :: es → l.members.all (·.nop) = false → l.proDone = true →
            s.dev.sluice.saved = [] → groupAt l.members l.nextGroup 0 = some (mem, k, m) → s.startWaits l = false →
            s.fits l.part (m.groupTasks k) m.pkt.vgrp l.key m.pkt.xcore = some (u, ps) →
            exec .dispatch s = .next ((s.startGroup l u ps).later .dispatch))
        ∧ (∀ t waits, s.returnPond = none → s.tryEntries true s.ready = none → (s.preemptFor s.ready).askAll s.ready = (t, waits) →
            exec .dispatch s = .next (if waits then t.sluiceWait .dispatch else t)))
    ∧ (s.preemptFor s.ready = ((s.ready.filterMap fun e => if e.scls = 0 then e.wants else none).foldl
        (fun x w => x.1.requestFor x.2 w) (s, vacated s.allCtxs s.leaving)).1)
    ∧ (s.dev.state ≠ .ready ∨ s.dev.sluice.outOfService = true → exec .dispatch s = .next s)
    ∧ (s.dev.state = .ready → s.dev.sluice.outOfService = false → s.dev.sluice.stopped = true →
        exec .dispatch s = .next (s.sluiceWait .dispatch))
    ∧ (∀ l m es, s.dev.sluice.stopped = false → s.dev.sluice.outOfService = false → s.ready = .launch l :: es →
        l.members = [m] → l.proDone = false → m.nop = false → s.freeWorker l.shun = some w →
        ∃ (c : Ctx) (t : State), exec .prologueStart s
            = .next ((t.atPlace (640 + 4 * w) fun y => { y with ctx := c }).queue (.stream (640 + 4 * w)))
          ∧ c.status = .active ∧ c.pc = m.pkt.propc.setWidth 64 ∧ c.reg 2 = m.pkt.proarg ∧ c.asid = l.asid ∧ c.root = l.root
          ∧ t.dev.sluice = s.dev.sluice.updLaunch l.key (fun x => { x with phase := .prologue }) ∧ t.ctx = s.ctx)
    ∧ (∀ j, w < 8 → s.here = 640 + 4 * w → s.ctx.job = some j → j.prologue = true → 65536 ≤ j.issued → s.ctx.ending = none →
        ∃ t : State, exec (.prologueOverrun w) s = .next t ∧ t.ctx.ending = some (.killed 0x09 0 0 0) ∧ t.ctx.status = .stalled
          ∧ .own s.here .taskEnd ∈ t.turns ∧ t.dev = s.dev)
    ∧ (∀ l i m s1, s.dev.sluice.byLid lid = some (l, i, m) → s.mayComplete l i m = true → s.dev.sluice.stopped = false →
        s.completionReady l.asid l.root m.pkt = (s1, false) → exec (.launchComplete lid) s = .next (s1.sluiceWait (.launchComplete lid)))
    ∧ (∀ l i m s1, s.dev.sluice.byLid lid = some (l, i, m) → s.mayComplete l i m = true → s.dev.sluice.stopped = false →
        s.completionReady l.asid l.root m.pkt = (s1, true) →
        let gone (sl : Sluice) : Sluice :=
          let sl1 := sl.updMember l.key i fun x => { x with completed := true }
          { sl1 with launches := sl1.launches.filter fun x => x.key != l.key || x.members.any fun y => !y.completed }
        exec (.launchComplete lid) s
          = .next ((((s1.completeMember l.asid l.root m).sluice gone).heapFreed).later .dispatch))
    ∧ (s.dev.sluice.stopped = true → exec (.launchComplete lid) s = .next s)

/-- How a task starts (01 R52, R53; 12 R386): its registers, its PC and its control registers; and the order of ready entries:
deadline, class, parse order (12 R390), with the classes that the thermal level leaves open (12 R405). -/
def Sys2Proof.Claims.tasksStart : Prop :=
  (∀ (l : Launch) (m : Member) (j : Job) (tid : BitVec 24) (pond : BitVec 64) (base : Nat),
    let c := startCtx l m j tid pond base
    c.status = .active ∧ c.pc = m.kd.entry.setWidth 64 ∧ c.reg 1 = m.pkt.argva.setWidth 64 ∧ c.reg 2 = tid.setWidth 64
      ∧ (∀ n : BitVec 5, n ≠ 1 → n ≠ 2 → c.reg n = 0) ∧ c.pois = 0 ∧ c.masks = Vector.replicate 8 0
      ∧ c.ctl.tid = tid ∧ c.ctl.lid = m.lid ∧ c.ctl.pondid = pond ∧ c.ctl.kernel = false ∧ c.ctl.vCount = 0
      ∧ c.ctl.vLimit = BitVec.ofNat 4 m.pkt.vgrp ∧ c.asid = l.asid ∧ c.root = l.root ∧ c.job = some j
      ∧ c.loop.levels = [] ∧ c.cmds = [] ∧ c.posted = [])
  ∧ (∀ t c : Nat, c < 3 →
      (classOpen t c = true ↔ c = 0 ∨ (c = 1 ∧ t < 3) ∨ (c = 2 ∧ t = 0)))
  ∧ (∀ a b : Launch, a.scls < 3 → b.scls < 3 → a.order < 2 ^ 64 → b.order < 2 ^ 64 →
      ((Entry.launch a).rank < (Entry.launch b).rank ↔ a.deadline < b.deadline
        ∨ (a.deadline = b.deadline ∧ (a.scls < b.scls ∨ (a.scls = b.scls ∧ a.order < b.order)))))

/-- Queues, packets and launches from a kick to the completion record (12; 01 R53). -/
def Obligations.QueuesPacketsAndLaunches : Prop :=
  queuesMove ∧ launchesParsed ∧ otherPacketsParsed ∧ launchesRun ∧ tasksStart

end

/-! ## Pre-emption, swaps, shedding, lock-step -/

section
open Sys2Proof Sys2Proof.Machine Sys2Proof.Claims

/-- HALT_COMPLETE (13 R417 to R420; 12 R395, R405): a unit whose members have all halted, with their rings quiet, is saved and
its launch returns to the heap, unless the pair restarts (13 R429); without free save blocks it resumes where it halted, or, a background
one from thermal level 2 on, stays halted in place; one whose rings are at work looks again later; one whose partition is to swap lets
the exchange follow (13 R422). The model's choices: a unit without a free save block resumes in place, and a
halt waits for answers of peers and the lanes of a VATOM (log entry 34); a group that left at a barrier needs no free block (log entry
35). -/
def Sys2Proof.Claims.haltsComplete : Prop :=
  ∀ s : State, s.ctx.status = .halted →
    let unit := s.victims s.here
    (s.ctx.quiesced = false → s.ctx.peer.any (·.data.isNone) = false → s.ctx.vatom = none →
        exec .haltComplete s = .next (s.retryLater .haltComplete))
    ∧ (s.ctx.peer.any (·.data.isNone) = true ∨ s.ctx.vatom ≠ none → exec .haltComplete s = .next s)
    ∧ (∀ p, s.ctx.quiesced = true → s.clu.part = some p → p ∈ s.dev.swaps → s.here < 640 → exec .haltComplete s
        = .next (if s.partHalted p then s.queue (.own s.here (.swapExchange p)) else s))
    ∧ (s.ctx.quiesced = true → (∀ p, s.clu.part = some p → p ∉ s.dev.swaps) →
      (¬(∀ p ∈ unit, (s.allCtxs.getD p Ctx.vacant).halted = true) ∨ s.dev.sluice.stopped = true → exec .haltComplete s = .next s)
      ∧ ((∀ p ∈ unit, (s.allCtxs.getD p Ctx.vacant).halted = true) → s.dev.sluice.stopped = false →
        (s.ctx.leftPond = none → s.freeBlocks < unit.length → 2 ≤ s.dev.sluice.therm → s.classOf s.ctx = some 2 →
            exec .haltComplete s = .next (unit.foldl (fun x p => x.atPlace p fun y => { y with ctx := { y.ctx with inPlaceHalt := true } }) s))
        ∧ (s.ctx.leftPond = none → s.freeBlocks < unit.length → (s.dev.sluice.therm < 2 ∨ s.classOf s.ctx ≠ some 2) →
            exec .haltComplete s = .next (unit.foldl (fun x p => x.atPlace p State.resumeInPlace) s))
        ∧ (s.ctx.leftPond ≠ none ∨ unit.length ≤ s.freeBlocks → exec .haltComplete s = .next (s.saveUnit unit))))
    ∧ (∀ j, unit = [s.here] → s.ctx.job = some j → s.ownedTiles = [] →
        let saves (y : State) : State := (y.saveHere s.dev.sluice.orderNext).sluice fun sl => { sl with orderNext := sl.orderNext + 1 }
        s.saveUnit unit = (if s.ctx.leftPond = none then (saves s).returnLaunch j.launch else saves s).later .dispatch)

/-- What a save block holds (13 R419; 08 R276): registers in the live mask as they are with their poison, the others
zero and clean; the vector registers of live groups as they are, the others zero and VOID; the place is FREE. TVEC is that of the launch's
kernel descriptor (01 R53). That what the table does not list is zero is the model's choice (log entry 34). -/
def Sys2Proof.Claims.savesKeepLiveState : Prop :=
  ∀ (s : State) (save : Nat) (sm : BitVec 32) (vm : BitVec 8), s.liveOf = (s, sm, vm) → s.ownedTiles = [] →
    ∃ sv : Saved, (s.saveHere save).dev.sluice.saved = s.dev.sluice.saved ++ [sv]
      ∧ (∀ n, n < 32 → sv.ctx.regs.toList.getD n 0 = if sm.getLsbD n then s.ctx.regs.toList.getD n 0 else 0)
      ∧ sv.ctx.pois = s.ctx.pois &&& sm ∧ sv.ctx.pc = s.ctx.pc ∧ sv.ctx.masks = s.ctx.masks ∧ sv.ctx.fifos = s.ctx.fifos
      ∧ sv.ctx.loop = s.ctx.loop ∧ sv.ctx.ctl.tid = s.ctx.ctl.tid ∧ sv.ctx.ctl.fmode = s.ctx.ctl.fmode
      ∧ sv.vregs.length = 4 * s.ctx.ctl.vCount.toNat
      ∧ (∀ n, n < 4 * s.ctx.ctl.vCount.toNat → sv.vregs.getD n VReg.gated = if vm.getLsbD (n / 4)
          then s.core.vregs.toList.getD (4 * s.ctx.ctl.vBase.toNat + n) VReg.gated else { VReg.gated with power := .active })
      ∧ sv.pond = s.ctx.leftPond ∧ sv.save = save ∧ (s.saveHere save).ctx = Ctx.vacant
      ∧ (∀ j m, s.ctx.job = some j → s.memberOf j = some m → sv.ctx.ctl.tvec = m.kd.tvec.extractLsb' 2 54)
      ∧ sv.ctx.ctl.tcode = 0 ∧ sv.ctx.ctl.tval = 0 ∧ sv.ctx.ctl.tpc = 0 ∧ sv.ctx.ctl.kscr0 = 0 ∧ sv.ctx.ctl.kscr1 = 0
      ∧ sv.ctx.ctl.xc = 0 ∧ sv.ctx.ctl.lmValid = false ∧ sv.ctx.sinceSafe = 0

/-- PARTITION_SWAP and SWAP_EXCHANGE (13 R422): the partition's contexts are asked to halt, no task is started there meanwhile, and
once they have, the swap is made. -/
def Sys2Proof.Claims.partitionsSwap : Prop :=
  ∀ (s : State) (part : Nat),
    (s.partFormed part = false ∨ part ∈ s.dev.swaps → exec (.partitionSwap part) s = .next s)
    ∧ (s.partFormed part = true → part ∉ s.dev.swaps →
        let s1 : State := { s with dev := { s.dev with swaps := part :: s.dev.swaps } }
        let s2 := s1.requestAll ((s1.partPlaces part).filter fun p => !(s1.allCtxs.getD p Ctx.vacant).free)
        exec (.partitionSwap part) s = .next (if s2.partHalted part then s2.later (.swapExchange part) else s2))
    ∧ (part ∈ s.dev.swaps → ∀ g v launch xcore, s.fits part g v launch xcore = none)
    ∧ (part ∉ s.dev.swaps ∨ s.partHalted part = false → exec (.swapExchange part) s = .next s)
    ∧ (part ∈ s.dev.swaps → s.partHalted part = true →
        ∃ t : State, exec (.swapExchange part) s = .next t ∧ part ∉ t.dev.swaps ∧ .own t.here .dispatch ∈ t.turns
          ∧ (s.partClusters part = [] → t.ctx = s.ctx ∧ t.core = s.core))
    ∧ (∀ a b : CoreSt, let c := a.exchange b
        c.spad = b.spad ∧ c.ue = b.ue ∧ c.tiles = b.tiles ∧ c.vregs = b.vregs ∧ c.sems = b.sems ∧ c.score = a.score
          ∧ c.value = a.value ∧ c.retire = a.retire ∧ c.sparesUsed = a.sparesUsed)

/-- The exchange of a formed partition (13 R422): each of its clusters takes what its cellar holds, idle cores where it holds nothing, and
the cellar what the cluster held; contexts that had halted there go on; no other cluster changes. -/
def Sys2Proof.Claims.partitionsExchange : Prop :=
  ∀ (s : State) (part : Nat), part ∈ s.dev.swaps → s.partHalted part = true → s.here < 672 → s.ctxs.length = 672 →
    s.cores.length = 168 → s.clus.length = 11 → s.dev.sluice.stopped = true ∨ s.dev.sluice.therm < 2 →
    (∀ c ∈ s.allCtxs, c.inPlaceHalt = false) →
    (∀ u ∈ s.partClusters part, ∀ c ∈ ((s.allClus.getD u ClusterSt.blank).cellar.getD ClusterImage.idle).ctxs,
      c.inPlaceHalt = true → c.status = .halted) →
    ∃ t : State, exec (.swapExchange part) s = .next t
      ∧ (∀ u ∈ s.partClusters part,
          let im := (s.allClus.getD u ClusterSt.blank).cellar.getD ClusterImage.idle
          (∀ k, k < 64 → t.allCtxs.getD (64 * u + k) Ctx.vacant = (im.ctxs.getD k Ctx.vacant).fromCellar)
          ∧ (∀ k, k < 16 → t.allCores.getD (16 * u + k) CoreSt.blank
              = (s.allCores.getD (16 * u + k) CoreSt.blank).exchange (im.cores.getD k CoreSt.blank))
          ∧ (t.allClus.getD u ClusterSt.blank).psems = im.psems
          ∧ (t.allClus.getD u ClusterSt.blank).cellar = some (s.clusterImage u))
      ∧ (∀ p, p < 672 → p / 64 ∉ s.partClusters part → t.allCtxs.getD p Ctx.vacant = s.allCtxs.getD p Ctx.vacant)
      ∧ ∀ k, k < 168 → k / 16 ∉ s.partClusters part → t.allCores.getD k CoreSt.blank = s.allCores.getD k CoreSt.blank

/-- THERMAL_LEVEL_CHANGE (12 R405; 15 R470): a level is entered at 90, 95 and 100 degrees and left below 85, 90 and 95; DEVSTAT
and the sluice take it; from level 2 on running background tasks are asked to halt, and below it those halted in place resume, once the
pair has restarted (13 R429). LOCKSTEP_MISMATCH stops the sluice and, the third time within a second, takes the device out of service; LOCKSTEP_RESTART lets a
stopped sluice go on (12 R378; 13 R429, R430). -/
def Sys2Proof.Claims.sheddingAndLockstep : Prop :=
  ∀ (s : State) (celsius : Int),
    (∀ old, old < 4 → let l := thermalLevel old celsius
      l < 4 ∧ (1 ≤ l ↔ 90 ≤ celsius ∨ (1 ≤ old ∧ 85 ≤ celsius)) ∧ (2 ≤ l ↔ 95 ≤ celsius ∨ (2 ≤ old ∧ 90 ≤ celsius))
        ∧ (3 ≤ l ↔ 100 ≤ celsius ∨ (3 ≤ old ∧ 95 ≤ celsius)))
    ∧ (let l := thermalLevel s.dev.sluice.therm celsius
     let s1 := { s with dev := { s.dev with therm := BitVec.ofNat 2 l, celsius := celsius } }.sluice fun sl => { sl with therm := l }
     (s.dev.sluice.stopped = true → exec (.thermalLevelChange celsius) s = .next (s1.later .dispatch))
     ∧ (s.dev.sluice.stopped = false → 2 ≤ l → exec (.thermalLevelChange celsius) s = .next ((s1.requestAll (s1.placesWith fun c =>
        !c.free && s1.classOf c == some 2 && !c.inPlaceHalt && !c.job.any (·.prologue))).later .dispatch))
     ∧ (s.dev.sluice.stopped = false → l < 2 → exec (.thermalLevelChange celsius) s = .next (((s1.placesWith (·.inPlaceHalt)).foldl
        (fun x p => x.atPlace p State.resumeInPlace) s1).later .dispatch)))
    ∧ (let recent := s.dev.sluice.mismatches.filter fun t => decide (s.dev.time.toNat - t.toNat < 10 ^ 9)
       ∃ t : State, exec .lockstepMismatch s = .next t ∧ t.dev.sluice.stopped = true
        ∧ t.dev.sluice.mismatches = s.dev.time :: recent
        ∧ (2 ≤ recent.length → t.dev.sluice.outOfService = true ∧ t.dev.state = .outOfService)
        ∧ (recent.length < 2 → t.dev.sluice.outOfService = s.dev.sluice.outOfService ∧ t.dev.state = s.dev.state)
        ∧ t.ctx = s.ctx ∧ t.core = s.core ∧ t.ctxs = s.ctxs)
    ∧ (s.dev.sluice.outOfService = true ∨ s.dev.sluice.stopped = false → exec .lockstepRestart s = .next s)
    ∧ (s.dev.sluice.outOfService = false → s.dev.sluice.stopped = true → s.dev.sluice.queues = [] → s.dev.sluice.launches = [] →
        (∀ c ∈ s.allCtxs, c.inPlaceHalt = false) → s.dev.sluice.therm < 2 →
        exec .lockstepRestart s = .next ((s.sluice fun sl => { sl with stopped := false }).later .dispatch))

/-- Pre-emption, partition swaps, thermal shedding and the sluice's lock-step (12 R378, R405; 13 R417 to R422, R429, R430). -/
def Obligations.PreemptionSwapsAndShedding : Prop :=
  haltsComplete ∧ savesKeepLiveState ∧ partitionsSwap ∧ partitionsExchange ∧ sheddingAndLockstep

end

/-! ## Units that move pages, and the pool -/

section
open Sys2Proof Sys2Proof.Machine Sys2Proof.Claims

/-- The migration unit (10 R351; 06 R214): a request past its deadline is dropped and counted; one whose page lies where it
asks ends; else the leaf gets MIG = 1 and its translations are dropped; at the switch, with no access through the page
outstanding and with heads for the dirty lines of both frames (14 R447), the page is copied, the leaf gets its new frame, translations are dropped again and the old frame is returned; an
abandoned one keeps its old frame. -/
def Sys2Proof.Claims.migrations : Prop :=
  ∀ (s : State) (r : MigReq),
    let noneActive := ∀ x ∈ s.dev.mig.reqs, x.active = none
    let drops (t : State) : Prop := t.dev.mig.reqs = s.dev.mig.reqs.erase r ∧ t.dev.mem = s.dev.mem ∧ t.ctx = s.ctx
      ∧ t.dev.tel = { s.dev.tel with migDropped := satInc s.dev.tel.migDropped 1 }
    (s.dev.mig.reqs = [] → exec .migrationStart s = .next s ∧ exec .migrationSwitch s = .next s
        ∧ exec .migrationDeadlineDrop s = .next s ∧ exec .migrationAbandon s = .next s)
    ∧ (noneActive → earliest s.dev.mig.reqs = some r → r.deadline < s.dev.time →
        ∃ t : State, exec .migrationStart s = .next t ∧ drops t)
    ∧ (∀ lvl e epa new rest, noneActive → earliest s.dev.mig.reqs = some r → ¬r.deadline < s.dev.time →
        s.dev.walk s.allClus r.va r.root [4, 3, 2, 1, 0] = .leaf lvl e epa → lvl ≠ 2 → leafMig e = false →
        residency (leafFrame e lvl) ≠ r.tres → s.dev.mig.frames r.tres = new :: rest → s.frameFits e lvl new = true →
        ∃ u : State, exec .migrationStart s = .next (u.shootDown (pageSpan r.asid r.va lvl))
          ∧ u.dev.mig.reqs = s.dev.mig.reqs.map (fun x => if x == r then { x with active := some (epa, leafFrame e lvl, new) } else x)
          ∧ u.dev.mig.frames r.tres = rest
          ∧ u.dev.mem = (s.dev.changeEntry epa fun x => putBit x 55 true).mem ∧ u.ctx = s.ctx)
    ∧ (∀ lvl e epa, noneActive → earliest s.dev.mig.reqs = some r → ¬r.deadline < s.dev.time →
        s.dev.walk s.allClus r.va r.root [4, 3, 2, 1, 0] = .leaf lvl e epa → lvl ≠ 2 → leafMig e = false →
        residency (leafFrame e lvl) = r.tres →
        exec .migrationStart s = .next { s with dev := { s.dev with mig := { s.dev.mig with reqs := s.dev.mig.reqs.erase r } } })
    ∧ (∀ epa old new lvl e, s.dev.mig.reqs.find? (fun r => r.active.isSome) = some r → r.active = some (epa, old, new) →
        let s0 := s.drain
        let p := pageSpan r.asid r.va lvl
        s0.dev.walk s0.allClus r.va r.root [4, 3, 2, 1, 0] = .leaf lvl e epa → leafMig e = true → leafFrame e lvl = old →
        s0.frameFits e lvl new = true →
        ((∃ c ∈ s0.allCtxs ++ s0.storedCtxs, c.translated p = true) ∨ s0.dev.spanWaits old p.len = true
          ∨ s0.dev.spanWaits new p.len = true → exec .migrationSwitch s = .next s0)
        ∧ ((∀ c ∈ s0.allCtxs ++ s0.storedCtxs, c.translated p = false) → s0.dev.spanWaits old p.len = false →
          s0.dev.spanWaits new p.len = false → ∃ t : State, exec .migrationSwitch s = .next t
            ∧ t.dev.mig.returned = s0.dev.mig.returned ++ [old] ∧ t.dev.mig.reqs = s0.dev.mig.reqs.erase r
            ∧ t.clu.tlb = (s0.clu.dropTlb p).tlb
            ∧ t.dev.mem = ((((s0.dev.flushSpan old p.len).flushSpan new p.len).copyMem old new (p.len / 128)).changeEntry epa
                fun x => if leafFrame x lvl = old then leafAt x new false else x).mem))
    ∧ (s.dev.mig.reqs.find? (fun r => r.active.isNone && decide (r.deadline < s.dev.time)) = some r →
        ∃ t : State, exec .migrationDeadlineDrop s = .next t ∧ drops t)
    ∧ (∀ epa old new, s.dev.mig.reqs.find? (fun r => r.active.isSome) = some r → r.active = some (epa, old, new) →
        exec .migrationAbandon s = .next (if s.dev.noHead epa then s else { s with dev := s.dev.abandon epa }))

/-- PT_NODE_BUSY (10 R343): the walk that waits at a migrating node is made again; one that still finds it migrating traps
PT_NODE_BUSY, with its lane for a VATOM's (05 R186), or faults its command with it, and one that does not lets the stalled instruction
issue, or its engine go on. That, where no walk of the context waits, the sluice's steps that wait are made again is the model's choice
(log entry 41). -/
def Sys2Proof.Claims.busyWalks : Prop :=
  ∀ (s : State) (b : BusyWait),
    (s.ctx.busy = none → s.dev.sluice.waiting = [] → exec .ptNodeBusy s = .next s)
    ∧ (s.ctx.busy = none → s.dev.sluice.waiting ≠ [] → exec .ptNodeBusy s
        = .next (s.dev.sluice.waiting.foldl State.later (s.sluice fun sl => { sl with busyOver := true })))
    ∧ (∀ r, s.ctx.busy = some b → b.ring = some r →
        let s0 : State := { s with ctx := { s.ctx with busy := none } }
        (∀ s1 info, s0.translate b.kernel b.va.toNat (kindOf b.kind) = (s1, .busy info) →
            exec .ptNodeBusy s = .next (s1.failCmd r b.cmd { cause := 0x103, info := info, va := b.fa, cursor := b.cursor }))
        ∧ (∀ s1 pa leaf, s0.translate b.kernel b.va.toNat (kindOf b.kind) = (s1, .ok pa leaf) →
            exec .ptNodeBusy s = .next (s1.queue (.engine s1.here r))))
    ∧ (s.ctx.busy = some b → b.ring = none →
        let s0 : State := { s with ctx := { s.ctx with busy := none } }
        (∀ s1 info, s0.translate b.kernel b.va.toNat (kindOf b.kind) = (s1, .busy info) →
            exec .ptNodeBusy s = .next (s1.takeTrap 0x103
              (match b.lane with | none => info | some j => BitVec.ofNat 22 (j * 2 ^ 16 + info.toNat % 2 ^ 16)) b.va))
        ∧ (∀ s1 pa leaf, s0.translate b.kernel b.va.toNat (kindOf b.kind) = (s1, .ok pa leaf) →
            exec .ptNodeBusy s = .next (if s1.ctx.issues then s1.goOn else s1)))

/-- HEAT_SWEEP fades each leaf of the address spaces in use by one, down to 0 (10 R346); that these are those of the launches and of the
enabled queues, and that each leaf fades once in the one step, is the model's choice (log entry 37). LAGOON_SCRUB_VISIT takes one frame
after the other, one that has to be written back once its module has a head, and starts a pass after the last (10 R337; 14 R447); a channel is switched from CHANNEL_SPARE_SWITCH to
SPARE_CHANNEL_SWITCH_END (10 R334). -/
def Sys2Proof.Claims.memoryUnits : Prop :=
  ∀ (s : State) (e : BitVec 64) (a b : Nat),
    ((faded e).extractLsb' 56 2 = (if e.extractLsb' 56 2 = 0 then 0 else e.extractLsb' 56 2 - 1)
      ∧ (faded e).extractLsb' 58 2 = (if e.extractLsb' 58 2 = 0 then 0 else e.extractLsb' 58 2 - 1)
      ∧ (faded e).extractLsb' 0 56 = e.extractLsb' 0 56 ∧ (faded e).extractLsb' 60 4 = e.extractLsb' 60 4)
    ∧ (∃ d : Device, exec .heatSweep s = .next { s with dev := d }
        ∧ d = ((s.roots.flatMap fun r => s.dev.leavesBelow s.allClus [4, 3, 2, 1, 0] r).eraseDups).foldl
            (fun d p => d.changeEntry p faded) s.dev)
    ∧ (s.dev.lagoonBytes < 2048 → exec .lagoonScrubVisit s = .next s)
    ∧ (s.dev.scrubWaits s.dev.scrub.visited = true → exec .lagoonScrubVisit s = .next s)
    ∧ (2048 ≤ s.dev.lagoonBytes → s.dev.scrubWaits s.dev.scrub.visited = false → ∃ t : State,
        exec .lagoonScrubVisit s = .next t ∧ t.ctx = s.ctx ∧ t.core = s.core
        ∧ (s.dev.scrub.visited + 1 < s.dev.lagoonBytes / 2048 →
            t.dev.scrub = { s.dev.scrub with visited := s.dev.scrub.visited + 1 })
        ∧ (s.dev.lagoonBytes / 2048 ≤ s.dev.scrub.visited + 1 →
            t.dev.scrub = { base := s.dev.scrub.pass, pass := s.dev.epoch, visited := 0, passes := s.dev.scrub.passes + 1 })
        ∧ (∀ f ∈ t.dev.lagoon, f ∈ s.dev.lagoon))
    ∧ (∃ t : State, exec (.channelSpareSwitch a b) s = .next t ∧ (a, b) ∈ t.dev.switching
        ∧ (∀ x, x ≠ (a, b) → (x ∈ t.dev.switching ↔ x ∈ s.dev.switching)) ∧ t.dev.mem = s.dev.mem ∧ t.ctx = s.ctx)
    ∧ (s.dev.switching.Nodup → ∃ t : State, exec (.spareChannelSwitchEnd a b) s = .next t ∧ (a, b) ∉ t.dev.switching
        ∧ (∀ x, x ≠ (a, b) → (x ∈ t.dev.switching ↔ x ∈ s.dev.switching)) ∧ t.dev.mem = s.dev.mem ∧ t.ctx = s.ctx)

/-- Extents and their states (14 R443, R444): NONE to OFFERED by ADD_CAPACITY, to ONLINE by CAPACITY_ACCEPT, back by
CAPACITY_DECLINE, to RELEASING by RELEASE_CAPACITY, and to NONE by CONFIRM_REVOCATION, once no access is outstanding, or by
FORCED_REMOVAL, which drops dirty lines. In RESET the ports are held, and nothing is offered (15 R463). -/
def Sys2Proof.Claims.extentsMove : Prop :=
  ∀ (s : State) (m start len : Nat),
    let at_ (x : State) : Option ExtState := (x.dev.extentAt start).map (·.state)
    (s.dev.state ≠ .reset → s.dev.offerFits m start len = true → at_ s = none → moduleOf start = m → ∃ t : State,
        exec (.addCapacity m start len) s = .next t ∧ at_ t = some .offered ∧ t.ctx = s.ctx)
    ∧ (s.dev.state = .reset ∨ s.dev.offerFits m start len = false → exec (.addCapacity m start len) s = .next s)
    ∧ (moduleOf start < 4 → at_ s = some .offered → (∃ t : State, exec (.capacityAccept start) s = .next t ∧ at_ t = some .online)
        ∧ (∃ t : State, exec (.capacityDecline start) s = .next t ∧ at_ t = none)
        ∧ exec (.releaseCapacity start) s = .next s ∧ exec (.confirmRevocation start) s = .next s
        ∧ exec (.forcedRemoval start) s = .next s)
    ∧ (moduleOf start < 4 → at_ s = some .online → (∃ t : State, exec (.releaseCapacity start) s = .next t ∧ at_ t = some .releasing)
        ∧ (∃ t : State, exec (.forcedRemoval start) s = .next t ∧ at_ t = none)
        ∧ exec (.capacityAccept start) s = .next s ∧ exec (.capacityDecline start) s = .next s
        ∧ exec (.confirmRevocation start) s = .next s)
    ∧ (∀ e, moduleOf start < 4 → s.dev.extentAt start = some e → e.state = .releasing →
        ((∃ c ∈ s.drain.allCtxs ++ s.drain.storedCtxs, c.reaching start e.len = true) → exec (.confirmRevocation start) s = .next s.drain)
        ∧ ((∀ c ∈ s.drain.allCtxs ++ s.drain.storedCtxs, c.reaching start e.len = false) →
            ∃ t : State, exec (.confirmRevocation start) s = .next t ∧ at_ t = none)
        ∧ (∃ t : State, exec (.forcedRemoval start) s = .next t ∧ at_ t = none
            ∧ ∀ l ∈ t.dev.lines, l ∈ s.dev.lines ∧ ¬(l.dirty = true ∧ meets l.pa 128 e.start e.len = true)))

/-- Snoops, heads, ports and modules (14 R432 to R435, R439, R445, R447; 15 R463, R472): a snoop writes a BI line back and takes it or its
exclusivity away, with the copies in the scalar data caches; a port that goes down takes its head out of use, and one that is up again
brings it back; three lane failures end a port; nothing of this happens to a port that RESET holds. The model's choices (log entry 51):
a snoop acts only on lines filled in mode BI, a head that has timed out leaves its port up, re-enumeration takes the heads whose ports
are up, and a flit that a retry recovers is counted while one that none does takes the port down. -/
def Sys2Proof.Claims.headsAndPorts : Prop :=
  ∀ (s : State) (port pa : Nat),
    let up (x : State) : Bool := (x.dev.port port).up
    let head (x : State) : Bool :=
      let m := x.dev.modules.toList.getD (port / 2) Module.absent
      if port % 2 = 0 then m.headA else m.headB
    (∀ l, s.dev.lineAt pa = some l → residency l.pa = 2 → l.mode = 0 →
        exec (.biSnoop pa .invalidate) s = .next { s with dev := s.dev.flushLine l.pa }
        ∧ ∃ t : State, exec (.biSnoop pa .downgrade) s = .next t
            ∧ (t.dev.lines = (s.dev.cleanLine l.pa).lines.map fun x => if x.pa == l.pa then { x with excl := false } else x)
            ∧ ∀ c ∈ t.dev.dcache, c.pa ≠ l.pa)
    ∧ (s.dev.lineAt pa = none → ∀ k, exec (.biSnoop pa k) s = .next s)
    ∧ (port < 8 → up s = true → ∃ t : State, exec (.headLinkDown port) s = .next t ∧ up t = false ∧ head t = false
        ∧ (t.dev.port port).retraining = true)
    ∧ (port < 8 → up s = false → exec (.headLinkDown port) s = .next s)
    ∧ (port < 8 → ∃ t : State, exec (.headCompletionTimeout port) s = .next t ∧ head t = false ∧ t.dev.ports = s.dev.ports)
    ∧ (s.dev.state = .reset → exec (.headRecover port) s = .next s ∧ exec (.laneFailure port) s = .next s
        ∧ ∀ m, exec (.moduleUnreachable m) s = .next s)
    ∧ (s.dev.state ≠ .reset → port < 8 → (s.dev.port port).spares < 3 → ∃ t : State,
        exec (.headRecover port) s = .next t ∧ up t = true ∧ head t = true)
    ∧ (s.dev.state ≠ .reset → port < 12 → (s.dev.port port).spares < 3 → ∃ t : State, exec (.laneFailure port) s = .next t ∧ up t = false
        ∧ (t.dev.port port).spares = (s.dev.port port).spares + 1
        ∧ ((t.dev.port port).retraining = true ↔ (s.dev.port port).spares < 2)
        ∧ ((s.dev.port port).spares = 1 → (t.dev.port port).x4 = true) ∧ (port < 8 → head t = false))
    ∧ (port < 12 → 3 ≤ (s.dev.port port).spares → exec (.laneFailure port) s = .next s ∧ (port < 8 → exec (.headRecover port) s = .next s))
    ∧ (port < 12 → (s.dev.port port).retraining = true → ∃ t : State, exec (.portRetrainDone port) s = .next t ∧ up t = true
        ∧ (t.dev.port port).retraining = false ∧ (port < 8 → head t = true))
    ∧ (up s = true → exec (.ideFailure { port := port, recovered := true }) s = .next { s with dev := { s.dev with tel := { s.dev.tel with
          ideRetries := updAt s.dev.tel.ideRetries port fun c => satInc c 1 } } })
    ∧ (port < 12 → up s = true → ∃ t : State, exec (.ideFailure { port := port, recovered := false }) s = .next t ∧ up t = false
        ∧ (t.dev.port port).retraining = false ∧ (port < 8 → head t = false))
    ∧ (∀ m, m < 4 → let x (y : State) := y.dev.modules.toList.getD m Module.absent
        (s.dev.state ≠ .reset → (x s).headA = false → (x s).headB = false → (x s).unreachable = false → ∃ t : State,
            exec (.moduleUnreachable m) s = .next t ∧ (x t).unreachable = true
            ∧ ∀ l ∈ t.dev.lines, l ∈ s.dev.lines ∧ ¬(residency l.pa = 2 ∧ moduleOf l.pa = m ∧ l.mode = 0 ∧ l.dirty = true))
        ∧ ((x s).headA = true ∨ (x s).headB = true → exec (.moduleUnreachable m) s = .next s)
        ∧ ((x s).unreachable = true → ∃ t : State, exec (.moduleReenumeration m) s = .next t
            ∧ x t = { x s with unreachable := false, headA := (s.dev.port (2 * m)).up, headB := (s.dev.port (2 * m + 1)).up }))

/-- The units that move and fade pages, and walks that wait for them (06 R214; 10 R334, R337, R343, R346, R351). -/
def Obligations.MemoryUnits : Prop := migrations ∧ busyWalks ∧ memoryUnits

/-- The pool's extents, heads and ports (14 R432 to R447). -/
def Obligations.PoolAndPorts : Prop := extentsMove ∧ headsAndPorts

end

/-! ## Garetor -/

namespace Sys2Proof.Claims
open Sys2Proof Sys2Proof.Machine

/-- The sequenced packets with their TYPE codes (14 R449). -/
noncomputable def sequenced (p : GPacket) : List (Instr × BitVec 4) :=
  [(.write p, 0), (.read p, 1), (.data p, 2), (.atom p, 3), (.red p, 4), (.areq p, 7), (.arep p, 8)]

/-- A packet of this TYPE whose version is 1 and whose reserved bits are 0 (14 R450). -/
def wellFormed (type : BitVec 4) (p : GPacket) : Prop := p.type = type ∧ p.ver = 1 ∧ p.rsv = 0

/-- The device after what the header of a packet says: the plane it came on, and the acknowledgement it carries. -/
def heard (s : State) (p : GPacket) : State := (s.onDev fun d => d.heardOn p.src.toNat p.planeB).headerAck p

end Sys2Proof.Claims

section
open Sys2Proof Sys2Proof.Machine Sys2Proof.Claims

/-- A sequenced packet as it arrives (14 R450, R452, R453): one that breaks the format, or lies outside both windows, is
discarded and counted; the expected one is applied, with those behind it that follow in order; one ahead of it is kept while
the apply buffer has room, else it is told BUSY; one behind it is a duplicate; a packet being retried holds its lane;
in RESET no port carries a packet (15 R463). -/
def Sys2Proof.Claims.packetsArrive : Prop :=
  ∀ (s : State) (p : GPacket) (x : Instr × BitVec 4), x ∈ sequenced p →
    let s1 := heard s p
    let r := s1.dev.rxLane p.src.toNat p.lane.toNat
    let d := (p.seq - r.expect).toNat
    (s.dev.state = .reset → exec x.1 s = .next s)
    ∧ (s.dev.state ≠ .reset → ¬wellFormed x.2 p → exec x.1 s = .next { s with dev := s.dev.discard p.planeB })
    ∧ (s.dev.state ≠ .reset → wellFormed x.2 p →
      (d = 0 → r.retrying = none →
        exec x.1 s = .next ((s1.applyHead p).drainLane p.src.toNat p.lane.toNat (r.buffer.length + 1)))
      ∧ (d = 0 → r.retrying ≠ none → exec x.1 s = .next s1)
      ∧ (0 < d → d < 1024 → (∃ g ∈ r.buffer, g.seq = p.seq) → exec x.1 s = .next s1)
      ∧ (0 < d → d < 1024 → (∀ g ∈ r.buffer, g.seq ≠ p.seq) → 2 ^ 22 < s1.dev.applyBytes + 24 + p.payload.length →
          exec x.1 s = .next { s1 with dev := s1.dev.sendResult p 4 [] })
      ∧ (0 < d → d < 1024 → (∀ g ∈ r.buffer, g.seq ≠ p.seq) → s1.dev.applyBytes + 24 + p.payload.length ≤ 2 ^ 22 →
          exec x.1 s = .next { s1 with dev := s1.dev.updRx p.src.toNat p.lane.toNat fun y => { y with buffer := y.buffer ++ [p] } })
      ∧ (64512 ≤ d → exec x.1 s = .next { s1 with dev := s1.dev.duplicate p })
      ∧ (1024 ≤ d → d < 64512 → exec x.1 s = .next { s1 with dev := s1.dev.discard p.planeB }))

/-- What applying a packet does (14 R450, R452, R453, R454, R457, R458): an access that the source may not make is refused with
STATUS 2; a WRITE writes; a READ is answered with the bytes and their poison; an atomic of any operation and size of 04 R141 computes and
writes at its address, but not on a poisoned line, and is answered with the old value if it returns one; DATA and AREP resolve and
answer the request of their tag, and an AREQ is taken up, once all their parts are there (log entry 48); an atomic whose channel is being
switched stays at the head of its lane; any other is passed. The model's choices: RESULT POISON for an atomic that returns nothing (log
entry 38), and the STATUS of one that brings poison (48). -/
def Sys2Proof.Claims.packetsApply : Prop :=
  ∀ (s : State) (p : GPacket),
   (s.dev.unitBusy p = true → s.dev.refuses p = false → s.applyHead p = { s with
      dev := s.dev.updRx p.src.toNat p.lane.toNat fun x => { x with retrying := some p } })
   ∧ (s.dev.unitBusy p = false →
    let passes (t : State) : Prop := s.applyHead p = { t with dev := t.dev.passed p.src.toNat p.lane.toNat }
    (p.type = 0 ∨ p.type = 1 ∨ p.type = 3 ∨ p.type = 4 → s.dev.refuses p = true →
        passes { s with dev := (s.dev.keepResult p [] 2).sendResult p 2 [] })
    ∧ (p.type = 0 → s.dev.refuses p = false →
        passes ({ s with dev := s.dev.writeSpan [] 0 (p.status == 3) p.payload.length p.off.toNat p.payload }.reportKick p.off.toNat))
    ∧ (p.type = 1 → s.dev.refuses p = false →
        let rd := s.dev.readSpan [] 0 4 p.off.toNat p.rlen.toNat
        passes { s with dev := rd.1.reply p 2 (if rd.2.2 then 3 else 0) rd.2.1 })
    ∧ (∀ op : AtomOp, p.op = op.code → 2 ≤ p.size.toNat → (op = .fadd → p.size = 2) → s.dev.refuses p = false →
        let n := 2 ^ p.size.toNat
        let rd := s.readPhys p.off.toNat n 0
        let old : BitVec (8 * n) := BitVec.ofNat _ (leNat rd.2.1)
        let opnd : BitVec (8 * n) := BitVec.ofNat _ (leNat (p.payload.take n))
        let nw : BitVec (8 * n) := BitVec.ofNat _ (leNat (p.payload.drop n))
        let new := if op = .cas then nw else atomOf op old opnd nw
        let t := if rd.2.2 = true ∨ (op = .cas ∧ p.status ≠ 3 ∧ old ≠ opnd) then rd.1
          else rd.1.writePhys p.off.toNat (leBytes n new.toNat) 0 (p.status == 3 || p.status == 2) 0
        let st : BitVec 3 := if rd.2.2 then 3 else 0
        let bs := leBytes n (leNat rd.2.1)
        (p.type = 3 → p.ret = true → passes { t with dev := (t.dev.keepResult p bs st).sendResult p st bs })
        ∧ (p.type = 4 ∨ (p.type = 3 ∧ p.ret = false) →
            passes (if rd.2.2 then { t with dev := t.dev.sendResult p 3 [] } else t)))
    ∧ (p.type = 2 → passes (s.accept p p.payload))
    ∧ (p.type = 8 → passes (s.takePart p fun x bs => x.accept p bs))
    ∧ (p.type = 7 → passes (s.takePart p fun x bs => x.startServe p.src.toNat p.lane.toNat p.cls p.tag bs))
    ∧ (∀ bs g, (s.dev.askedAll p.src.toNat p.tag).filter (fun g =>
          (p.type == 2 && g.type == 1) || (p.type == 8 && g.type == 7)) = [g] →
        s.accept p bs = (({ s with dev := s.dev.resolve p.src.toNat g } : State).answer p.src.toNat p.tag bs p.status 0))
    ∧ (∀ t : Device, (s.dev.passed p.src.toNat p.lane.toNat = t → p.src.toNat < 16 → p.lane.toNat < 4 →
        (t.rxLane p.src.toNat p.lane.toNat).expect = (s.dev.rxLane p.src.toNat p.lane.toNat).expect + 1)))

/-- ACK, RESULT, and the destination's timers (14 R452, R454, R457): BUSY and HELD resolve nothing, nor, by the model's choice (log entry
38), do the reserved STATUS values 6 and 7; another RESULT resolves its request, with an error entry when it is refused; a kept packet is applied, reported HELD, or refused with STATUS 1. -/
def Sys2Proof.Claims.answersAndTimers : Prop :=
  ∀ (s : State) (p : GPacket) (src lane : Nat) (seq : BitVec 16),
    let up := s.dev.state ≠ .reset
    (¬up → exec (.ack p) s = .next s ∧ exec (.result p) s = .next s)
    ∧ (up → wellFormed 6 p → exec (.ack p) s = .next (heard s p))
    ∧ (up → ¬wellFormed 6 p → exec (.ack p) s = .next { s with dev := s.dev.discard p.planeB })
    ∧ (up → ¬wellFormed 5 p → exec (.result p) s = .next { s with dev := s.dev.discard p.planeB })
    ∧ (up → wellFormed 5 p → 4 ≤ p.status.toNat ∨ (heard s p).dev.asked p.src.toNat p.tag = none → exec (.result p) s = .next (heard s p))
    ∧ (∀ g, up → wellFormed 5 p → p.status.toNat < 4 → (heard s p).dev.asked p.src.toNat p.tag = some g → g.type ≠ 7 →
        exec (.result p) s = .next (({ heard s p with dev := (heard s p).dev.resolve p.src.toNat g }).answer p.src.toNat p.tag p.payload
          p.status (if p.status = 0 then 0 else if p.status = 3 then 3 else if g.type = 4 then 1
            else if g.type = 3 ∧ p.status = 1 then 2 else 3)))
    ∧ exec (.ackSend src lane) s
        = .next (if (s.dev.rxLane src lane).unacked = 0 then s else { s with dev := s.dev.sendAck src lane })
    ∧ (∀ t g, (s.dev.peer src).tx.toList[lane]? = some t → t.sent.find? (fun g => g.seq == seq) = some g →
        exec (.busyResend src lane seq) s = .next { s with dev := s.dev.emit src lane g })
    ∧ ((s.dev.rxLane src lane).retrying = none → exec (.applyRetry src lane true) s = .next s
        ∧ exec (.heldSend src lane) s = .next s ∧ exec (.applyRefuse src lane) s = .next s)
    ∧ exec (.applyRetry src lane false) s = .next s
    ∧ (∀ g, (s.dev.rxLane src lane).retrying = some g →
        exec (.heldSend src lane) s = .next { s with dev := s.dev.sendResult g 5 [] }
        ∧ (let t := (s.apply g).onDev fun d => d.passed src lane
           exec (.applyRetry src lane true) s = .next (t.drainLane src lane ((t.dev.rxLane src lane).buffer.length + 1)))
        ∧ (let t := (s.refuse g 1).onDev fun d => d.passed src lane
           exec (.applyRefuse src lane) s = .next (t.drainLane src lane ((t.dev.rxLane src lane).buffer.length + 1))))

/-- Planes, unreachable devices and the exchange of TIME (14 R455, R456, R459): what was last sent on a plane that fails goes
again on the other, as a replay; a plane comes back with both its ports; both planes lost make a device unreachable after
its time; the exchange of TIME is answered, sets TIME once and not on a device with a partition formed, and steers it from then on. The
model's choices: what that packet carries and the estimate (log entry 65), and that GARETOR_RESET keeps the planes' failures (38). -/
def Sys2Proof.Claims.planesAndTime : Prop :=
  ∀ (s : State) (dst : Nat) (plane : Bool) (p : GPacket), dst < 16 →
    let q (x : State) : Peer := x.dev.peer dst
    let sent (x : State) : List GPacket := (q x).tx.toList.flatMap (·.sent)
    ((∀ g ∈ sent s, g.planeB ≠ plane) → exec (.planeFailTimeout dst plane) s = .next s)
    ∧ ((∃ g ∈ sent s, g.planeB = plane) → (q s).failed plane = false → ∃ t : State,
        exec (.planeFailTimeout dst plane) s = .next t ∧ (q t).failed plane = true ∧ (q t).failed (!plane) = (q s).failed (!plane)
        ∧ ((q s).failed (!plane) = false → ∀ g ∈ sent t, g.planeB = !plane))
    ∧ (∃ t : State, exec (.planeLinkDown plane) s = .next t ∧ (q t).failed plane = true
        ∧ ∀ n, n ∈ (if plane then [10, 11] else [8, 9]) → (t.dev.port n).up = false)
    ∧ ((q s).failed plane = true → (∀ n ∈ (if plane then [10, 11] else [8, 9]), (s.dev.port n).up = true) → ∃ t : State,
        exec (.planeRestore dst plane) s = .next t ∧ (q t).failed plane = false ∧ (q t).failed (!plane) = (q s).failed (!plane))
    ∧ ((q s).failed plane = false → exec (.planeRestore dst plane) s = .next s)
    ∧ ((q s).failA = true → (q s).failB = true → (q s).unreachable = false →
        (∃ t : State, exec (.planeRetry dst) s = .next t ∧ (∀ g ∈ sent t, g.rpl = true) ∧ (q t).unreachable = false)
        ∧ (∃ t : State, exec (.peerUnreachable dst) s = .next t ∧ (q t).unreachable = true ∧ (s.dev.serves = [] → sent t = [])))
    ∧ ((q s).failA = false ∨ (q s).failB = false ∨ (q s).unreachable = true →
        exec (.planeRetry dst) s = .next s ∧ exec (.peerUnreachable dst) s = .next s)
    ∧ (s.dev.state = .ready → ∃ t : State, exec (.garetorReset dst) s = .next t
        ∧ q t = { Peer.fresh with failA := (q s).failA, failB := (q s).failB })
    ∧ (s.dev.state ≠ .ready → exec (.garetorReset dst) s = .next { s with dev := { s.dev with cfgerr := true } })
    ∧ (∃ t : State, exec .syncLoss s = .next t ∧ t.dev.syncloss = true ∧ t.ctx = s.ctx ∧ t.core = s.core)
    ∧ (s.dev.state ≠ .ready ∨ s.dev.follows = true → exec .timeExchange s = .next s)
    ∧ (s.dev.state = .ready → s.dev.follows = false → ∃ t : State, exec .timeExchange s = .next t
        ∧ t.dev.outbox.length = s.dev.outbox.length + 30 ∧ t.dev.time = s.dev.time ∧ t.ctx = s.ctx)
    ∧ (s.dev.state ≠ .reset → wellFormed 9 p → p.len ≠ 8 → exec (.time p) s = .next (heard s p))
    ∧ (s.dev.state ≠ .reset → wellFormed 9 p → p.av = false → p.len = 8 →
        let x := BitVec.ofNat 64 (leNat (p.payload.take 8))
        let once := s.dev.timeSet = false ∧ (s.dev.state = .boot ∨ (s.dev.state = .ready ∧ s.dev.formed = false))
        ∃ t : State, exec (.time p) s = .next t ∧ t.dev.syncloss = false ∧ (p.src < s.dev.num → t.dev.follows = true)
          ∧ t.dev.outbox = s.dev.outbox ++ [s.dev.timePacket p.src.toNat p.planeB (p.payload.take 8 ++ leBytes 8 s.dev.time.toNat)]
          ∧ (once → t.dev.time = x ∧ t.dev.timeSet = true)
          ∧ (¬once → t.dev.time = s.dev.time ∧ t.dev.timeSet = s.dev.timeSet
              ∧ t.dev.steer = (x.toNat : Int) - s.dev.time.toNat))

/-- The Garetor links (14 R448 to R459). -/
def Obligations.GaretorLinks : Prop := packetsArrive ∧ packetsApply ∧ answersAndTimers ∧ planesAndTime

end

/-! ## Errors, row sparing, the host's windows -/

section
open Sys2Proof Sys2Proof.Machine Sys2Proof.Claims

/-- UNCORRECTABLE_ERROR (13 R406, R407): what the table of error origins gives for the place of the error, and the row of an
SRAM is copied to a spare; the second corrected error in a row has it copied, or logged where it is of HBM (13 R425; 15 R469);
CONTROL_STATE_ERROR (13 R408) kills the core's tasks and marks the core for retirement; a worker abandons its prologue at either,
for another to run it again (13 R429); ROW_SPARE_START and ROW_SPARE_SWITCH copy a row to a spare and switch it over, with four
spares to a scratchpad bank and eight to a vault bank (13 R425, R426); a poisoned line of HBM is logged and reported as the step
settles (13 R407). A byte of the scratchpad lies in the bank and row of 10 R324; the rows of HBM and vaults are free functions of
Config (log entry 71). That CONTROL_STATE_ERROR gives INFO and TADDR 0, and that the first corrected error of a row is remembered, is the
model's choice (log entry 43), as are the arguments of the event (log entry 49). -/
def Sys2Proof.Claims.errorsAndSpares : Prop :=
  ∀ (s : State) (n row : Nat),
    let used (b : Nat) : Nat := (s.core.sparesUsed.filter fun y => y.1 == b).length + (s.core.copying.filter fun y => y.bank == b).length
    (0 < n → n < 32 → s.here < 640 → ∃ t : State, exec (.uncorrectableError (.scalarRegister n)) s = .next t ∧ t.ctx.regs = s.ctx.regs
        ∧ (∀ k, k < 32 → t.ctx.pois.getLsbD k = if k = n then true else s.ctx.pois.getLsbD k) ∧ t.core = s.core ∧ t.dev = s.dev)
    ∧ (s.here < 640 → exec (.uncorrectableError (.scalarRegister 0)) s = .next s)
    ∧ (∀ j, 640 ≤ s.here → s.ctx.job = some j → j.prologue = true →
        ∀ i ∈ [Instr.uncorrectableError (.scalarRegister n), .controlStateError], ∃ t : State, exec i s = .next t
          ∧ t.ctx = Ctx.vacant ∧ .own s.here .dispatch ∈ t.turns ∧ t.core = s.core
          ∧ t.dev = { s.dev with sluice := s.dev.sluice.updLaunch j.launch fun l =>
              { l with phase := .heap, shun := some ((s.here - 640) / 4) } })
    ∧ (n < 32 → let v (x : State) (k : Nat) : VReg := x.core.vregs.toList.getD k VReg.gated
        (v s n).power ≠ .gated → ∃ t : State, exec (.uncorrectableError (.vectorRegister n)) s = .next t
          ∧ v t n = { v s n with tag := 0xE } ∧ (∀ k, k ≠ n → v t k = v s k) ∧ t.ctx = s.ctx ∧ t.dev = s.dev)
    ∧ (n < 2 ^ 20 → ∃ t : State, exec (.uncorrectableError (.scratchpad n)) s = .next t
        ∧ (∀ a, a ∈ t.core.ue ↔ a = n ∨ a ∈ s.core.ue) ∧ t.core.spad = s.core.spad ∧ t.core.tiles = s.core.tiles ∧ t.ctx = s.ctx
        ∧ (let x : Sparing := { bank := 16 * (n / 2 ^ 17) + n / 16 % 16, row := n / 2 ^ 8 % 2 ^ 9, vault := false }
           used x.bank < 4 → x ∈ t.core.copying))
    ∧ exec (.uncorrectableError (.scalarCacheLine n)) s = .next { s with dev := { s.dev with
        dcache := s.dev.dcache.filter fun c => c.core != s.here / 4 || c.pa != lineOf n } }
    ∧ (∀ l, s.dev.lineAt n = some l →
        let x := s.spareVaultRow l.pa
        exec (.uncorrectableError (.blockLine n)) s = .next { x with
          dev := if l.dirty then (x.dev.markLine l.pa).cleanLine l.pa else x.dev.dropLine l.pa })
    ∧ (∀ f, s.dev.lagoon.find? (fun f => f.idx == n) = some f → f.dirty = false → ∃ t : State,
        exec (.uncorrectableError (.lagoonSector n)) s = .next t ∧ (∀ g, g ∈ t.dev.lagoon ↔ g ∈ s.dev.lagoon ∧ g.idx ≠ n)
        ∧ t.dev.mem = s.dev.mem ∧ t.ctx = s.ctx)
    ∧ (∀ f, s.dev.lagoon.find? (fun f => f.idx == n) = some f → f.dirty = true →
        exec (.uncorrectableError (.lagoonSector n)) s = .next { s with
          dev := ((List.range 16).foldl (fun x k => x.setPoison (s.dev.lagoonBase + 2048 * f.idx + 128 * k) true) s.dev).cleanFrame f.idx })
    ∧ (n < 2 ^ 39 → ∃ t : State, exec (.uncorrectableError (.hbmLine n)) s = .next t ∧ lineOf n ∈ t.dev.poison
        ∧ (lineOf n ∉ s.dev.poison → t.dev.unlogged = s.dev.unlogged ++ [lineOf n]) ∧ t.ctx = s.ctx ∧ t.core = s.core)
    ∧ (s.dev.lost = [] → s.dev.unlogged = [n] → s.reportLines
        = { s with dev := ({ s.dev with unlogged := [] }.logHbm n).event 3 s.dev.num.toNat n })
    ∧ (s.dev.bizil.repairLog.length < 256 → n ∈ (s.dev.logHbm n).bizil.repairLog)
    ∧ (let again (r : RowPlace) (t : State) : Prop := exec (.uncorrectableError (.corrected r)) s = .next t
       ((n, row) ∉ s.core.corrected →
          again (.scratchpad n row) { s with core := { s.core with corrected := (n, row) :: s.core.corrected } })
       ∧ ((n, row) ∈ s.core.corrected → again (.scratchpad n row) (s.spareRow n row false))
       ∧ ((n, row) ∉ s.clu.vaultCorrected →
          again (.vault n row) { s with clu := { s.clu with vaultCorrected := (n, row) :: s.clu.vaultCorrected } })
       ∧ ((n, row) ∈ s.clu.vaultCorrected → again (.vault n row) (s.spareRow n row true))
       ∧ (residency n = 0 → Config.hbmRow (lineOf n) ∉ s.dev.hbmCorrected → again (.hbm n)
          { s with dev := { s.dev with hbmCorrected := Config.hbmRow (lineOf n) :: s.dev.hbmCorrected } })
       ∧ (residency n = 0 → Config.hbmRow (lineOf n) ∈ s.dev.hbmCorrected → again (.hbm n) { s with dev := s.dev.logHbm (lineOf n) }))
    ∧ (residency n = 2 → exec (.uncorrectableError (.poolLine n)) s = .next { s with dev := s.dev.setPoison (lineOf n) true })
    ∧ (s.here < 640 → ∃ t : State, exec .controlStateError s = .next t ∧ t.core.retire = true ∧ t.here = s.here ∧ t.dev = s.dev
        ∧ (s.here < s.ctxs.length → s.ctx.status ≠ .free → s.ctx.ending = none → t.ctx.ending = some (.killed 0x08 0 0 0)))
    ∧ (let x : Sparing := { bank := n, row := row, vault := false }
       ((s.core.sparesUsed.filter fun y => y.1 == n).length + (s.core.copying.filter fun y => y.bank == n).length < 4 →
          x ∉ s.core.copying →
          exec (.rowSpareStart n row false) s = .next { s with core := { s.core with copying := x :: s.core.copying } })
       ∧ (4 ≤ (s.core.sparesUsed.filter fun y => y.1 == n).length → exec (.rowSpareStart n row false) s = .next s)
       ∧ (x ∈ s.core.copying → exec (.rowSpareSwitch n row false) s = .next { s with core := { s.core with
            copying := s.core.copying.erase x, sparesUsed := (n, row) :: s.core.sparesUsed,
            corrected := s.core.corrected.erase (n, row) } })
       ∧ (x ∉ s.core.copying → exec (.rowSpareSwitch n row false) s = .next s))
    ∧ (let x : Sparing := { bank := n, row := row, vault := true }
       ((s.clu.vaultSpares.filter fun y => y.1 == n).length + (s.clu.vaultCopying.filter fun y => y.bank == n).length < 8 →
          x ∉ s.clu.vaultCopying →
          exec (.rowSpareStart n row true) s = .next { s with clu := { s.clu with vaultCopying := x :: s.clu.vaultCopying } })
       ∧ (x ∈ s.clu.vaultCopying → exec (.rowSpareSwitch n row true) s = .next { s with clu := { s.clu with
            vaultCopying := s.clu.vaultCopying.erase x, vaultSpares := (n, row) :: s.clu.vaultSpares,
            vaultCorrected := s.clu.vaultCorrected.erase (n, row) } }))

/-- CONFIG_WRITE, PARTITION_FORM and PARTITION_DISSOLVE (15 R461, R465): outside READY only DEVCTL and the mailbox take a
write, and any other sets DEVSTAT.CFGERR; DEVSTAT bit 16 clears CFGERR; the queue table and its like are written only while no
partition is formed; PFORM forms and dissolves; a dissolve is refused while a queue of a formed partition is not DISABLED. That these
registers keep every bit of a write is the model's choice (log entry 64). -/
def Sys2Proof.Claims.configurationWindow : Prop :=
  ∀ (s : State) (off : Nat) (v : BitVec 64),
    let refused : State := { s with dev := { s.dev with cfgerr := true } }
    (s.dev.state ≠ .ready → off ≠ 8 → ¬(0x3000 ≤ off ∧ off < 0x4000) → exec (.configWrite off v) s = .next refused)
    ∧ exec (.configWrite 8 2) s = .next (s.startReset .maint) ∧ exec (.configWrite 8 1) s = .next (s.startReset .warm)
    ∧ exec (.configWrite 8 0) s = .next s
    ∧ (s.dev.state ≠ .ready → exec .partitionForm s = .next refused ∧ exec .partitionDissolve s = .next refused)
    ∧ (s.dev.state = .ready →
      exec (.configWrite 0 v) s = .next { s with dev := { s.dev with cfgerr := s.dev.cfgerr && !v.getLsbD 16 } }
      ∧ exec .partitionForm s = .next s.form ∧ exec .partitionDissolve s = .next s.dissolve
      ∧ exec (.configWrite 0x280 1) s = .next s.form ∧ exec (.configWrite 0x280 2) s = .next s.dissolve
      ∧ (s.dev.formed = true → ∀ o ∈ [0x10, 0x18, 0x20, 0x28, 0x30, 0x40, 0x48, 0x200, 0x248],
          exec (.configWrite o v) s = .next refused)
      ∧ (s.dev.formed = false → ∀ o ∈ [0x10, 0x18, 0x20, 0x28, 0x30, 0x40, 0x48, 0x200, 0x248], ∃ t : State,
          exec (.configWrite o v) s = .next t ∧ t.dev.configRead o = v ∧ (s.dev.bootEvents = [] → t.dev.mem = s.dev.mem) ∧ t.ctx = s.ctx
          ∧ ∀ o', o' ≠ o → t.dev.configRead o' = s.dev.configRead o')
      ∧ (∀ k, k < 256 → ∃ t : State, exec (.configWrite (0x1000 + 8 * k) v) s = .next t
          ∧ t.dev.configRead (0x1000 + 8 * k) = (if k % 4 = 0 then v &&& 0x000FFFFFFE000007
              else if k % 4 = 1 then v &&& 0xFFFFFFFF else if k % 4 = 2 then v &&& 0x000FFFFFFFFFFFF8
              else s.dev.configRead (0x1000 + 8 * k)))
      ∧ (s.dev.formed = true → s.form = s)
      ∧ ((∃ x ∈ s.dev.sluice.queues, x.state ≠ .disabled ∧ s.partFormed (s.queueDesc x.q).part = true) → s.dissolve = refused)
      ∧ ((∀ x ∈ s.dev.sluice.queues, x.state = .disabled ∨ s.partFormed (s.queueDesc x.q).part = false) →
          s.dissolve.dev.formed = false ∧ ((∀ l ∈ s.dev.lines, s.dev.noHead l.pa = false) → s.dissolve.dev.lines = []) ∧ s.dissolve.dev.lagoon = [] ∧ s.dissolve.clu.part = none
          ∧ ∀ c ∈ s.dissolve.clus, c.part = none))

/-- HOST_BAR_ACCESS, TELEMETRY_WRITE and ATTEST (15 R460, R465, R467, R472): a write below the lagoon stores its bytes, and what
BAR 2, the lagoon and a device that is not READY read is zero; BAR 0 reads a register, and zero at an offset that is none's; the
counters go to the host's memory at TELBASE, at offsets that are the model's choice (log entry 49); a report of 400 bytes starts with the
nonce, and a retired device gives none. -/
def Sys2Proof.Claims.hostServices : Prop :=
  ∀ (s : State) (addr : Nat) (bs : List Byte) (nonce : List Byte),
    exec (.hostBarAccess false addr bs) s = .next s
    ∧ (s.dev.state ≠ .ready ∨ s.dev.lagoonBase ≤ addr ∨ bs = [] → exec (.hostBarAccess true addr bs) s = .next s)
    ∧ (s.dev.state = .ready → addr + bs.length ≤ s.dev.lagoonBase → bs ≠ [] → s.dev.mem.wf = true → ∃ t : State,
        exec (.hostBarAccess true addr bs) s = .next t ∧ t.dev.mem.readBytes addr bs.length = bs
        ∧ (∀ a, a < addr ∨ addr + bs.length ≤ a → t.dev.mem.read a = s.dev.mem.read a) ∧ t.ctx = s.ctx ∧ t.core = s.core)
    ∧ (∀ n, s.dev.hostRead 2 addr n = List.replicate n 0)
    ∧ (∀ n, n ≤ 8 → s.dev.hostRead 0 addr n = if addr % 8 = 0 then (leBytes 8 (s.dev.configRead addr).toNat).take n else List.replicate n 0)
    ∧ (∀ n, s.dev.hostRead 4 addr n = (List.range n).map fun i => if s.dev.state ≠ .ready ∨ 2 ^ 39 ≤ addr + i
        ∨ s.dev.lagoonBase ≤ addr + i then 0 else s.dev.mem.read (addr + i))
    ∧ (s.dev.state ≠ .ready → s.dev.state ≠ .outOfService → exec .telemetryWrite s = .next s)
    ∧ (s.dev.state = .ready ∨ s.dev.state = .outOfService → s.dev.mem.wf = true → ∃ t : State, exec .telemetryWrite s = .next t
        ∧ t.dev.mem.readLE (3 * 2 ^ 50 + s.dev.cfg.telbase.toNat % 2 ^ 50) 8 = s.dev.tel.migDropped.toNat
        ∧ t.dev.mem.readLE (3 * 2 ^ 50 + s.dev.cfg.telbase.toNat % 2 ^ 50 + 48) 8 = s.dev.tel.lostEvents.toNat
        ∧ t.ctx = s.ctx ∧ t.core = s.core ∧ t.dev.tel = s.dev.tel)
    ∧ (s.dev.bizil.life = .retired ∨ s.dev.bizil.secret = false → exec (.attest nonce) s = .next s)
    ∧ (s.dev.bizil.life ≠ .retired → s.dev.bizil.secret = true → nonce.length = 48 → ∃ t : State, exec (.attest nonce) s = .next t
        ∧ (∃ r, t.dev.bizil.report = some r ∧ r.length = 400 ∧ r.take 48 = nonce
            ∧ r.getD 248 0 = BitVec.ofNat 8 s.dev.bizil.life.code)
        ∧ t.dev.mem = s.dev.mem ∧ t.ctx = s.ctx ∧ t.core = s.core)

/-- Errors and spares, and what the host reaches (13 R406 to R408, R425, R426; 15 R460 to R467, R472). -/
def Obligations.ErrorsAndHostWindows : Prop := errorsAndSpares ∧ configurationWindow ∧ hostServices

end

/-! ## Reset, boot, life-cycle, power -/

section
open Sys2Proof Sys2Proof.Machine Sys2Proof.Claims

/-- COLD_RESET, WARM_RESET_REQUEST and MAINT_RESET_REQUEST (15 R463, R464): every context is FREE with its state at reset, no
queue or launch is left, TIME, CYCLE and the configuration window start anew and the device is in RESET; what Bizil keeps, and
memory up to the wipe, stays; a cold reset also forgets which rows and cores were given up. What is gone and what stays where R463 and
R464 name neither (TIME, telemetry, peers, the rows spared) is the model's choice (log entry 39). -/
def Sys2Proof.Claims.resetsBegin : Prop :=
  ∀ (s : State) (i : Instr) (k : ResetKind),
    (i, k) ∈ [(Instr.coldReset, ResetKind.cold), (.warmResetRequest, .warm), (.maintResetRequest, .maint)] →
    ∃ t : State, exec i s = .next t ∧ t.here = 0 ∧ t.ctx = Ctx.vacant ∧ (∀ c ∈ t.ctxs, c = Ctx.vacant)
      ∧ t.ctxs.length = s.ctxs.length ∧ t.dev.state = .reset ∧ t.dev.resetKind = k ∧ t.dev.sluice = Sluice.empty
      ∧ t.dev.time = 0 ∧ t.dev.cycle = 0 ∧ t.dev.cfg = Cfg.blank ∧ t.dev.formed = false ∧ t.dev.powered = true
      ∧ t.dev.lines = [] ∧ t.dev.lagoon = [] ∧ t.dev.peers = Vector.replicate 16 Peer.fresh ∧ t.dev.tel = Telemetry.zero
      ∧ t.dev.mem = s.dev.mem ∧ t.dev.poison = s.dev.poison ∧ t.dev.num = s.dev.num
      ∧ t.dev.bizil = { s.dev.bizil with report := none, loaded := [], hostImage := none }
      ∧ t.core.spad = [] ∧ (∀ n, n < 32 → t.core.sems.toList.getD n 1 = 0) ∧ t.clu.part = none ∧ t.clu.tlb = []
      ∧ (∀ c ∈ t.cores, c.spad = [] ∧ c.tiles = Vector.replicate 256 Tile.invalid ∧ c.vregs = Vector.replicate 32 VReg.gated)
      ∧ (k = .cold → ∀ c ∈ t.cores, c.sparesUsed = [] ∧ c.retire = false)
      ∧ ∀ x ∈ t.turns, x ∈ s.turns ∧ x.isInput = true

/-- The phases of a reset (15 R463, R464, R466, R468): RESET_PHASE_END begins BOOT, with a life-cycle change taken; a boot
whose stages are all in order goes on to WIPE, and one that is not to RECOVERY with its BOOTERR; a retired device stays in
RECOVERY, its memory wiped; a stage is in order when the digest in its header is that of its image, the signature verifies under a
verifying key, and its version is not below the minimum; WIPE_COMPLETE zeroes HBM and the vaults and is READY; RECOVERY_IMAGE boots from the host's image. -/
def Sys2Proof.Claims.phasesOfAReset : Prop :=
  ∀ (s : State) (rep : BootReport) (img : List StageImage),
    let b := s.dev.bizil
    (s.dev.state = .reset → ∃ t : State, exec .resetPhaseEnd s = .next t ∧ t.dev.state = .boot ∧ t.dev.time = 0
        ∧ t.dev.bizil = { b with life := b.pendingLife.getD b.life, pendingLife := none } ∧ t.ctx = s.ctx)
    ∧ (s.dev.state ≠ .reset → exec .resetPhaseEnd s = .next s)
    ∧ (s.dev.state ≠ .boot → exec (.bootComplete rep) s = .next s)
    ∧ (s.dev.state = .boot → b.life = .retired → exec (.bootComplete rep) s = .next { s with dev := { s.dev.wipe with state := .recovery } })
    ∧ (s.dev.state = .boot → b.life ≠ .retired → b.hostImage = none →
        let e : BitVec 8 := if rep.flashOk then (if b.stagesError rep.stages ≠ 0 then b.stagesError rep.stages
          else if rep.hbmOk then 0 else 4) else 5
        (e ≠ 0 → ∃ t : State, exec (.bootComplete rep) s = .next t ∧ t.dev.state = .recovery ∧ t.dev.booterr = e ∧ t.dev.mem = s.dev.mem)
        ∧ (e = 0 → ∃ t : State, exec (.bootComplete rep) s = .next t ∧ t.dev.state = .wipe ∧ t.dev.booterr = 0
            ∧ t.dev.num = rep.num ∧ t.dev.bizil.loaded = rep.stages.take 4
            ∧ (∀ n, n < 16 → t.dev.accessMap.toList.getD n 0 = rep.accessMap.getD n 0)
            ∧ (∀ n, n < 12 → (t.dev.port n).up = rep.portsUp.contains n ∧ (t.dev.port n).x4 = rep.portsX4.contains n
                ∧ (t.dev.port n).spares = if rep.portsX4.contains n then 2 else if rep.portsSpare.contains n then 1 else 0)))
    ∧ (∀ a b' c d : StageImage, (b.stagesError [a, b', c, d] = 0 ↔
        ∀ x ∈ [a, b', c, d].zip b.minimum.toList, Config.sha384 x.1.image = x.1.digest
          ∧ b.verifies x.1.signed (x.1.digest ++ leBytes 2 x.1.version.toNat) = true ∧ x.2 ≤ x.1.version))
    ∧ (s.dev.state = .wipe → ∃ t : State, exec .wipeComplete s = .next t ∧ t.dev.state = .ready ∧ t.dev.formed = s.dev.formed
        ∧ (s.dev.mem.wf = true → ∀ a, t.dev.mem.read a = if residency a ≤ 1 then 0 else s.dev.mem.read a)
        ∧ (∀ l, l ∈ t.dev.poison ↔ l ∈ s.dev.poison ∧ ¬residency l ≤ 1) ∧ t.dev.lagoon = [])
    ∧ (s.dev.state ≠ .wipe → exec .wipeComplete s = .next s)
    ∧ (s.dev.state = .recovery → b.life ≠ .retired → exec (.recoveryImage img) s
        = .next { s with dev := { s.dev with state := .boot, bizil := { b with hostImage := some img } } })
    ∧ (s.dev.state ≠ .recovery → exec (.recoveryImage img) s = .next s)

/-- Life-cycle changes (15 R468) and security minima (15 R466): each is made only from its state and by its key; a change takes
effect through a warm reset, and until it has no other is made; the test interfaces are fused off as the part is deployed, and the device secret is destroyed as it
is retired; a minimum is never lowered. Power off, and what 108 and 115 degrees do (15 R470). What a signature covers is the
model's choice (log entry 71). -/
def Sys2Proof.Claims.lifeCycle : Prop :=
  ∀ (s : State) (k : Signed) (dg m : List Byte) (n : Nat) (v : BitVec 16),
    let b := s.dev.bizil
    let celsius := s.dev.celsius
    let l := b.life
    let changes (i : Instr) (l' : Life) (o : Option (List Byte)) : Prop := ∃ t : State, exec i s = .next t
      ∧ t.dev.bizil.pendingLife = some l' ∧ t.dev.bizil.ownerDigest = o ∧ t.dev.bizil.life = l ∧ t.dev.state = .reset
      ∧ t.dev.resetKind = .warm ∧ (l' = .deployed → t.dev.bizil.testFused = true) ∧ (l' = .retired → t.dev.bizil.secret = false)
      ∧ (l' ≠ .retired → t.dev.bizil.secret = b.secret)
    let idle := b.pendingLife = none
    (b.byMofort k m = true ↔ Config.sha384 k.key = b.mofortDigest ∧ Config.ecdsaVerify k.key (Config.sha384 m) k.sig = true)
    ∧ (b.byOwner k m = true ↔ l = .owned ∧ b.ownerDigest = some (Config.sha384 k.key)
        ∧ Config.ecdsaVerify k.key (Config.sha384 m) k.sig = true)
    ∧ (b.verifies k m = true ↔ b.byMofort k m = true ∨ b.byOwner k m = true)
    ∧ (b.pendingLife ≠ none → ∀ i ∈ [Instr.deploy k, .takeOwnership k dg, .releaseOwnership k, .retire k], exec i s = .next s)
    ∧ (idle → l = .manufacture → b.byMofort k [1] = true → changes (.deploy k) .deployed none)
    ∧ (l ≠ .manufacture ∨ b.byMofort k [1] = false → exec (.deploy k) s = .next s)
    ∧ (idle → l = .deployed → b.byMofort k (2 :: dg) = true → changes (.takeOwnership k dg) .owned (some dg))
    ∧ (l ≠ .deployed ∨ b.byMofort k (2 :: dg) = false → exec (.takeOwnership k dg) s = .next s)
    ∧ (idle → l = .owned → b.byOwner k [3] = true → changes (.releaseOwnership k) .deployed none)
    ∧ (l ≠ .owned ∨ b.byOwner k [3] = false → exec (.releaseOwnership k) s = .next s)
    ∧ (idle → (l = .deployed ∨ l = .owned) → b.verifies k [4] = true → changes (.retire k) .retired b.ownerDigest)
    ∧ (l = .manufacture ∨ l = .retired ∨ b.verifies k [4] = false → exec (.retire k) s = .next s)
    ∧ (let cmd : List Byte := 5 :: (leBytes 1 n ++ leBytes 2 v.toNat)
       (l ≠ .retired → b.verifies k cmd = true → n < 4 → ∃ t : State,
        exec (.raiseSecurityMinimum k n v) s = .next t
        ∧ (∀ x, x < 4 → (t.dev.bizil.minimum.toList.getD x 0).toNat = if x = n
            then max (b.minimum.toList.getD n 0).toNat v.toNat else (b.minimum.toList.getD x 0).toNat)
        ∧ t.dev.mem = s.dev.mem ∧ t.ctx = s.ctx)
       ∧ (l = .retired ∨ b.verifies k cmd = false → exec (.raiseSecurityMinimum k n v) s = .next s))
    ∧ (∃ t : State, exec .powerOff s = .next t ∧ t.dev.powered = false ∧ (∀ x ∈ t.turns, x.isInput = true) ∧ t.ctx = s.ctx)
    ∧ (celsius < 108 → exec .outOfServiceTemperature s = .next s)
    ∧ (108 ≤ celsius → ∃ t : State, exec .outOfServiceTemperature s = .next t ∧ t.dev.state = .outOfService
        ∧ t.dev.sluice.outOfService = true ∧ t.ctx = s.ctx ∧ t.core = s.core
        ∧ (115 ≤ celsius → t.dev.powered = false) ∧ (celsius < 115 → t.dev.powered = s.dev.powered))

/-- Resets, boot, life-cycle and power (15 R463 to R470). -/
def Obligations.ResetBootAndLifeCycle : Prop := resetsBegin ∧ phasesOfAReset ∧ lifeCycle

end
end

