-- ==== Sys2Proof/Laws/Device.lean ====
section
/-!
SUPPORT. What the updates of the device, and of what a core and a context keep of their turns, do to each field, one lemma per
field; and what a cached access, a read of a peer by the sluice, the note of an issue and the return of lanes can do, said once.
-/
namespace Sys2Proof.Machine

/-! ## State.onDev -/
@[simp] theorem State.onDev_here (s : State) (f : Device → Device) : (s.onDev f).here = s.here := rfl
@[simp] theorem State.onDev_ctx (s : State) (f : Device → Device) : (s.onDev f).ctx = s.ctx := rfl
@[simp] theorem State.onDev_core (s : State) (f : Device → Device) : (s.onDev f).core = s.core := rfl
@[simp] theorem State.onDev_clu (s : State) (f : Device → Device) : (s.onDev f).clu = s.clu := rfl
@[simp] theorem State.onDev_ctxs (s : State) (f : Device → Device) : (s.onDev f).ctxs = s.ctxs := rfl
@[simp] theorem State.onDev_cores (s : State) (f : Device → Device) : (s.onDev f).cores = s.cores := rfl
@[simp] theorem State.onDev_clus (s : State) (f : Device → Device) : (s.onDev f).clus = s.clus := rfl
@[simp] theorem State.onDev_turns (s : State) (f : Device → Device) : (s.onDev f).turns = s.turns := rfl
@[simp] theorem State.onDev_ir (s : State) (f : Device → Device) : (s.onDev f).ir = s.ir := rfl
@[simp] theorem State.onDev_tick (s : State) (f : Device → Device) : (s.onDev f).tick = s.tick := rfl
@[simp] theorem State.onDev_dev (s : State) (f : Device → Device) : (s.onDev f).dev = f s.dev := rfl

/-! ## State.sluice -/
@[simp] theorem State.sluice_here (s : State) (f : Sluice → Sluice) : (s.sluice f).here = s.here := rfl
@[simp] theorem State.sluice_ctx (s : State) (f : Sluice → Sluice) : (s.sluice f).ctx = s.ctx := rfl
@[simp] theorem State.sluice_core (s : State) (f : Sluice → Sluice) : (s.sluice f).core = s.core := rfl
@[simp] theorem State.sluice_clu (s : State) (f : Sluice → Sluice) : (s.sluice f).clu = s.clu := rfl
@[simp] theorem State.sluice_ctxs (s : State) (f : Sluice → Sluice) : (s.sluice f).ctxs = s.ctxs := rfl
@[simp] theorem State.sluice_cores (s : State) (f : Sluice → Sluice) : (s.sluice f).cores = s.cores := rfl
@[simp] theorem State.sluice_clus (s : State) (f : Sluice → Sluice) : (s.sluice f).clus = s.clus := rfl
@[simp] theorem State.sluice_turns (s : State) (f : Sluice → Sluice) : (s.sluice f).turns = s.turns := rfl
@[simp] theorem State.sluice_ir (s : State) (f : Sluice → Sluice) : (s.sluice f).ir = s.ir := rfl
@[simp] theorem State.sluice_tick (s : State) (f : Sluice → Sluice) : (s.sluice f).tick = s.tick := rfl
@[simp] theorem State.sluice_dev (s : State) (f : Sluice → Sluice) :
    (s.sluice f).dev = { s.dev with sluice := f s.dev.sluice } := rfl

/-! ## State.migrate -/
@[simp] theorem State.migrate_here (s : State) (f : Migration → Migration) : (s.migrate f).here = s.here := rfl
@[simp] theorem State.migrate_ctx (s : State) (f : Migration → Migration) : (s.migrate f).ctx = s.ctx := rfl
@[simp] theorem State.migrate_core (s : State) (f : Migration → Migration) : (s.migrate f).core = s.core := rfl
@[simp] theorem State.migrate_clu (s : State) (f : Migration → Migration) : (s.migrate f).clu = s.clu := rfl
@[simp] theorem State.migrate_ctxs (s : State) (f : Migration → Migration) : (s.migrate f).ctxs = s.ctxs := rfl
@[simp] theorem State.migrate_cores (s : State) (f : Migration → Migration) : (s.migrate f).cores = s.cores := rfl
@[simp] theorem State.migrate_clus (s : State) (f : Migration → Migration) : (s.migrate f).clus = s.clus := rfl
@[simp] theorem State.migrate_turns (s : State) (f : Migration → Migration) : (s.migrate f).turns = s.turns := rfl
@[simp] theorem State.migrate_ir (s : State) (f : Migration → Migration) : (s.migrate f).ir = s.ir := rfl
@[simp] theorem State.migrate_tick (s : State) (f : Migration → Migration) : (s.migrate f).tick = s.tick := rfl
@[simp] theorem State.migrate_dev (s : State) (f : Migration → Migration) :
    (s.migrate f).dev = { s.dev with mig := f s.dev.mig } := rfl

/-! ## State.nextPost -/
@[simp] theorem State.nextPost_here (s : State) : s.nextPost.here = s.here := rfl
@[simp] theorem State.nextPost_core (s : State) : s.nextPost.core = s.core := rfl
@[simp] theorem State.nextPost_clu (s : State) : s.nextPost.clu = s.clu := rfl
@[simp] theorem State.nextPost_ctxs (s : State) : s.nextPost.ctxs = s.ctxs := rfl
@[simp] theorem State.nextPost_cores (s : State) : s.nextPost.cores = s.cores := rfl
@[simp] theorem State.nextPost_clus (s : State) : s.nextPost.clus = s.clus := rfl
@[simp] theorem State.nextPost_turns (s : State) : s.nextPost.turns = s.turns := rfl
@[simp] theorem State.nextPost_ir (s : State) : s.nextPost.ir = s.ir := rfl
@[simp] theorem State.nextPost_tick (s : State) : s.nextPost.tick = s.tick := rfl
@[simp] theorem State.nextPost_dev (s : State) : s.nextPost.dev = s.dev := rfl
@[simp] theorem State.nextPost_ctx_status (s : State) : s.nextPost.ctx.status = s.ctx.status := rfl
@[simp] theorem State.nextPost_ctx_pc (s : State) : s.nextPost.ctx.pc = s.ctx.pc := rfl
@[simp] theorem State.nextPost_ctx_regs (s : State) : s.nextPost.ctx.regs = s.ctx.regs := rfl
@[simp] theorem State.nextPost_ctx_pois (s : State) : s.nextPost.ctx.pois = s.ctx.pois := rfl
@[simp] theorem State.nextPost_ctx_masks (s : State) : s.nextPost.ctx.masks = s.ctx.masks := rfl
@[simp] theorem State.nextPost_ctx_sg (s : State) : s.nextPost.ctx.sg = s.ctx.sg := rfl
@[simp] theorem State.nextPost_ctx_ctl (s : State) : s.nextPost.ctx.ctl = s.ctx.ctl := rfl
@[simp] theorem State.nextPost_ctx_loop (s : State) : s.nextPost.ctx.loop = s.ctx.loop := rfl
@[simp] theorem State.nextPost_ctx_ri (s : State) : s.nextPost.ctx.ri = s.ctx.ri := rfl
@[simp] theorem State.nextPost_ctx_ro (s : State) : s.nextPost.ctx.ro = s.ctx.ro := rfl
@[simp] theorem State.nextPost_ctx_mx (s : State) : s.nextPost.ctx.mx = s.ctx.mx := rfl
@[simp] theorem State.nextPost_ctx_cmds (s : State) : s.nextPost.ctx.cmds = s.ctx.cmds := rfl
@[simp] theorem State.nextPost_ctx_cmdSeq (s : State) : s.nextPost.ctx.cmdSeq = s.ctx.cmdSeq := rfl
@[simp] theorem State.nextPost_ctx_fifos (s : State) : s.nextPost.ctx.fifos = s.ctx.fifos := rfl
@[simp] theorem State.nextPost_ctx_binds (s : State) : s.nextPost.ctx.binds = s.ctx.binds := rfl
@[simp] theorem State.nextPost_ctx_vatom (s : State) : s.nextPost.ctx.vatom = s.ctx.vatom := rfl
@[simp] theorem State.nextPost_ctx_posted (s : State) : s.nextPost.ctx.posted = s.ctx.posted := rfl
@[simp] theorem State.nextPost_ctx_postSeq (s : State) : s.nextPost.ctx.postSeq = s.ctx.postSeq + 1 := rfl
@[simp] theorem State.nextPost_ctx_peer (s : State) : s.nextPost.ctx.peer = s.ctx.peer := rfl
@[simp] theorem State.nextPost_ctx_busy (s : State) : s.nextPost.ctx.busy = s.ctx.busy := rfl
@[simp] theorem State.nextPost_ctx_lastLoad (s : State) : s.nextPost.ctx.lastLoad = s.ctx.lastLoad := rfl
@[simp] theorem State.nextPost_ctx_sinceSafe (s : State) : s.nextPost.ctx.sinceSafe = s.ctx.sinceSafe := rfl
@[simp] theorem State.nextPost_ctx_barrierCount (s : State) : s.nextPost.ctx.barrierCount = s.ctx.barrierCount := rfl
@[simp] theorem State.nextPost_ctx_atBarrier (s : State) : s.nextPost.ctx.atBarrier = s.ctx.atBarrier := rfl
@[simp] theorem State.nextPost_ctx_ending (s : State) : s.nextPost.ctx.ending = s.ctx.ending := rfl
@[simp] theorem State.nextPost_ctx_asid (s : State) : s.nextPost.ctx.asid = s.ctx.asid := rfl
@[simp] theorem State.nextPost_ctx_root (s : State) : s.nextPost.ctx.root = s.ctx.root := rfl
@[simp] theorem State.nextPost_ctx_job (s : State) : s.nextPost.ctx.job = s.ctx.job := rfl
@[simp] theorem State.nextPost_ctx_inPlaceHalt (s : State) : s.nextPost.ctx.inPlaceHalt = s.ctx.inPlaceHalt := rfl
@[simp] theorem State.nextPost_ctx_haltIdx (s : State) : s.nextPost.ctx.haltIdx = s.ctx.haltIdx := rfl
@[simp] theorem State.nextPost_ctx_snapWait (s : State) : s.nextPost.ctx.snapWait = s.ctx.snapWait := rfl

/-! ## Device.noteLost -/
@[simp] theorem Device.noteLost_num (d : Device) (pa : Nat) : (d.noteLost pa).num = d.num := rfl
@[simp] theorem Device.noteLost_time (d : Device) (pa : Nat) : (d.noteLost pa).time = d.time := rfl
@[simp] theorem Device.noteLost_cycle (d : Device) (pa : Nat) : (d.noteLost pa).cycle = d.cycle := rfl
@[simp] theorem Device.noteLost_timeSet (d : Device) (pa : Nat) : (d.noteLost pa).timeSet = d.timeSet := rfl
@[simp] theorem Device.noteLost_steer (d : Device) (pa : Nat) : (d.noteLost pa).steer = d.steer := rfl
@[simp] theorem Device.noteLost_follows (d : Device) (pa : Nat) : (d.noteLost pa).follows = d.follows := rfl
@[simp] theorem Device.noteLost_mem (d : Device) (pa : Nat) : (d.noteLost pa).mem = d.mem := rfl
@[simp] theorem Device.noteLost_poison (d : Device) (pa : Nat) : (d.noteLost pa).poison = d.poison := rfl
@[simp] theorem Device.noteLost_unlogged (d : Device) (pa : Nat) : (d.noteLost pa).unlogged = d.unlogged := rfl
@[simp] theorem Device.noteLost_hbmCorrected (d : Device) (pa : Nat) : (d.noteLost pa).hbmCorrected = d.hbmCorrected := rfl
@[simp] theorem Device.noteLost_bootEvents (d : Device) (pa : Nat) : (d.noteLost pa).bootEvents = d.bootEvents := rfl
@[simp] theorem Device.noteLost_lost (d : Device) (pa : Nat) : (d.noteLost pa).lost = d.lost ++ [pa] := rfl
@[simp] theorem Device.noteLost_lines (d : Device) (pa : Nat) : (d.noteLost pa).lines = d.lines := rfl
@[simp] theorem Device.noteLost_blocks (d : Device) (pa : Nat) : (d.noteLost pa).blocks = d.blocks := rfl
@[simp] theorem Device.noteLost_dcache (d : Device) (pa : Nat) : (d.noteLost pa).dcache = d.dcache := rfl
@[simp] theorem Device.noteLost_lagoon (d : Device) (pa : Nat) : (d.noteLost pa).lagoon = d.lagoon := rfl
@[simp] theorem Device.noteLost_epoch (d : Device) (pa : Nat) : (d.noteLost pa).epoch = d.epoch := rfl
@[simp] theorem Device.noteLost_scrub (d : Device) (pa : Nat) : (d.noteLost pa).scrub = d.scrub := rfl
@[simp] theorem Device.noteLost_openVer (d : Device) (pa : Nat) : (d.noteLost pa).openVer = d.openVer := rfl
@[simp] theorem Device.noteLost_cfg (d : Device) (pa : Nat) : (d.noteLost pa).cfg = d.cfg := rfl
@[simp] theorem Device.noteLost_state (d : Device) (pa : Nat) : (d.noteLost pa).state = d.state := rfl
@[simp] theorem Device.noteLost_resetKind (d : Device) (pa : Nat) : (d.noteLost pa).resetKind = d.resetKind := rfl
@[simp] theorem Device.noteLost_booterr (d : Device) (pa : Nat) : (d.noteLost pa).booterr = d.booterr := rfl
@[simp] theorem Device.noteLost_therm (d : Device) (pa : Nat) : (d.noteLost pa).therm = d.therm := rfl
@[simp] theorem Device.noteLost_celsius (d : Device) (pa : Nat) : (d.noteLost pa).celsius = d.celsius := rfl
@[simp] theorem Device.noteLost_syncloss (d : Device) (pa : Nat) : (d.noteLost pa).syncloss = d.syncloss := rfl
@[simp] theorem Device.noteLost_cfgerr (d : Device) (pa : Nat) : (d.noteLost pa).cfgerr = d.cfgerr := rfl
@[simp] theorem Device.noteLost_powered (d : Device) (pa : Nat) : (d.noteLost pa).powered = d.powered := rfl
@[simp] theorem Device.noteLost_formed (d : Device) (pa : Nat) : (d.noteLost pa).formed = d.formed := rfl
@[simp] theorem Device.noteLost_sluice (d : Device) (pa : Nat) : (d.noteLost pa).sluice = d.sluice := rfl
@[simp] theorem Device.noteLost_modules (d : Device) (pa : Nat) : (d.noteLost pa).modules = d.modules := rfl
@[simp] theorem Device.noteLost_ports (d : Device) (pa : Nat) : (d.noteLost pa).ports = d.ports := rfl
@[simp] theorem Device.noteLost_peers (d : Device) (pa : Nat) : (d.noteLost pa).peers = d.peers := rfl
@[simp] theorem Device.noteLost_accessMap (d : Device) (pa : Nat) : (d.noteLost pa).accessMap = d.accessMap := rfl
@[simp] theorem Device.noteLost_outbox (d : Device) (pa : Nat) : (d.noteLost pa).outbox = d.outbox := rfl
@[simp] theorem Device.noteLost_tagNext (d : Device) (pa : Nat) : (d.noteLost pa).tagNext = d.tagNext := rfl
@[simp] theorem Device.noteLost_serves (d : Device) (pa : Nat) : (d.noteLost pa).serves = d.serves := rfl
@[simp] theorem Device.noteLost_switching (d : Device) (pa : Nat) : (d.noteLost pa).switching = d.switching := rfl
@[simp] theorem Device.noteLost_mig (d : Device) (pa : Nat) : (d.noteLost pa).mig = d.mig := rfl
@[simp] theorem Device.noteLost_tel (d : Device) (pa : Nat) : (d.noteLost pa).tel = d.tel := rfl
@[simp] theorem Device.noteLost_evIdx (d : Device) (pa : Nat) : (d.noteLost pa).evIdx = d.evIdx := rfl
@[simp] theorem Device.noteLost_irqs (d : Device) (pa : Nat) : (d.noteLost pa).irqs = d.irqs := rfl
@[simp] theorem Device.noteLost_bizil (d : Device) (pa : Nat) : (d.noteLost pa).bizil = d.bizil := rfl
@[simp] theorem Device.noteLost_swaps (d : Device) (pa : Nat) : (d.noteLost pa).swaps = d.swaps := rfl

/-! ## Device.dropCopies -/
@[simp] theorem Device.dropCopies_num (d : Device) (la : Nat) : (d.dropCopies la).num = d.num := rfl
@[simp] theorem Device.dropCopies_time (d : Device) (la : Nat) : (d.dropCopies la).time = d.time := rfl
@[simp] theorem Device.dropCopies_cycle (d : Device) (la : Nat) : (d.dropCopies la).cycle = d.cycle := rfl
@[simp] theorem Device.dropCopies_timeSet (d : Device) (la : Nat) : (d.dropCopies la).timeSet = d.timeSet := rfl
@[simp] theorem Device.dropCopies_steer (d : Device) (la : Nat) : (d.dropCopies la).steer = d.steer := rfl
@[simp] theorem Device.dropCopies_follows (d : Device) (la : Nat) : (d.dropCopies la).follows = d.follows := rfl
@[simp] theorem Device.dropCopies_mem (d : Device) (la : Nat) : (d.dropCopies la).mem = d.mem := rfl
@[simp] theorem Device.dropCopies_poison (d : Device) (la : Nat) : (d.dropCopies la).poison = d.poison := rfl
@[simp] theorem Device.dropCopies_unlogged (d : Device) (la : Nat) : (d.dropCopies la).unlogged = d.unlogged := rfl
@[simp] theorem Device.dropCopies_hbmCorrected (d : Device) (la : Nat) : (d.dropCopies la).hbmCorrected = d.hbmCorrected := rfl
@[simp] theorem Device.dropCopies_bootEvents (d : Device) (la : Nat) : (d.dropCopies la).bootEvents = d.bootEvents := rfl
@[simp] theorem Device.dropCopies_lost (d : Device) (la : Nat) : (d.dropCopies la).lost = d.lost := rfl
@[simp] theorem Device.dropCopies_lines (d : Device) (la : Nat) : (d.dropCopies la).lines = d.lines := rfl
@[simp] theorem Device.dropCopies_blocks (d : Device) (la : Nat) : (d.dropCopies la).blocks = d.blocks := rfl
@[simp] theorem Device.dropCopies_dcache (d : Device) (la : Nat) :
    (d.dropCopies la).dcache = d.dcache.filter fun c => c.pa != la := rfl
@[simp] theorem Device.dropCopies_lagoon (d : Device) (la : Nat) : (d.dropCopies la).lagoon = d.lagoon := rfl
@[simp] theorem Device.dropCopies_epoch (d : Device) (la : Nat) : (d.dropCopies la).epoch = d.epoch := rfl
@[simp] theorem Device.dropCopies_scrub (d : Device) (la : Nat) : (d.dropCopies la).scrub = d.scrub := rfl
@[simp] theorem Device.dropCopies_openVer (d : Device) (la : Nat) : (d.dropCopies la).openVer = d.openVer := rfl
@[simp] theorem Device.dropCopies_cfg (d : Device) (la : Nat) : (d.dropCopies la).cfg = d.cfg := rfl
@[simp] theorem Device.dropCopies_state (d : Device) (la : Nat) : (d.dropCopies la).state = d.state := rfl
@[simp] theorem Device.dropCopies_resetKind (d : Device) (la : Nat) : (d.dropCopies la).resetKind = d.resetKind := rfl
@[simp] theorem Device.dropCopies_booterr (d : Device) (la : Nat) : (d.dropCopies la).booterr = d.booterr := rfl
@[simp] theorem Device.dropCopies_therm (d : Device) (la : Nat) : (d.dropCopies la).therm = d.therm := rfl
@[simp] theorem Device.dropCopies_celsius (d : Device) (la : Nat) : (d.dropCopies la).celsius = d.celsius := rfl
@[simp] theorem Device.dropCopies_syncloss (d : Device) (la : Nat) : (d.dropCopies la).syncloss = d.syncloss := rfl
@[simp] theorem Device.dropCopies_cfgerr (d : Device) (la : Nat) : (d.dropCopies la).cfgerr = d.cfgerr := rfl
@[simp] theorem Device.dropCopies_powered (d : Device) (la : Nat) : (d.dropCopies la).powered = d.powered := rfl
@[simp] theorem Device.dropCopies_formed (d : Device) (la : Nat) : (d.dropCopies la).formed = d.formed := rfl
@[simp] theorem Device.dropCopies_sluice (d : Device) (la : Nat) : (d.dropCopies la).sluice = d.sluice := rfl
@[simp] theorem Device.dropCopies_modules (d : Device) (la : Nat) : (d.dropCopies la).modules = d.modules := rfl
@[simp] theorem Device.dropCopies_ports (d : Device) (la : Nat) : (d.dropCopies la).ports = d.ports := rfl
@[simp] theorem Device.dropCopies_peers (d : Device) (la : Nat) : (d.dropCopies la).peers = d.peers := rfl
@[simp] theorem Device.dropCopies_accessMap (d : Device) (la : Nat) : (d.dropCopies la).accessMap = d.accessMap := rfl
@[simp] theorem Device.dropCopies_outbox (d : Device) (la : Nat) : (d.dropCopies la).outbox = d.outbox := rfl
@[simp] theorem Device.dropCopies_tagNext (d : Device) (la : Nat) : (d.dropCopies la).tagNext = d.tagNext := rfl
@[simp] theorem Device.dropCopies_serves (d : Device) (la : Nat) : (d.dropCopies la).serves = d.serves := rfl
@[simp] theorem Device.dropCopies_switching (d : Device) (la : Nat) : (d.dropCopies la).switching = d.switching := rfl
@[simp] theorem Device.dropCopies_mig (d : Device) (la : Nat) : (d.dropCopies la).mig = d.mig := rfl
@[simp] theorem Device.dropCopies_tel (d : Device) (la : Nat) : (d.dropCopies la).tel = d.tel := rfl
@[simp] theorem Device.dropCopies_evIdx (d : Device) (la : Nat) : (d.dropCopies la).evIdx = d.evIdx := rfl
@[simp] theorem Device.dropCopies_irqs (d : Device) (la : Nat) : (d.dropCopies la).irqs = d.irqs := rfl
@[simp] theorem Device.dropCopies_bizil (d : Device) (la : Nat) : (d.dropCopies la).bizil = d.bizil := rfl
@[simp] theorem Device.dropCopies_swaps (d : Device) (la : Nat) : (d.dropCopies la).swaps = d.swaps := rfl

/-! ## Device.bootEvent -/
@[simp] theorem Device.bootEvent_num (d : Device) (kind num addr : Nat) : (d.bootEvent kind num addr).num = d.num := rfl
@[simp] theorem Device.bootEvent_time (d : Device) (kind num addr : Nat) : (d.bootEvent kind num addr).time = d.time := rfl
@[simp] theorem Device.bootEvent_cycle (d : Device) (kind num addr : Nat) : (d.bootEvent kind num addr).cycle = d.cycle := rfl
@[simp] theorem Device.bootEvent_timeSet (d : Device) (kind num addr : Nat) :
    (d.bootEvent kind num addr).timeSet = d.timeSet := rfl
@[simp] theorem Device.bootEvent_steer (d : Device) (kind num addr : Nat) : (d.bootEvent kind num addr).steer = d.steer := rfl
@[simp] theorem Device.bootEvent_follows (d : Device) (kind num addr : Nat) :
    (d.bootEvent kind num addr).follows = d.follows := rfl
@[simp] theorem Device.bootEvent_mem (d : Device) (kind num addr : Nat) : (d.bootEvent kind num addr).mem = d.mem := rfl
@[simp] theorem Device.bootEvent_poison (d : Device) (kind num addr : Nat) :
    (d.bootEvent kind num addr).poison = d.poison := rfl
@[simp] theorem Device.bootEvent_unlogged (d : Device) (kind num addr : Nat) :
    (d.bootEvent kind num addr).unlogged = d.unlogged := rfl
@[simp] theorem Device.bootEvent_hbmCorrected (d : Device) (kind num addr : Nat) :
    (d.bootEvent kind num addr).hbmCorrected = d.hbmCorrected := rfl
@[simp] theorem Device.bootEvent_bootEvents (d : Device) (kind num addr : Nat) :
    (d.bootEvent kind num addr).bootEvents = d.bootEvents ++ [(kind, num, addr)] := rfl
@[simp] theorem Device.bootEvent_lost (d : Device) (kind num addr : Nat) : (d.bootEvent kind num addr).lost = d.lost := rfl
@[simp] theorem Device.bootEvent_lines (d : Device) (kind num addr : Nat) : (d.bootEvent kind num addr).lines = d.lines := rfl
@[simp] theorem Device.bootEvent_blocks (d : Device) (kind num addr : Nat) :
    (d.bootEvent kind num addr).blocks = d.blocks := rfl
@[simp] theorem Device.bootEvent_dcache (d : Device) (kind num addr : Nat) :
    (d.bootEvent kind num addr).dcache = d.dcache := rfl
@[simp] theorem Device.bootEvent_lagoon (d : Device) (kind num addr : Nat) :
    (d.bootEvent kind num addr).lagoon = d.lagoon := rfl
@[simp] theorem Device.bootEvent_epoch (d : Device) (kind num addr : Nat) : (d.bootEvent kind num addr).epoch = d.epoch := rfl
@[simp] theorem Device.bootEvent_scrub (d : Device) (kind num addr : Nat) : (d.bootEvent kind num addr).scrub = d.scrub := rfl
@[simp] theorem Device.bootEvent_openVer (d : Device) (kind num addr : Nat) :
    (d.bootEvent kind num addr).openVer = d.openVer := rfl
@[simp] theorem Device.bootEvent_cfg (d : Device) (kind num addr : Nat) : (d.bootEvent kind num addr).cfg = d.cfg := rfl
@[simp] theorem Device.bootEvent_state (d : Device) (kind num addr : Nat) : (d.bootEvent kind num addr).state = d.state := rfl
@[simp] theorem Device.bootEvent_resetKind (d : Device) (kind num addr : Nat) :
    (d.bootEvent kind num addr).resetKind = d.resetKind := rfl
@[simp] theorem Device.bootEvent_booterr (d : Device) (kind num addr : Nat) :
    (d.bootEvent kind num addr).booterr = d.booterr := rfl
@[simp] theorem Device.bootEvent_therm (d : Device) (kind num addr : Nat) : (d.bootEvent kind num addr).therm = d.therm := rfl
@[simp] theorem Device.bootEvent_celsius (d : Device) (kind num addr : Nat) :
    (d.bootEvent kind num addr).celsius = d.celsius := rfl
@[simp] theorem Device.bootEvent_syncloss (d : Device) (kind num addr : Nat) :
    (d.bootEvent kind num addr).syncloss = d.syncloss := rfl
@[simp] theorem Device.bootEvent_cfgerr (d : Device) (kind num addr : Nat) :
    (d.bootEvent kind num addr).cfgerr = d.cfgerr := rfl
@[simp] theorem Device.bootEvent_powered (d : Device) (kind num addr : Nat) :
    (d.bootEvent kind num addr).powered = d.powered := rfl
@[simp] theorem Device.bootEvent_formed (d : Device) (kind num addr : Nat) :
    (d.bootEvent kind num addr).formed = d.formed := rfl
@[simp] theorem Device.bootEvent_sluice (d : Device) (kind num addr : Nat) :
    (d.bootEvent kind num addr).sluice = d.sluice := rfl
@[simp] theorem Device.bootEvent_modules (d : Device) (kind num addr : Nat) :
    (d.bootEvent kind num addr).modules = d.modules := rfl
@[simp] theorem Device.bootEvent_ports (d : Device) (kind num addr : Nat) : (d.bootEvent kind num addr).ports = d.ports := rfl
@[simp] theorem Device.bootEvent_peers (d : Device) (kind num addr : Nat) : (d.bootEvent kind num addr).peers = d.peers := rfl
@[simp] theorem Device.bootEvent_accessMap (d : Device) (kind num addr : Nat) :
    (d.bootEvent kind num addr).accessMap = d.accessMap := rfl
@[simp] theorem Device.bootEvent_outbox (d : Device) (kind num addr : Nat) :
    (d.bootEvent kind num addr).outbox = d.outbox := rfl
@[simp] theorem Device.bootEvent_tagNext (d : Device) (kind num addr : Nat) :
    (d.bootEvent kind num addr).tagNext = d.tagNext := rfl
@[simp] theorem Device.bootEvent_serves (d : Device) (kind num addr : Nat) :
    (d.bootEvent kind num addr).serves = d.serves := rfl
@[simp] theorem Device.bootEvent_switching (d : Device) (kind num addr : Nat) :
    (d.bootEvent kind num addr).switching = d.switching := rfl
@[simp] theorem Device.bootEvent_mig (d : Device) (kind num addr : Nat) : (d.bootEvent kind num addr).mig = d.mig := rfl
@[simp] theorem Device.bootEvent_tel (d : Device) (kind num addr : Nat) : (d.bootEvent kind num addr).tel = d.tel := rfl
@[simp] theorem Device.bootEvent_evIdx (d : Device) (kind num addr : Nat) : (d.bootEvent kind num addr).evIdx = d.evIdx := rfl
@[simp] theorem Device.bootEvent_irqs (d : Device) (kind num addr : Nat) : (d.bootEvent kind num addr).irqs = d.irqs := rfl
@[simp] theorem Device.bootEvent_bizil (d : Device) (kind num addr : Nat) : (d.bootEvent kind num addr).bizil = d.bizil := rfl
@[simp] theorem Device.bootEvent_swaps (d : Device) (kind num addr : Nat) : (d.bootEvent kind num addr).swaps = d.swaps := rfl

/-! ## CoreSt.issued -/
@[simp] theorem CoreSt.issued_spad (c : CoreSt) (v : Bool) (n : Nat) : (c.issued v n).spad = c.spad := by cases v <;> rfl
@[simp] theorem CoreSt.issued_ue (c : CoreSt) (v : Bool) (n : Nat) : (c.issued v n).ue = c.ue := by cases v <;> rfl
@[simp] theorem CoreSt.issued_tiles (c : CoreSt) (v : Bool) (n : Nat) : (c.issued v n).tiles = c.tiles := by cases v <;> rfl
@[simp] theorem CoreSt.issued_vregs (c : CoreSt) (v : Bool) (n : Nat) : (c.issued v n).vregs = c.vregs := by cases v <;> rfl
@[simp] theorem CoreSt.issued_sems (c : CoreSt) (v : Bool) (n : Nat) : (c.issued v n).sems = c.sems := by cases v <;> rfl
@[simp] theorem CoreSt.issued_score (c : CoreSt) (v : Bool) (n : Nat) : (c.issued v n).score = c.score := by cases v <;> rfl
@[simp] theorem CoreSt.issued_value (c : CoreSt) (v : Bool) (n : Nat) : (c.issued v n).value = c.value := by cases v <;> rfl
@[simp] theorem CoreSt.issued_frozen (c : CoreSt) (v : Bool) (n : Nat) : (c.issued v n).frozen = c.frozen := by cases v <;> rfl
@[simp] theorem CoreSt.issued_copying (c : CoreSt) (v : Bool) (n : Nat) :
    (c.issued v n).copying = c.copying := by cases v <;> rfl
@[simp] theorem CoreSt.issued_sparesUsed (c : CoreSt) (v : Bool) (n : Nat) :
    (c.issued v n).sparesUsed = c.sparesUsed := by cases v <;> rfl
@[simp] theorem CoreSt.issued_corrected (c : CoreSt) (v : Bool) (n : Nat) :
    (c.issued v n).corrected = c.corrected := by cases v <;> rfl
@[simp] theorem CoreSt.issued_retire (c : CoreSt) (v : Bool) (n : Nat) : (c.issued v n).retire = c.retire := by cases v <;> rfl
@[simp] theorem CoreSt.issued_tlb (c : CoreSt) (v : Bool) (n : Nat) : (c.issued v n).tlb = c.tlb := by cases v <;> rfl
@[simp] theorem CoreSt.issued_lastRake (c : CoreSt) (v : Bool) (n : Nat) :
    (c.issued v n).lastRake = c.lastRake := by cases v <;> rfl
@[simp] theorem CoreSt.issued_lastMx (c : CoreSt) (v : Bool) (n : Nat) : (c.issued v n).lastMx = c.lastMx := by cases v <;> rfl

/-! ## CoreSt.served -/
@[simp] theorem CoreSt.served_spad (c : CoreSt) (p : Nat) (r : Ring) : (c.served p r).spad = c.spad := by cases r <;> rfl
@[simp] theorem CoreSt.served_ue (c : CoreSt) (p : Nat) (r : Ring) : (c.served p r).ue = c.ue := by cases r <;> rfl
@[simp] theorem CoreSt.served_tiles (c : CoreSt) (p : Nat) (r : Ring) : (c.served p r).tiles = c.tiles := by cases r <;> rfl
@[simp] theorem CoreSt.served_vregs (c : CoreSt) (p : Nat) (r : Ring) : (c.served p r).vregs = c.vregs := by cases r <;> rfl
@[simp] theorem CoreSt.served_sems (c : CoreSt) (p : Nat) (r : Ring) : (c.served p r).sems = c.sems := by cases r <;> rfl
@[simp] theorem CoreSt.served_score (c : CoreSt) (p : Nat) (r : Ring) : (c.served p r).score = c.score := by cases r <;> rfl
@[simp] theorem CoreSt.served_value (c : CoreSt) (p : Nat) (r : Ring) : (c.served p r).value = c.value := by cases r <;> rfl
@[simp] theorem CoreSt.served_frozen (c : CoreSt) (p : Nat) (r : Ring) : (c.served p r).frozen = c.frozen := by cases r <;> rfl
@[simp] theorem CoreSt.served_copying (c : CoreSt) (p : Nat) (r : Ring) :
    (c.served p r).copying = c.copying := by cases r <;> rfl
@[simp] theorem CoreSt.served_sparesUsed (c : CoreSt) (p : Nat) (r : Ring) :
    (c.served p r).sparesUsed = c.sparesUsed := by cases r <;> rfl
@[simp] theorem CoreSt.served_corrected (c : CoreSt) (p : Nat) (r : Ring) :
    (c.served p r).corrected = c.corrected := by cases r <;> rfl
@[simp] theorem CoreSt.served_retire (c : CoreSt) (p : Nat) (r : Ring) : (c.served p r).retire = c.retire := by cases r <;> rfl
@[simp] theorem CoreSt.served_tlb (c : CoreSt) (p : Nat) (r : Ring) : (c.served p r).tlb = c.tlb := by cases r <;> rfl
@[simp] theorem CoreSt.served_lastScalar (c : CoreSt) (p : Nat) (r : Ring) :
    (c.served p r).lastScalar = c.lastScalar := by cases r <;> rfl
@[simp] theorem CoreSt.served_lastVector (c : CoreSt) (p : Nat) (r : Ring) :
    (c.served p r).lastVector = c.lastVector := by cases r <;> rfl
@[simp] theorem CoreSt.issued_vector (c : CoreSt) (n : Nat) : (c.issued true n).lastVector = n := rfl
@[simp] theorem CoreSt.issued_scalar (c : CoreSt) (n : Nat) : (c.issued false n).lastScalar = n := rfl

/-! ## Poison of a memory line -/

@[simp] theorem Device.setPoison_mem (d : Device) (la : Nat) (p : Bool) : (d.setPoison la p).mem = d.mem := by
  cases p <;> rfl
@[simp] theorem Device.setPoison_lines (d : Device) (la : Nat) (p : Bool) : (d.setPoison la p).lines = d.lines := by
  cases p <;> rfl
@[simp] theorem Device.setPoison_lagoon (d : Device) (la : Nat) (p : Bool) : (d.setPoison la p).lagoon = d.lagoon := by
  cases p <;> rfl

/-- Firmware is owed a log entry only of an HBM line that was clean (13 R407). -/
theorem Device.setPoison_unlogged (d : Device) (la : Nat) (p : Bool) :
    (d.setPoison la p).unlogged
      = if p = true ∧ residency la = 0 ∧ d.poison.contains la = false then d.unlogged ++ [la] else d.unlogged := by
  cases p with
  | false => simp [Device.setPoison]
  | true => cases h : d.poison.contains la <;> simp_all [Device.setPoison]

/-! ## Shared operations -/

/-- A read of a line past every cache: the device stays as it is, and the bytes are those of memory (10 R333). -/
theorem Device.readLine_direct {d : Device} {leaf : BitVec 64} {pa : Nat} (h : d.direct pa leaf = true) (cl : Slices) (n : Nat) :
    d.readLine cl pa n leaf = (d, d.mem.readBytes pa n, d.poison.contains (lineOf pa)) := by
  have hr : residency pa = 0 := by simp_all [Device.direct]
  have hm : d.memorySide pa leaf = true := by simp_all [Device.direct]
  have hc : d.cacheable pa leaf = false := by simp [Device.cacheable, hr, hm]
  simp [Device.readLine, Device.peek, hc, h]

/-- A load with no block cache is a read of the line: no scalar data cache holds it (10 R328, R330). -/
theorem Device.loadLine_uncached (d : Device) (core pa n : Nat) (leaf : BitVec 64) :
    d.loadLine core [] pa n leaf = d.readLine [] pa n leaf := by
  simp [Device.loadLine]

/-- A write whose pool memory is gone changes nothing (14 R444). -/
theorem Device.writeLine_gone {d : Device} {pa : Nat} (h : d.poolGone pa = true) (cl : Slices) (bs : List Byte) (leaf : BitVec 64)
    (p : Bool) : d.writeLine cl pa bs leaf p = d := by
  simp [Device.writeLine, h]

/-- The note of an issue touches nothing but who issued last (01 R17). -/
theorem noteIssue_next {w : InstrWord} {o : Outcome} {t : State} (h : noteIssue w o = .next t) :
    ∃ x : State, o = .next x ∧ t = { x with core := x.core.issued (toVector w) x.ctxNum } := by
  cases o with
  | next x => exact ⟨x, rfl, (Host.Outcome.next.inj h).symm⟩
  | fault f => simp [noteIssue] at h
  | refused r => simp [noteIssue] at h

/-- An answer to the sluice changes nothing but what the sluice has asked (14 R450). -/
theorem State.answerSluice_eq (s : State) (dst : Nat) (tag : BitVec 16) (bs : List Byte) (st : BitVec 3) :
    s.answerSluice dst tag bs st
      = { s with dev := { s.dev with sluice := { s.dev.sluice with peer := s.dev.sluice.peer.map (fillWait dst tag bs st) } } } := rfl

/-- Answers let go change nothing but what the sluice has asked. -/
theorem State.dropReads_ctx (s : State) : s.dropReads.ctx = s.ctx := rfl
theorem State.dropReads_mem (s : State) : s.dropReads.dev.mem = s.dev.mem := rfl

/-- A read of a peer by the sluice that ends changes nothing, and gives as many bytes as it asks for; all of them marked where the
peer is gone (14 R456). -/
theorem State.sluicePeerRead_ok {s t : State} {pa n : Nat} {bs : List Byte} {p : Bool}
    (h : s.sluicePeerRead pa n = (t, .ok (bs, p))) :
    t = s ∧ bs.length = n ∧ (s.dev.peerGone (peerOf pa) = true → p = true) := by
  unfold State.sluicePeerRead at h
  split at h
  · simp only [Prod.mk.injEq, Except.ok.injEq] at h
    obtain ⟨rfl, rfl, rfl⟩ := h
    simp
  · next hg =>
    split at h
    · simp at h
    · split at h
      · simp at h
      · simp only [Prod.mk.injEq, Except.ok.injEq] at h
        obtain ⟨rfl, h⟩ := h
        refine ⟨rfl, ?_, fun hp => absurd hp hg⟩
        split at h <;> (obtain ⟨rfl, -⟩ := Prod.mk.inj h; simp_all)

/-- Lanes come back only from a next state (05 R182). -/
theorem returnLanes_fault (k : Nat) (f : Fault) : returnLanes k (.fault f) = .fault f := by cases k <;> rfl
theorem returnLanes_refused (k : Nat) (r : Refusal) : returnLanes k (.refused r) = .refused r := by cases k <;> rfl

/-- Nothing comes back where no lane can: the step is the issue alone. -/
theorem returnLanes_none {s : State} (h : s.nextLane = none) (k : Nat) : returnLanes k (.next s) = .next s := by
  cases k with
  | zero => rfl
  | succ k => simp [returnLanes, h]

/-- TIME never goes back by steering, and gains at most a tenth of what has passed (14 R459). -/
theorem steered_bounds (steer : Int) (ns g : Nat) : -(ns : Int) ≤ steered steer ns g ∧ steered steer ns g ≤ (ns / 10 : Nat) := by
  have hg : g % (ns / 10 + 1) < ns / 10 + 1 := Nat.mod_lt _ (by omega)
  have hs : g % (ns + 1) < ns + 1 := Nat.mod_lt _ (by omega)
  unfold steered
  split <;> omega

end Sys2Proof.Machine
end

