-- ==== Sys2Proof/Laws/Memory.lean ====
section
/-!
SUPPORT. The memory's canonical form: every operation over a memory keeps it, and what one byte written leaves.
-/
namespace Sys2Proof.Machine

theorem Memory.wfFrom_cons_iff (lo x : Nat) (b : Byte) (t : Memory) :
    Memory.wfFrom lo ((x, b) :: t) = true ↔ lo ≤ x ∧ b ≠ unlistedByte ∧ Memory.wfFrom (x + 1) t = true := by
  simp [Memory.wfFrom, and_assoc]

/-- A memory whose addresses start higher starts as high. -/
theorem Memory.wfFrom_le {lo hi : Nat} {m : Memory} (h : Memory.wfFrom hi m = true) (hle : lo ≤ hi) :
    Memory.wfFrom lo m = true := by
  cases m with
  | nil => rfl
  | cons c t =>
    rw [Memory.wfFrom_cons_iff] at h ⊢
    exact ⟨Nat.le_trans hle h.1, h.2⟩

/-- A byte put before the rest keeps the form. -/
theorem Memory.wfFrom_put {lo a : Nat} {b : Byte} {t : Memory} (hle : lo ≤ a) (h : Memory.wfFrom (a + 1) t = true) :
    Memory.wfFrom lo (Memory.cons a b t) = true := by
  unfold Memory.cons
  split
  · exact Memory.wfFrom_le h (Nat.le_trans hle (Nat.le_succ a))
  · rename_i hb
    exact (Memory.wfFrom_cons_iff ..).2 ⟨hle, hb, h⟩

theorem Memory.wfFrom_write {a : Nat} {v : Byte} : ∀ {lo : Nat} {m : Memory}, Memory.wfFrom lo m = true → lo ≤ a →
    Memory.wfFrom lo (m.write a v) = true
  | lo, [], _, hle => Memory.wfFrom_put hle rfl
  | lo, (x, b) :: t, h, hle => by
    obtain ⟨hx, hb, ht⟩ := (Memory.wfFrom_cons_iff ..).1 h
    unfold Memory.write
    split
    · rename_i e
      subst e
      exact Memory.wfFrom_put hle ht
    · split
      · rename_i hlt
        exact Memory.wfFrom_put hle ((Memory.wfFrom_cons_iff ..).2 ⟨hlt, hb, ht⟩)
      · exact (Memory.wfFrom_cons_iff ..).2 ⟨hx, hb, Memory.wfFrom_write ht (by omega)⟩

/-- A byte written keeps the form. -/
theorem Memory.write_wf {m : Memory} (h : m.wf = true) (a : Nat) (v : Byte) : (m.write a v).wf = true :=
  Memory.wfFrom_write h (Nat.zero_le a)

/-- Bytes written keep the form. -/
theorem Memory.writeBytes_wf : ∀ (bs : List Byte) {m : Memory} (a : Nat), m.wf = true → (m.writeBytes a bs).wf = true
  | [], _, _, h => h
  | _ :: t, _, a, h => Memory.writeBytes_wf t (a + 1) (Memory.write_wf h a _)

/-- A number written keeps the form. -/
theorem Memory.writeLE_wf {m : Memory} (h : m.wf = true) (a n v : Nat) : (m.writeLE a n v).wf = true :=
  Memory.writeBytes_wf _ a h

/-- Bytes dropped, as a wipe does (15 R464), keep the form. -/
theorem Memory.wfFrom_filter (p : Host.Cell → Bool) : ∀ {lo : Nat} {m : Memory}, Memory.wfFrom lo m = true →
    Memory.wfFrom lo (m.filter p) = true
  | _, [], _ => rfl
  | lo, (x, b) :: t, h => by
    obtain ⟨hx, hb, ht⟩ := (Memory.wfFrom_cons_iff ..).1 h
    rw [List.filter_cons]
    split
    · exact (Memory.wfFrom_cons_iff ..).2 ⟨hx, hb, Memory.wfFrom_filter p ht⟩
    · exact Memory.wfFrom_le (Memory.wfFrom_filter p ht) (by omega)

/-- Below its first address a memory in form reads as an unlisted byte. -/
theorem Memory.read_below {lo a : Nat} {m : Memory} (h : Memory.wfFrom lo m = true) (ha : a < lo) :
    m.read a = unlistedByte := by
  cases m with
  | nil => rfl
  | cons c t =>
    obtain ⟨x, b⟩ := c
    obtain ⟨hx, -, -⟩ := (Memory.wfFrom_cons_iff ..).1 h
    rw [Memory.read, if_neg (by omega), if_pos (by omega)]

/-- What a byte put before the rest reads as. -/
theorem Memory.read_put {a x : Nat} {b : Byte} {t : Memory} (h : Memory.wfFrom (a + 1) t = true) :
    (Memory.cons a b t).read x = if x = a then b else if x < a then unlistedByte else t.read x := by
  unfold Memory.cons
  split
  · rename_i hb
    subst hb
    split
    · rename_i e
      subst e
      exact Memory.read_below h (Nat.lt_succ_self x)
    · split
      · exact Memory.read_below h (by omega)
      · rfl
  · rfl

/-- One byte written is read back, and every other byte reads as before. -/
theorem Memory.read_write {a x : Nat} {v : Byte} : ∀ {lo : Nat} {m : Memory}, Memory.wfFrom lo m = true →
    (m.write a v).read x = if x = a then v else m.read x
  | _, [], _ => by
    rw [Memory.write, Memory.read_put rfl]
    simp [Memory.read]
  | lo, (y, b) :: t, h => by
    obtain ⟨hy, hb, ht⟩ := (Memory.wfFrom_cons_iff ..).1 h
    unfold Memory.write
    split
    · rename_i e
      subst e
      rw [Memory.read_put ht, Memory.read]
      split <;> simp_all
    · split
      · rename_i hlt
        rw [Memory.read_put ((Memory.wfFrom_cons_iff ..).2 ⟨hlt, hb, ht⟩)]
        split
        · rfl
        · split
          · rw [Memory.read, if_neg (by omega), if_pos (by omega)]
          · rfl
      · rw [Memory.read, Memory.read, Memory.read_write ht]
        split
        · rename_i e
          rw [if_neg (by omega)]
        · split
          · rw [if_neg (by omega)]
          · rfl

/-- The memories of the reset state have the form. -/
theorem State.reset_mem_wf : State.reset.dev.mem.wf = true := rfl

end Sys2Proof.Machine
end

