-- ==== Sys2Proof/Laws/State.lean ====
section
/-!
SUPPORT. What each update of the state does to each field, one lemma per field, so that no proof unfolds a record update.
-/
namespace Sys2Proof.Machine

/-! ## Ctx.setReg -/
@[simp] theorem Ctx.setReg_status (c : Ctx) (n : BitVec 5) (v : Word) (p : Bool) : (c.setReg n v p).status = c.status := by
  unfold Ctx.setReg; split <;> rfl
@[simp] theorem Ctx.setReg_pc (c : Ctx) (n : BitVec 5) (v : Word) (p : Bool) : (c.setReg n v p).pc = c.pc := by
  unfold Ctx.setReg; split <;> rfl
@[simp] theorem Ctx.setReg_masks (c : Ctx) (n : BitVec 5) (v : Word) (p : Bool) : (c.setReg n v p).masks = c.masks := by
  unfold Ctx.setReg; split <;> rfl
@[simp] theorem Ctx.setReg_sg (c : Ctx) (n : BitVec 5) (v : Word) (p : Bool) : (c.setReg n v p).sg = c.sg := by
  unfold Ctx.setReg; split <;> rfl
@[simp] theorem Ctx.setReg_ctl (c : Ctx) (n : BitVec 5) (v : Word) (p : Bool) : (c.setReg n v p).ctl = c.ctl := by
  unfold Ctx.setReg; split <;> rfl
@[simp] theorem Ctx.setReg_loop (c : Ctx) (n : BitVec 5) (v : Word) (p : Bool) : (c.setReg n v p).loop = c.loop := by
  unfold Ctx.setReg; split <;> rfl
@[simp] theorem Ctx.setReg_ri (c : Ctx) (n : BitVec 5) (v : Word) (p : Bool) : (c.setReg n v p).ri = c.ri := by
  unfold Ctx.setReg; split <;> rfl
@[simp] theorem Ctx.setReg_ro (c : Ctx) (n : BitVec 5) (v : Word) (p : Bool) : (c.setReg n v p).ro = c.ro := by
  unfold Ctx.setReg; split <;> rfl
@[simp] theorem Ctx.setReg_mx (c : Ctx) (n : BitVec 5) (v : Word) (p : Bool) : (c.setReg n v p).mx = c.mx := by
  unfold Ctx.setReg; split <;> rfl
@[simp] theorem Ctx.setReg_cmds (c : Ctx) (n : BitVec 5) (v : Word) (p : Bool) : (c.setReg n v p).cmds = c.cmds := by
  unfold Ctx.setReg; split <;> rfl
@[simp] theorem Ctx.setReg_cmdSeq (c : Ctx) (n : BitVec 5) (v : Word) (p : Bool) : (c.setReg n v p).cmdSeq = c.cmdSeq := by
  unfold Ctx.setReg; split <;> rfl
@[simp] theorem Ctx.setReg_fifos (c : Ctx) (n : BitVec 5) (v : Word) (p : Bool) : (c.setReg n v p).fifos = c.fifos := by
  unfold Ctx.setReg; split <;> rfl
@[simp] theorem Ctx.setReg_binds (c : Ctx) (n : BitVec 5) (v : Word) (p : Bool) : (c.setReg n v p).binds = c.binds := by
  unfold Ctx.setReg; split <;> rfl
@[simp] theorem Ctx.setReg_vatom (c : Ctx) (n : BitVec 5) (v : Word) (p : Bool) : (c.setReg n v p).vatom = c.vatom := by
  unfold Ctx.setReg; split <;> rfl
@[simp] theorem Ctx.setReg_posted (c : Ctx) (n : BitVec 5) (v : Word) (p : Bool) : (c.setReg n v p).posted = c.posted := by
  unfold Ctx.setReg; split <;> rfl
@[simp] theorem Ctx.setReg_postSeq (c : Ctx) (n : BitVec 5) (v : Word) (p : Bool) : (c.setReg n v p).postSeq = c.postSeq := by
  unfold Ctx.setReg; split <;> rfl
@[simp] theorem Ctx.setReg_peer (c : Ctx) (n : BitVec 5) (v : Word) (p : Bool) : (c.setReg n v p).peer = c.peer := by
  unfold Ctx.setReg; split <;> rfl
@[simp] theorem Ctx.setReg_busy (c : Ctx) (n : BitVec 5) (v : Word) (p : Bool) : (c.setReg n v p).busy = c.busy := by
  unfold Ctx.setReg; split <;> rfl
@[simp] theorem Ctx.setReg_sinceSafe (c : Ctx) (n : BitVec 5) (v : Word) (p : Bool) : (c.setReg n v p).sinceSafe = c.sinceSafe := by
  unfold Ctx.setReg; split <;> rfl
@[simp] theorem Ctx.setReg_barrierCount (c : Ctx) (n : BitVec 5) (v : Word) (p : Bool) : (c.setReg n v p).barrierCount = c.barrierCount := by
  unfold Ctx.setReg; split <;> rfl
@[simp] theorem Ctx.setReg_atBarrier (c : Ctx) (n : BitVec 5) (v : Word) (p : Bool) : (c.setReg n v p).atBarrier = c.atBarrier := by
  unfold Ctx.setReg; split <;> rfl
@[simp] theorem Ctx.setReg_ending (c : Ctx) (n : BitVec 5) (v : Word) (p : Bool) : (c.setReg n v p).ending = c.ending := by
  unfold Ctx.setReg; split <;> rfl
@[simp] theorem Ctx.setReg_asid (c : Ctx) (n : BitVec 5) (v : Word) (p : Bool) : (c.setReg n v p).asid = c.asid := by
  unfold Ctx.setReg; split <;> rfl
@[simp] theorem Ctx.setReg_root (c : Ctx) (n : BitVec 5) (v : Word) (p : Bool) : (c.setReg n v p).root = c.root := by
  unfold Ctx.setReg; split <;> rfl
@[simp] theorem Ctx.setReg_job (c : Ctx) (n : BitVec 5) (v : Word) (p : Bool) : (c.setReg n v p).job = c.job := by
  unfold Ctx.setReg; split <;> rfl
@[simp] theorem Ctx.setReg_inPlaceHalt (c : Ctx) (n : BitVec 5) (v : Word) (p : Bool) : (c.setReg n v p).inPlaceHalt = c.inPlaceHalt := by
  unfold Ctx.setReg; split <;> rfl
@[simp] theorem Ctx.setReg_haltIdx (c : Ctx) (n : BitVec 5) (v : Word) (p : Bool) : (c.setReg n v p).haltIdx = c.haltIdx := by
  unfold Ctx.setReg; split <;> rfl
@[simp] theorem Ctx.setReg_snapWait (c : Ctx) (n : BitVec 5) (v : Word) (p : Bool) : (c.setReg n v p).snapWait = c.snapWait := by
  unfold Ctx.setReg; split <;> rfl

/-! ## Ctx.setRing -/
@[simp] theorem Ctx.setRing_status (c : Ctx) (r : Ring) (x : RingSt) : (c.setRing r x).status = c.status := by cases r <;> rfl
@[simp] theorem Ctx.setRing_pc (c : Ctx) (r : Ring) (x : RingSt) : (c.setRing r x).pc = c.pc := by cases r <;> rfl
@[simp] theorem Ctx.setRing_regs (c : Ctx) (r : Ring) (x : RingSt) : (c.setRing r x).regs = c.regs := by cases r <;> rfl
@[simp] theorem Ctx.setRing_pois (c : Ctx) (r : Ring) (x : RingSt) : (c.setRing r x).pois = c.pois := by cases r <;> rfl
@[simp] theorem Ctx.setRing_masks (c : Ctx) (r : Ring) (x : RingSt) : (c.setRing r x).masks = c.masks := by cases r <;> rfl
@[simp] theorem Ctx.setRing_sg (c : Ctx) (r : Ring) (x : RingSt) : (c.setRing r x).sg = c.sg := by cases r <;> rfl
@[simp] theorem Ctx.setRing_ctl (c : Ctx) (r : Ring) (x : RingSt) : (c.setRing r x).ctl = c.ctl := by cases r <;> rfl
@[simp] theorem Ctx.setRing_loop (c : Ctx) (r : Ring) (x : RingSt) : (c.setRing r x).loop = c.loop := by cases r <;> rfl
@[simp] theorem Ctx.setRing_cmds (c : Ctx) (r : Ring) (x : RingSt) : (c.setRing r x).cmds = c.cmds := by cases r <;> rfl
@[simp] theorem Ctx.setRing_cmdSeq (c : Ctx) (r : Ring) (x : RingSt) : (c.setRing r x).cmdSeq = c.cmdSeq := by cases r <;> rfl
@[simp] theorem Ctx.setRing_fifos (c : Ctx) (r : Ring) (x : RingSt) : (c.setRing r x).fifos = c.fifos := by cases r <;> rfl
@[simp] theorem Ctx.setRing_binds (c : Ctx) (r : Ring) (x : RingSt) : (c.setRing r x).binds = c.binds := by cases r <;> rfl
@[simp] theorem Ctx.setRing_vatom (c : Ctx) (r : Ring) (x : RingSt) : (c.setRing r x).vatom = c.vatom := by cases r <;> rfl
@[simp] theorem Ctx.setRing_posted (c : Ctx) (r : Ring) (x : RingSt) : (c.setRing r x).posted = c.posted := by cases r <;> rfl
@[simp] theorem Ctx.setRing_postSeq (c : Ctx) (r : Ring) (x : RingSt) : (c.setRing r x).postSeq = c.postSeq := by cases r <;> rfl
@[simp] theorem Ctx.setRing_peer (c : Ctx) (r : Ring) (x : RingSt) : (c.setRing r x).peer = c.peer := by cases r <;> rfl
@[simp] theorem Ctx.setRing_busy (c : Ctx) (r : Ring) (x : RingSt) : (c.setRing r x).busy = c.busy := by cases r <;> rfl
@[simp] theorem Ctx.setRing_lastLoad (c : Ctx) (r : Ring) (x : RingSt) : (c.setRing r x).lastLoad = c.lastLoad := by cases r <;> rfl
@[simp] theorem Ctx.setRing_sinceSafe (c : Ctx) (r : Ring) (x : RingSt) : (c.setRing r x).sinceSafe = c.sinceSafe := by cases r <;> rfl
@[simp] theorem Ctx.setRing_barrierCount (c : Ctx) (r : Ring) (x : RingSt) : (c.setRing r x).barrierCount = c.barrierCount := by cases r <;> rfl
@[simp] theorem Ctx.setRing_atBarrier (c : Ctx) (r : Ring) (x : RingSt) : (c.setRing r x).atBarrier = c.atBarrier := by cases r <;> rfl
@[simp] theorem Ctx.setRing_ending (c : Ctx) (r : Ring) (x : RingSt) : (c.setRing r x).ending = c.ending := by cases r <;> rfl
@[simp] theorem Ctx.setRing_asid (c : Ctx) (r : Ring) (x : RingSt) : (c.setRing r x).asid = c.asid := by cases r <;> rfl
@[simp] theorem Ctx.setRing_root (c : Ctx) (r : Ring) (x : RingSt) : (c.setRing r x).root = c.root := by cases r <;> rfl
@[simp] theorem Ctx.setRing_job (c : Ctx) (r : Ring) (x : RingSt) : (c.setRing r x).job = c.job := by cases r <;> rfl
@[simp] theorem Ctx.setRing_inPlaceHalt (c : Ctx) (r : Ring) (x : RingSt) : (c.setRing r x).inPlaceHalt = c.inPlaceHalt := by cases r <;> rfl
@[simp] theorem Ctx.setRing_haltIdx (c : Ctx) (r : Ring) (x : RingSt) : (c.setRing r x).haltIdx = c.haltIdx := by cases r <;> rfl
@[simp] theorem Ctx.setRing_snapWait (c : Ctx) (r : Ring) (x : RingSt) : (c.setRing r x).snapWait = c.snapWait := by cases r <;> rfl
@[simp] theorem Ctx.setRing_ring (c : Ctx) (r : Ring) (x : RingSt) : (c.setRing r x).ring r = x := by cases r <;> rfl
theorem Ctx.setRing_ring_ne (c : Ctx) (r q : Ring) (x : RingSt) (h : q ≠ r) : (c.setRing r x).ring q = c.ring q := by
  cases r <;> cases q <;> simp_all [Ctx.setRing, Ctx.ring]

/-! ## State.setReg -/
@[simp] theorem State.setReg_here (s : State) (n : BitVec 5) (v : Word) (p : Bool) : (s.setReg n v p).here = s.here := rfl
@[simp] theorem State.setReg_core (s : State) (n : BitVec 5) (v : Word) (p : Bool) : (s.setReg n v p).core = s.core := rfl
@[simp] theorem State.setReg_clu (s : State) (n : BitVec 5) (v : Word) (p : Bool) : (s.setReg n v p).clu = s.clu := rfl
@[simp] theorem State.setReg_ctxs (s : State) (n : BitVec 5) (v : Word) (p : Bool) : (s.setReg n v p).ctxs = s.ctxs := rfl
@[simp] theorem State.setReg_cores (s : State) (n : BitVec 5) (v : Word) (p : Bool) : (s.setReg n v p).cores = s.cores := rfl
@[simp] theorem State.setReg_clus (s : State) (n : BitVec 5) (v : Word) (p : Bool) : (s.setReg n v p).clus = s.clus := rfl
@[simp] theorem State.setReg_dev (s : State) (n : BitVec 5) (v : Word) (p : Bool) : (s.setReg n v p).dev = s.dev := rfl
@[simp] theorem State.setReg_turns (s : State) (n : BitVec 5) (v : Word) (p : Bool) : (s.setReg n v p).turns = s.turns := rfl
@[simp] theorem State.setReg_ir (s : State) (n : BitVec 5) (v : Word) (p : Bool) : (s.setReg n v p).ir = s.ir := rfl
@[simp] theorem State.setReg_tick (s : State) (n : BitVec 5) (v : Word) (p : Bool) : (s.setReg n v p).tick = s.tick := rfl
@[simp] theorem State.setReg_ctx_status (s : State) (n : BitVec 5) (v : Word) (p : Bool) : (s.setReg n v p).ctx.status = s.ctx.status := by simp [State.setReg]
@[simp] theorem State.setReg_ctx_pc (s : State) (n : BitVec 5) (v : Word) (p : Bool) : (s.setReg n v p).ctx.pc = s.ctx.pc := by simp [State.setReg]
@[simp] theorem State.setReg_ctx_masks (s : State) (n : BitVec 5) (v : Word) (p : Bool) : (s.setReg n v p).ctx.masks = s.ctx.masks := by simp [State.setReg]
@[simp] theorem State.setReg_ctx_sg (s : State) (n : BitVec 5) (v : Word) (p : Bool) : (s.setReg n v p).ctx.sg = s.ctx.sg := by simp [State.setReg]
@[simp] theorem State.setReg_ctx_ctl (s : State) (n : BitVec 5) (v : Word) (p : Bool) : (s.setReg n v p).ctx.ctl = s.ctx.ctl := by simp [State.setReg]
@[simp] theorem State.setReg_ctx_loop (s : State) (n : BitVec 5) (v : Word) (p : Bool) : (s.setReg n v p).ctx.loop = s.ctx.loop := by simp [State.setReg]
@[simp] theorem State.setReg_ctx_ri (s : State) (n : BitVec 5) (v : Word) (p : Bool) : (s.setReg n v p).ctx.ri = s.ctx.ri := by simp [State.setReg]
@[simp] theorem State.setReg_ctx_ro (s : State) (n : BitVec 5) (v : Word) (p : Bool) : (s.setReg n v p).ctx.ro = s.ctx.ro := by simp [State.setReg]
@[simp] theorem State.setReg_ctx_mx (s : State) (n : BitVec 5) (v : Word) (p : Bool) : (s.setReg n v p).ctx.mx = s.ctx.mx := by simp [State.setReg]
@[simp] theorem State.setReg_ctx_cmds (s : State) (n : BitVec 5) (v : Word) (p : Bool) : (s.setReg n v p).ctx.cmds = s.ctx.cmds := by simp [State.setReg]
@[simp] theorem State.setReg_ctx_cmdSeq (s : State) (n : BitVec 5) (v : Word) (p : Bool) : (s.setReg n v p).ctx.cmdSeq = s.ctx.cmdSeq := by simp [State.setReg]
@[simp] theorem State.setReg_ctx_fifos (s : State) (n : BitVec 5) (v : Word) (p : Bool) : (s.setReg n v p).ctx.fifos = s.ctx.fifos := by simp [State.setReg]
@[simp] theorem State.setReg_ctx_binds (s : State) (n : BitVec 5) (v : Word) (p : Bool) : (s.setReg n v p).ctx.binds = s.ctx.binds := by simp [State.setReg]
@[simp] theorem State.setReg_ctx_vatom (s : State) (n : BitVec 5) (v : Word) (p : Bool) : (s.setReg n v p).ctx.vatom = s.ctx.vatom := by simp [State.setReg]
@[simp] theorem State.setReg_ctx_posted (s : State) (n : BitVec 5) (v : Word) (p : Bool) : (s.setReg n v p).ctx.posted = s.ctx.posted := by simp [State.setReg]
@[simp] theorem State.setReg_ctx_postSeq (s : State) (n : BitVec 5) (v : Word) (p : Bool) : (s.setReg n v p).ctx.postSeq = s.ctx.postSeq := by simp [State.setReg]
@[simp] theorem State.setReg_ctx_peer (s : State) (n : BitVec 5) (v : Word) (p : Bool) : (s.setReg n v p).ctx.peer = s.ctx.peer := by simp [State.setReg]
@[simp] theorem State.setReg_ctx_busy (s : State) (n : BitVec 5) (v : Word) (p : Bool) : (s.setReg n v p).ctx.busy = s.ctx.busy := by simp [State.setReg]
@[simp] theorem State.setReg_ctx_sinceSafe (s : State) (n : BitVec 5) (v : Word) (p : Bool) : (s.setReg n v p).ctx.sinceSafe = s.ctx.sinceSafe := by simp [State.setReg]
@[simp] theorem State.setReg_ctx_barrierCount (s : State) (n : BitVec 5) (v : Word) (p : Bool) : (s.setReg n v p).ctx.barrierCount = s.ctx.barrierCount := by simp [State.setReg]
@[simp] theorem State.setReg_ctx_atBarrier (s : State) (n : BitVec 5) (v : Word) (p : Bool) : (s.setReg n v p).ctx.atBarrier = s.ctx.atBarrier := by simp [State.setReg]
@[simp] theorem State.setReg_ctx_ending (s : State) (n : BitVec 5) (v : Word) (p : Bool) : (s.setReg n v p).ctx.ending = s.ctx.ending := by simp [State.setReg]
@[simp] theorem State.setReg_ctx_asid (s : State) (n : BitVec 5) (v : Word) (p : Bool) : (s.setReg n v p).ctx.asid = s.ctx.asid := by simp [State.setReg]
@[simp] theorem State.setReg_ctx_root (s : State) (n : BitVec 5) (v : Word) (p : Bool) : (s.setReg n v p).ctx.root = s.ctx.root := by simp [State.setReg]
@[simp] theorem State.setReg_ctx_job (s : State) (n : BitVec 5) (v : Word) (p : Bool) : (s.setReg n v p).ctx.job = s.ctx.job := by simp [State.setReg]
@[simp] theorem State.setReg_ctx_inPlaceHalt (s : State) (n : BitVec 5) (v : Word) (p : Bool) : (s.setReg n v p).ctx.inPlaceHalt = s.ctx.inPlaceHalt := by simp [State.setReg]
@[simp] theorem State.setReg_ctx_haltIdx (s : State) (n : BitVec 5) (v : Word) (p : Bool) : (s.setReg n v p).ctx.haltIdx = s.ctx.haltIdx := by simp [State.setReg]
@[simp] theorem State.setReg_ctx_snapWait (s : State) (n : BitVec 5) (v : Word) (p : Bool) : (s.setReg n v p).ctx.snapWait = s.ctx.snapWait := by simp [State.setReg]

/-! ## State.setPc -/
@[simp] theorem State.setPc_here (s : State) (pc : Word) : (s.setPc pc).here = s.here := rfl
@[simp] theorem State.setPc_core (s : State) (pc : Word) : (s.setPc pc).core = s.core := rfl
@[simp] theorem State.setPc_clu (s : State) (pc : Word) : (s.setPc pc).clu = s.clu := rfl
@[simp] theorem State.setPc_ctxs (s : State) (pc : Word) : (s.setPc pc).ctxs = s.ctxs := rfl
@[simp] theorem State.setPc_cores (s : State) (pc : Word) : (s.setPc pc).cores = s.cores := rfl
@[simp] theorem State.setPc_clus (s : State) (pc : Word) : (s.setPc pc).clus = s.clus := rfl
@[simp] theorem State.setPc_dev (s : State) (pc : Word) : (s.setPc pc).dev = s.dev := rfl
@[simp] theorem State.setPc_turns (s : State) (pc : Word) : (s.setPc pc).turns = s.turns := rfl
@[simp] theorem State.setPc_ir (s : State) (pc : Word) : (s.setPc pc).ir = s.ir := rfl
@[simp] theorem State.setPc_tick (s : State) (pc : Word) : (s.setPc pc).tick = s.tick := rfl
@[simp] theorem State.setPc_ctx_status (s : State) (pc : Word) : (s.setPc pc).ctx.status = s.ctx.status := rfl
@[simp] theorem State.setPc_ctx_pc (s : State) (pc : Word) : (s.setPc pc).ctx.pc = pc := rfl
@[simp] theorem State.setPc_ctx_regs (s : State) (pc : Word) : (s.setPc pc).ctx.regs = s.ctx.regs := rfl
@[simp] theorem State.setPc_ctx_pois (s : State) (pc : Word) : (s.setPc pc).ctx.pois = s.ctx.pois := rfl
@[simp] theorem State.setPc_ctx_masks (s : State) (pc : Word) : (s.setPc pc).ctx.masks = s.ctx.masks := rfl
@[simp] theorem State.setPc_ctx_sg (s : State) (pc : Word) : (s.setPc pc).ctx.sg = s.ctx.sg := rfl
@[simp] theorem State.setPc_ctx_ctl (s : State) (pc : Word) : (s.setPc pc).ctx.ctl = s.ctx.ctl := rfl
@[simp] theorem State.setPc_ctx_loop (s : State) (pc : Word) : (s.setPc pc).ctx.loop = s.ctx.loop := rfl
@[simp] theorem State.setPc_ctx_ri (s : State) (pc : Word) : (s.setPc pc).ctx.ri = s.ctx.ri := rfl
@[simp] theorem State.setPc_ctx_ro (s : State) (pc : Word) : (s.setPc pc).ctx.ro = s.ctx.ro := rfl
@[simp] theorem State.setPc_ctx_mx (s : State) (pc : Word) : (s.setPc pc).ctx.mx = s.ctx.mx := rfl
@[simp] theorem State.setPc_ctx_cmds (s : State) (pc : Word) : (s.setPc pc).ctx.cmds = s.ctx.cmds := rfl
@[simp] theorem State.setPc_ctx_cmdSeq (s : State) (pc : Word) : (s.setPc pc).ctx.cmdSeq = s.ctx.cmdSeq := rfl
@[simp] theorem State.setPc_ctx_fifos (s : State) (pc : Word) : (s.setPc pc).ctx.fifos = s.ctx.fifos := rfl
@[simp] theorem State.setPc_ctx_binds (s : State) (pc : Word) : (s.setPc pc).ctx.binds = s.ctx.binds := rfl
@[simp] theorem State.setPc_ctx_vatom (s : State) (pc : Word) : (s.setPc pc).ctx.vatom = s.ctx.vatom := rfl
@[simp] theorem State.setPc_ctx_posted (s : State) (pc : Word) : (s.setPc pc).ctx.posted = s.ctx.posted := rfl
@[simp] theorem State.setPc_ctx_postSeq (s : State) (pc : Word) : (s.setPc pc).ctx.postSeq = s.ctx.postSeq := rfl
@[simp] theorem State.setPc_ctx_peer (s : State) (pc : Word) : (s.setPc pc).ctx.peer = s.ctx.peer := rfl
@[simp] theorem State.setPc_ctx_busy (s : State) (pc : Word) : (s.setPc pc).ctx.busy = s.ctx.busy := rfl
@[simp] theorem State.setPc_ctx_lastLoad (s : State) (pc : Word) : (s.setPc pc).ctx.lastLoad = s.ctx.lastLoad := rfl
@[simp] theorem State.setPc_ctx_sinceSafe (s : State) (pc : Word) : (s.setPc pc).ctx.sinceSafe = s.ctx.sinceSafe := rfl
@[simp] theorem State.setPc_ctx_barrierCount (s : State) (pc : Word) : (s.setPc pc).ctx.barrierCount = s.ctx.barrierCount := rfl
@[simp] theorem State.setPc_ctx_atBarrier (s : State) (pc : Word) : (s.setPc pc).ctx.atBarrier = s.ctx.atBarrier := rfl
@[simp] theorem State.setPc_ctx_ending (s : State) (pc : Word) : (s.setPc pc).ctx.ending = s.ctx.ending := rfl
@[simp] theorem State.setPc_ctx_asid (s : State) (pc : Word) : (s.setPc pc).ctx.asid = s.ctx.asid := rfl
@[simp] theorem State.setPc_ctx_root (s : State) (pc : Word) : (s.setPc pc).ctx.root = s.ctx.root := rfl
@[simp] theorem State.setPc_ctx_job (s : State) (pc : Word) : (s.setPc pc).ctx.job = s.ctx.job := rfl
@[simp] theorem State.setPc_ctx_inPlaceHalt (s : State) (pc : Word) : (s.setPc pc).ctx.inPlaceHalt = s.ctx.inPlaceHalt := rfl
@[simp] theorem State.setPc_ctx_haltIdx (s : State) (pc : Word) : (s.setPc pc).ctx.haltIdx = s.ctx.haltIdx := rfl
@[simp] theorem State.setPc_ctx_snapWait (s : State) (pc : Word) : (s.setPc pc).ctx.snapWait = s.ctx.snapWait := rfl

/-! ## State.setStatus -/
@[simp] theorem State.setStatus_here (s : State) (st : CtxStatus) : (s.setStatus st).here = s.here := rfl
@[simp] theorem State.setStatus_core (s : State) (st : CtxStatus) : (s.setStatus st).core = s.core := rfl
@[simp] theorem State.setStatus_clu (s : State) (st : CtxStatus) : (s.setStatus st).clu = s.clu := rfl
@[simp] theorem State.setStatus_ctxs (s : State) (st : CtxStatus) : (s.setStatus st).ctxs = s.ctxs := rfl
@[simp] theorem State.setStatus_cores (s : State) (st : CtxStatus) : (s.setStatus st).cores = s.cores := rfl
@[simp] theorem State.setStatus_clus (s : State) (st : CtxStatus) : (s.setStatus st).clus = s.clus := rfl
@[simp] theorem State.setStatus_dev (s : State) (st : CtxStatus) : (s.setStatus st).dev = s.dev := rfl
@[simp] theorem State.setStatus_turns (s : State) (st : CtxStatus) : (s.setStatus st).turns = s.turns := rfl
@[simp] theorem State.setStatus_ir (s : State) (st : CtxStatus) : (s.setStatus st).ir = s.ir := rfl
@[simp] theorem State.setStatus_tick (s : State) (st : CtxStatus) : (s.setStatus st).tick = s.tick := rfl
@[simp] theorem State.setStatus_ctx_status (s : State) (st : CtxStatus) : (s.setStatus st).ctx.status = st := rfl
@[simp] theorem State.setStatus_ctx_pc (s : State) (st : CtxStatus) : (s.setStatus st).ctx.pc = s.ctx.pc := rfl
@[simp] theorem State.setStatus_ctx_regs (s : State) (st : CtxStatus) : (s.setStatus st).ctx.regs = s.ctx.regs := rfl
@[simp] theorem State.setStatus_ctx_pois (s : State) (st : CtxStatus) : (s.setStatus st).ctx.pois = s.ctx.pois := rfl
@[simp] theorem State.setStatus_ctx_masks (s : State) (st : CtxStatus) : (s.setStatus st).ctx.masks = s.ctx.masks := rfl
@[simp] theorem State.setStatus_ctx_sg (s : State) (st : CtxStatus) : (s.setStatus st).ctx.sg = s.ctx.sg := rfl
@[simp] theorem State.setStatus_ctx_ctl (s : State) (st : CtxStatus) : (s.setStatus st).ctx.ctl = s.ctx.ctl := rfl
@[simp] theorem State.setStatus_ctx_loop (s : State) (st : CtxStatus) : (s.setStatus st).ctx.loop = s.ctx.loop := rfl
@[simp] theorem State.setStatus_ctx_ri (s : State) (st : CtxStatus) : (s.setStatus st).ctx.ri = s.ctx.ri := rfl
@[simp] theorem State.setStatus_ctx_ro (s : State) (st : CtxStatus) : (s.setStatus st).ctx.ro = s.ctx.ro := rfl
@[simp] theorem State.setStatus_ctx_mx (s : State) (st : CtxStatus) : (s.setStatus st).ctx.mx = s.ctx.mx := rfl
@[simp] theorem State.setStatus_ctx_cmds (s : State) (st : CtxStatus) : (s.setStatus st).ctx.cmds = s.ctx.cmds := rfl
@[simp] theorem State.setStatus_ctx_cmdSeq (s : State) (st : CtxStatus) : (s.setStatus st).ctx.cmdSeq = s.ctx.cmdSeq := rfl
@[simp] theorem State.setStatus_ctx_fifos (s : State) (st : CtxStatus) : (s.setStatus st).ctx.fifos = s.ctx.fifos := rfl
@[simp] theorem State.setStatus_ctx_binds (s : State) (st : CtxStatus) : (s.setStatus st).ctx.binds = s.ctx.binds := rfl
@[simp] theorem State.setStatus_ctx_vatom (s : State) (st : CtxStatus) : (s.setStatus st).ctx.vatom = s.ctx.vatom := rfl
@[simp] theorem State.setStatus_ctx_posted (s : State) (st : CtxStatus) : (s.setStatus st).ctx.posted = s.ctx.posted := rfl
@[simp] theorem State.setStatus_ctx_postSeq (s : State) (st : CtxStatus) : (s.setStatus st).ctx.postSeq = s.ctx.postSeq := rfl
@[simp] theorem State.setStatus_ctx_peer (s : State) (st : CtxStatus) : (s.setStatus st).ctx.peer = s.ctx.peer := rfl
@[simp] theorem State.setStatus_ctx_busy (s : State) (st : CtxStatus) : (s.setStatus st).ctx.busy = s.ctx.busy := rfl
@[simp] theorem State.setStatus_ctx_lastLoad (s : State) (st : CtxStatus) : (s.setStatus st).ctx.lastLoad = s.ctx.lastLoad := rfl
@[simp] theorem State.setStatus_ctx_sinceSafe (s : State) (st : CtxStatus) : (s.setStatus st).ctx.sinceSafe = s.ctx.sinceSafe := rfl
@[simp] theorem State.setStatus_ctx_barrierCount (s : State) (st : CtxStatus) : (s.setStatus st).ctx.barrierCount = s.ctx.barrierCount := rfl
@[simp] theorem State.setStatus_ctx_atBarrier (s : State) (st : CtxStatus) : (s.setStatus st).ctx.atBarrier = s.ctx.atBarrier := rfl
@[simp] theorem State.setStatus_ctx_ending (s : State) (st : CtxStatus) : (s.setStatus st).ctx.ending = s.ctx.ending := rfl
@[simp] theorem State.setStatus_ctx_asid (s : State) (st : CtxStatus) : (s.setStatus st).ctx.asid = s.ctx.asid := rfl
@[simp] theorem State.setStatus_ctx_root (s : State) (st : CtxStatus) : (s.setStatus st).ctx.root = s.ctx.root := rfl
@[simp] theorem State.setStatus_ctx_job (s : State) (st : CtxStatus) : (s.setStatus st).ctx.job = s.ctx.job := rfl
@[simp] theorem State.setStatus_ctx_inPlaceHalt (s : State) (st : CtxStatus) : (s.setStatus st).ctx.inPlaceHalt = s.ctx.inPlaceHalt := rfl
@[simp] theorem State.setStatus_ctx_haltIdx (s : State) (st : CtxStatus) : (s.setStatus st).ctx.haltIdx = s.ctx.haltIdx := rfl
@[simp] theorem State.setStatus_ctx_snapWait (s : State) (st : CtxStatus) : (s.setStatus st).ctx.snapWait = s.ctx.snapWait := rfl

/-! ## State.setCtl -/
@[simp] theorem State.setCtl_here (s : State) (f : Ctl → Ctl) : (s.setCtl f).here = s.here := rfl
@[simp] theorem State.setCtl_core (s : State) (f : Ctl → Ctl) : (s.setCtl f).core = s.core := rfl
@[simp] theorem State.setCtl_clu (s : State) (f : Ctl → Ctl) : (s.setCtl f).clu = s.clu := rfl
@[simp] theorem State.setCtl_ctxs (s : State) (f : Ctl → Ctl) : (s.setCtl f).ctxs = s.ctxs := rfl
@[simp] theorem State.setCtl_cores (s : State) (f : Ctl → Ctl) : (s.setCtl f).cores = s.cores := rfl
@[simp] theorem State.setCtl_clus (s : State) (f : Ctl → Ctl) : (s.setCtl f).clus = s.clus := rfl
@[simp] theorem State.setCtl_dev (s : State) (f : Ctl → Ctl) : (s.setCtl f).dev = s.dev := rfl
@[simp] theorem State.setCtl_turns (s : State) (f : Ctl → Ctl) : (s.setCtl f).turns = s.turns := rfl
@[simp] theorem State.setCtl_ir (s : State) (f : Ctl → Ctl) : (s.setCtl f).ir = s.ir := rfl
@[simp] theorem State.setCtl_tick (s : State) (f : Ctl → Ctl) : (s.setCtl f).tick = s.tick := rfl
@[simp] theorem State.setCtl_ctx_status (s : State) (f : Ctl → Ctl) : (s.setCtl f).ctx.status = s.ctx.status := rfl
@[simp] theorem State.setCtl_ctx_pc (s : State) (f : Ctl → Ctl) : (s.setCtl f).ctx.pc = s.ctx.pc := rfl
@[simp] theorem State.setCtl_ctx_regs (s : State) (f : Ctl → Ctl) : (s.setCtl f).ctx.regs = s.ctx.regs := rfl
@[simp] theorem State.setCtl_ctx_pois (s : State) (f : Ctl → Ctl) : (s.setCtl f).ctx.pois = s.ctx.pois := rfl
@[simp] theorem State.setCtl_ctx_masks (s : State) (f : Ctl → Ctl) : (s.setCtl f).ctx.masks = s.ctx.masks := rfl
@[simp] theorem State.setCtl_ctx_sg (s : State) (f : Ctl → Ctl) : (s.setCtl f).ctx.sg = s.ctx.sg := rfl
@[simp] theorem State.setCtl_ctx_ctl (s : State) (f : Ctl → Ctl) : (s.setCtl f).ctx.ctl = f s.ctx.ctl := rfl
@[simp] theorem State.setCtl_ctx_loop (s : State) (f : Ctl → Ctl) : (s.setCtl f).ctx.loop = s.ctx.loop := rfl
@[simp] theorem State.setCtl_ctx_ri (s : State) (f : Ctl → Ctl) : (s.setCtl f).ctx.ri = s.ctx.ri := rfl
@[simp] theorem State.setCtl_ctx_ro (s : State) (f : Ctl → Ctl) : (s.setCtl f).ctx.ro = s.ctx.ro := rfl
@[simp] theorem State.setCtl_ctx_mx (s : State) (f : Ctl → Ctl) : (s.setCtl f).ctx.mx = s.ctx.mx := rfl
@[simp] theorem State.setCtl_ctx_cmds (s : State) (f : Ctl → Ctl) : (s.setCtl f).ctx.cmds = s.ctx.cmds := rfl
@[simp] theorem State.setCtl_ctx_cmdSeq (s : State) (f : Ctl → Ctl) : (s.setCtl f).ctx.cmdSeq = s.ctx.cmdSeq := rfl
@[simp] theorem State.setCtl_ctx_fifos (s : State) (f : Ctl → Ctl) : (s.setCtl f).ctx.fifos = s.ctx.fifos := rfl
@[simp] theorem State.setCtl_ctx_binds (s : State) (f : Ctl → Ctl) : (s.setCtl f).ctx.binds = s.ctx.binds := rfl
@[simp] theorem State.setCtl_ctx_vatom (s : State) (f : Ctl → Ctl) : (s.setCtl f).ctx.vatom = s.ctx.vatom := rfl
@[simp] theorem State.setCtl_ctx_posted (s : State) (f : Ctl → Ctl) : (s.setCtl f).ctx.posted = s.ctx.posted := rfl
@[simp] theorem State.setCtl_ctx_postSeq (s : State) (f : Ctl → Ctl) : (s.setCtl f).ctx.postSeq = s.ctx.postSeq := rfl
@[simp] theorem State.setCtl_ctx_peer (s : State) (f : Ctl → Ctl) : (s.setCtl f).ctx.peer = s.ctx.peer := rfl
@[simp] theorem State.setCtl_ctx_busy (s : State) (f : Ctl → Ctl) : (s.setCtl f).ctx.busy = s.ctx.busy := rfl
@[simp] theorem State.setCtl_ctx_lastLoad (s : State) (f : Ctl → Ctl) : (s.setCtl f).ctx.lastLoad = s.ctx.lastLoad := rfl
@[simp] theorem State.setCtl_ctx_sinceSafe (s : State) (f : Ctl → Ctl) : (s.setCtl f).ctx.sinceSafe = s.ctx.sinceSafe := rfl
@[simp] theorem State.setCtl_ctx_barrierCount (s : State) (f : Ctl → Ctl) : (s.setCtl f).ctx.barrierCount = s.ctx.barrierCount := rfl
@[simp] theorem State.setCtl_ctx_atBarrier (s : State) (f : Ctl → Ctl) : (s.setCtl f).ctx.atBarrier = s.ctx.atBarrier := rfl
@[simp] theorem State.setCtl_ctx_ending (s : State) (f : Ctl → Ctl) : (s.setCtl f).ctx.ending = s.ctx.ending := rfl
@[simp] theorem State.setCtl_ctx_asid (s : State) (f : Ctl → Ctl) : (s.setCtl f).ctx.asid = s.ctx.asid := rfl
@[simp] theorem State.setCtl_ctx_root (s : State) (f : Ctl → Ctl) : (s.setCtl f).ctx.root = s.ctx.root := rfl
@[simp] theorem State.setCtl_ctx_job (s : State) (f : Ctl → Ctl) : (s.setCtl f).ctx.job = s.ctx.job := rfl
@[simp] theorem State.setCtl_ctx_inPlaceHalt (s : State) (f : Ctl → Ctl) : (s.setCtl f).ctx.inPlaceHalt = s.ctx.inPlaceHalt := rfl
@[simp] theorem State.setCtl_ctx_haltIdx (s : State) (f : Ctl → Ctl) : (s.setCtl f).ctx.haltIdx = s.ctx.haltIdx := rfl
@[simp] theorem State.setCtl_ctx_snapWait (s : State) (f : Ctl → Ctl) : (s.setCtl f).ctx.snapWait = s.ctx.snapWait := rfl

/-! ## State.setLoop -/
@[simp] theorem State.setLoop_here (s : State) (f : LoopUnit → LoopUnit) : (s.setLoop f).here = s.here := rfl
@[simp] theorem State.setLoop_core (s : State) (f : LoopUnit → LoopUnit) : (s.setLoop f).core = s.core := rfl
@[simp] theorem State.setLoop_clu (s : State) (f : LoopUnit → LoopUnit) : (s.setLoop f).clu = s.clu := rfl
@[simp] theorem State.setLoop_ctxs (s : State) (f : LoopUnit → LoopUnit) : (s.setLoop f).ctxs = s.ctxs := rfl
@[simp] theorem State.setLoop_cores (s : State) (f : LoopUnit → LoopUnit) : (s.setLoop f).cores = s.cores := rfl
@[simp] theorem State.setLoop_clus (s : State) (f : LoopUnit → LoopUnit) : (s.setLoop f).clus = s.clus := rfl
@[simp] theorem State.setLoop_dev (s : State) (f : LoopUnit → LoopUnit) : (s.setLoop f).dev = s.dev := rfl
@[simp] theorem State.setLoop_turns (s : State) (f : LoopUnit → LoopUnit) : (s.setLoop f).turns = s.turns := rfl
@[simp] theorem State.setLoop_ir (s : State) (f : LoopUnit → LoopUnit) : (s.setLoop f).ir = s.ir := rfl
@[simp] theorem State.setLoop_tick (s : State) (f : LoopUnit → LoopUnit) : (s.setLoop f).tick = s.tick := rfl
@[simp] theorem State.setLoop_ctx_status (s : State) (f : LoopUnit → LoopUnit) : (s.setLoop f).ctx.status = s.ctx.status := rfl
@[simp] theorem State.setLoop_ctx_pc (s : State) (f : LoopUnit → LoopUnit) : (s.setLoop f).ctx.pc = s.ctx.pc := rfl
@[simp] theorem State.setLoop_ctx_regs (s : State) (f : LoopUnit → LoopUnit) : (s.setLoop f).ctx.regs = s.ctx.regs := rfl
@[simp] theorem State.setLoop_ctx_pois (s : State) (f : LoopUnit → LoopUnit) : (s.setLoop f).ctx.pois = s.ctx.pois := rfl
@[simp] theorem State.setLoop_ctx_masks (s : State) (f : LoopUnit → LoopUnit) : (s.setLoop f).ctx.masks = s.ctx.masks := rfl
@[simp] theorem State.setLoop_ctx_sg (s : State) (f : LoopUnit → LoopUnit) : (s.setLoop f).ctx.sg = s.ctx.sg := rfl
@[simp] theorem State.setLoop_ctx_ctl (s : State) (f : LoopUnit → LoopUnit) : (s.setLoop f).ctx.ctl = s.ctx.ctl := rfl
@[simp] theorem State.setLoop_ctx_loop (s : State) (f : LoopUnit → LoopUnit) : (s.setLoop f).ctx.loop = f s.ctx.loop := rfl
@[simp] theorem State.setLoop_ctx_ri (s : State) (f : LoopUnit → LoopUnit) : (s.setLoop f).ctx.ri = s.ctx.ri := rfl
@[simp] theorem State.setLoop_ctx_ro (s : State) (f : LoopUnit → LoopUnit) : (s.setLoop f).ctx.ro = s.ctx.ro := rfl
@[simp] theorem State.setLoop_ctx_mx (s : State) (f : LoopUnit → LoopUnit) : (s.setLoop f).ctx.mx = s.ctx.mx := rfl
@[simp] theorem State.setLoop_ctx_cmds (s : State) (f : LoopUnit → LoopUnit) : (s.setLoop f).ctx.cmds = s.ctx.cmds := rfl
@[simp] theorem State.setLoop_ctx_cmdSeq (s : State) (f : LoopUnit → LoopUnit) : (s.setLoop f).ctx.cmdSeq = s.ctx.cmdSeq := rfl
@[simp] theorem State.setLoop_ctx_fifos (s : State) (f : LoopUnit → LoopUnit) : (s.setLoop f).ctx.fifos = s.ctx.fifos := rfl
@[simp] theorem State.setLoop_ctx_binds (s : State) (f : LoopUnit → LoopUnit) : (s.setLoop f).ctx.binds = s.ctx.binds := rfl
@[simp] theorem State.setLoop_ctx_vatom (s : State) (f : LoopUnit → LoopUnit) : (s.setLoop f).ctx.vatom = s.ctx.vatom := rfl
@[simp] theorem State.setLoop_ctx_posted (s : State) (f : LoopUnit → LoopUnit) : (s.setLoop f).ctx.posted = s.ctx.posted := rfl
@[simp] theorem State.setLoop_ctx_postSeq (s : State) (f : LoopUnit → LoopUnit) : (s.setLoop f).ctx.postSeq = s.ctx.postSeq := rfl
@[simp] theorem State.setLoop_ctx_peer (s : State) (f : LoopUnit → LoopUnit) : (s.setLoop f).ctx.peer = s.ctx.peer := rfl
@[simp] theorem State.setLoop_ctx_busy (s : State) (f : LoopUnit → LoopUnit) : (s.setLoop f).ctx.busy = s.ctx.busy := rfl
@[simp] theorem State.setLoop_ctx_lastLoad (s : State) (f : LoopUnit → LoopUnit) : (s.setLoop f).ctx.lastLoad = s.ctx.lastLoad := rfl
@[simp] theorem State.setLoop_ctx_sinceSafe (s : State) (f : LoopUnit → LoopUnit) : (s.setLoop f).ctx.sinceSafe = s.ctx.sinceSafe := rfl
@[simp] theorem State.setLoop_ctx_barrierCount (s : State) (f : LoopUnit → LoopUnit) : (s.setLoop f).ctx.barrierCount = s.ctx.barrierCount := rfl
@[simp] theorem State.setLoop_ctx_atBarrier (s : State) (f : LoopUnit → LoopUnit) : (s.setLoop f).ctx.atBarrier = s.ctx.atBarrier := rfl
@[simp] theorem State.setLoop_ctx_ending (s : State) (f : LoopUnit → LoopUnit) : (s.setLoop f).ctx.ending = s.ctx.ending := rfl
@[simp] theorem State.setLoop_ctx_asid (s : State) (f : LoopUnit → LoopUnit) : (s.setLoop f).ctx.asid = s.ctx.asid := rfl
@[simp] theorem State.setLoop_ctx_root (s : State) (f : LoopUnit → LoopUnit) : (s.setLoop f).ctx.root = s.ctx.root := rfl
@[simp] theorem State.setLoop_ctx_job (s : State) (f : LoopUnit → LoopUnit) : (s.setLoop f).ctx.job = s.ctx.job := rfl
@[simp] theorem State.setLoop_ctx_inPlaceHalt (s : State) (f : LoopUnit → LoopUnit) : (s.setLoop f).ctx.inPlaceHalt = s.ctx.inPlaceHalt := rfl
@[simp] theorem State.setLoop_ctx_haltIdx (s : State) (f : LoopUnit → LoopUnit) : (s.setLoop f).ctx.haltIdx = s.ctx.haltIdx := rfl
@[simp] theorem State.setLoop_ctx_snapWait (s : State) (f : LoopUnit → LoopUnit) : (s.setLoop f).ctx.snapWait = s.ctx.snapWait := rfl

/-! ## State.updRing -/
@[simp] theorem State.updRing_here (s : State) (r : Ring) (f : RingSt → RingSt) : (s.updRing r f).here = s.here := rfl
@[simp] theorem State.updRing_core (s : State) (r : Ring) (f : RingSt → RingSt) : (s.updRing r f).core = s.core := rfl
@[simp] theorem State.updRing_clu (s : State) (r : Ring) (f : RingSt → RingSt) : (s.updRing r f).clu = s.clu := rfl
@[simp] theorem State.updRing_ctxs (s : State) (r : Ring) (f : RingSt → RingSt) : (s.updRing r f).ctxs = s.ctxs := rfl
@[simp] theorem State.updRing_cores (s : State) (r : Ring) (f : RingSt → RingSt) : (s.updRing r f).cores = s.cores := rfl
@[simp] theorem State.updRing_clus (s : State) (r : Ring) (f : RingSt → RingSt) : (s.updRing r f).clus = s.clus := rfl
@[simp] theorem State.updRing_dev (s : State) (r : Ring) (f : RingSt → RingSt) : (s.updRing r f).dev = s.dev := rfl
@[simp] theorem State.updRing_turns (s : State) (r : Ring) (f : RingSt → RingSt) : (s.updRing r f).turns = s.turns := rfl
@[simp] theorem State.updRing_ir (s : State) (r : Ring) (f : RingSt → RingSt) : (s.updRing r f).ir = s.ir := rfl
@[simp] theorem State.updRing_tick (s : State) (r : Ring) (f : RingSt → RingSt) : (s.updRing r f).tick = s.tick := rfl
@[simp] theorem State.updRing_ctx_status (s : State) (r : Ring) (f : RingSt → RingSt) : (s.updRing r f).ctx.status = s.ctx.status := by simp [State.updRing]
@[simp] theorem State.updRing_ctx_pc (s : State) (r : Ring) (f : RingSt → RingSt) : (s.updRing r f).ctx.pc = s.ctx.pc := by simp [State.updRing]
@[simp] theorem State.updRing_ctx_regs (s : State) (r : Ring) (f : RingSt → RingSt) : (s.updRing r f).ctx.regs = s.ctx.regs := by simp [State.updRing]
@[simp] theorem State.updRing_ctx_pois (s : State) (r : Ring) (f : RingSt → RingSt) : (s.updRing r f).ctx.pois = s.ctx.pois := by simp [State.updRing]
@[simp] theorem State.updRing_ctx_masks (s : State) (r : Ring) (f : RingSt → RingSt) : (s.updRing r f).ctx.masks = s.ctx.masks := by simp [State.updRing]
@[simp] theorem State.updRing_ctx_sg (s : State) (r : Ring) (f : RingSt → RingSt) : (s.updRing r f).ctx.sg = s.ctx.sg := by simp [State.updRing]
@[simp] theorem State.updRing_ctx_ctl (s : State) (r : Ring) (f : RingSt → RingSt) : (s.updRing r f).ctx.ctl = s.ctx.ctl := by simp [State.updRing]
@[simp] theorem State.updRing_ctx_loop (s : State) (r : Ring) (f : RingSt → RingSt) : (s.updRing r f).ctx.loop = s.ctx.loop := by simp [State.updRing]
@[simp] theorem State.updRing_ctx_cmds (s : State) (r : Ring) (f : RingSt → RingSt) : (s.updRing r f).ctx.cmds = s.ctx.cmds := by simp [State.updRing]
@[simp] theorem State.updRing_ctx_cmdSeq (s : State) (r : Ring) (f : RingSt → RingSt) : (s.updRing r f).ctx.cmdSeq = s.ctx.cmdSeq := by simp [State.updRing]
@[simp] theorem State.updRing_ctx_fifos (s : State) (r : Ring) (f : RingSt → RingSt) : (s.updRing r f).ctx.fifos = s.ctx.fifos := by simp [State.updRing]
@[simp] theorem State.updRing_ctx_binds (s : State) (r : Ring) (f : RingSt → RingSt) : (s.updRing r f).ctx.binds = s.ctx.binds := by simp [State.updRing]
@[simp] theorem State.updRing_ctx_vatom (s : State) (r : Ring) (f : RingSt → RingSt) : (s.updRing r f).ctx.vatom = s.ctx.vatom := by simp [State.updRing]
@[simp] theorem State.updRing_ctx_posted (s : State) (r : Ring) (f : RingSt → RingSt) : (s.updRing r f).ctx.posted = s.ctx.posted := by simp [State.updRing]
@[simp] theorem State.updRing_ctx_postSeq (s : State) (r : Ring) (f : RingSt → RingSt) : (s.updRing r f).ctx.postSeq = s.ctx.postSeq := by simp [State.updRing]
@[simp] theorem State.updRing_ctx_peer (s : State) (r : Ring) (f : RingSt → RingSt) : (s.updRing r f).ctx.peer = s.ctx.peer := by simp [State.updRing]
@[simp] theorem State.updRing_ctx_busy (s : State) (r : Ring) (f : RingSt → RingSt) : (s.updRing r f).ctx.busy = s.ctx.busy := by simp [State.updRing]
@[simp] theorem State.updRing_ctx_lastLoad (s : State) (r : Ring) (f : RingSt → RingSt) : (s.updRing r f).ctx.lastLoad = s.ctx.lastLoad := by simp [State.updRing]
@[simp] theorem State.updRing_ctx_sinceSafe (s : State) (r : Ring) (f : RingSt → RingSt) : (s.updRing r f).ctx.sinceSafe = s.ctx.sinceSafe := by simp [State.updRing]
@[simp] theorem State.updRing_ctx_barrierCount (s : State) (r : Ring) (f : RingSt → RingSt) : (s.updRing r f).ctx.barrierCount = s.ctx.barrierCount := by simp [State.updRing]
@[simp] theorem State.updRing_ctx_atBarrier (s : State) (r : Ring) (f : RingSt → RingSt) : (s.updRing r f).ctx.atBarrier = s.ctx.atBarrier := by simp [State.updRing]
@[simp] theorem State.updRing_ctx_ending (s : State) (r : Ring) (f : RingSt → RingSt) : (s.updRing r f).ctx.ending = s.ctx.ending := by simp [State.updRing]
@[simp] theorem State.updRing_ctx_asid (s : State) (r : Ring) (f : RingSt → RingSt) : (s.updRing r f).ctx.asid = s.ctx.asid := by simp [State.updRing]
@[simp] theorem State.updRing_ctx_root (s : State) (r : Ring) (f : RingSt → RingSt) : (s.updRing r f).ctx.root = s.ctx.root := by simp [State.updRing]
@[simp] theorem State.updRing_ctx_job (s : State) (r : Ring) (f : RingSt → RingSt) : (s.updRing r f).ctx.job = s.ctx.job := by simp [State.updRing]
@[simp] theorem State.updRing_ctx_inPlaceHalt (s : State) (r : Ring) (f : RingSt → RingSt) : (s.updRing r f).ctx.inPlaceHalt = s.ctx.inPlaceHalt := by simp [State.updRing]
@[simp] theorem State.updRing_ctx_haltIdx (s : State) (r : Ring) (f : RingSt → RingSt) : (s.updRing r f).ctx.haltIdx = s.ctx.haltIdx := by simp [State.updRing]
@[simp] theorem State.updRing_ctx_snapWait (s : State) (r : Ring) (f : RingSt → RingSt) : (s.updRing r f).ctx.snapWait = s.ctx.snapWait := by simp [State.updRing]

/-! ## State.post -/
@[simp] theorem State.post_here (s : State) (r : Posted) : (s.post r).here = s.here := rfl
@[simp] theorem State.post_core (s : State) (r : Posted) : (s.post r).core = s.core := rfl
@[simp] theorem State.post_clu (s : State) (r : Posted) : (s.post r).clu = s.clu := rfl
@[simp] theorem State.post_ctxs (s : State) (r : Posted) : (s.post r).ctxs = s.ctxs := rfl
@[simp] theorem State.post_cores (s : State) (r : Posted) : (s.post r).cores = s.cores := rfl
@[simp] theorem State.post_clus (s : State) (r : Posted) : (s.post r).clus = s.clus := rfl
@[simp] theorem State.post_dev (s : State) (r : Posted) : (s.post r).dev = s.dev := rfl
@[simp] theorem State.post_turns (s : State) (r : Posted) : (s.post r).turns = s.turns := rfl
@[simp] theorem State.post_ir (s : State) (r : Posted) : (s.post r).ir = s.ir := rfl
@[simp] theorem State.post_tick (s : State) (r : Posted) : (s.post r).tick = s.tick := rfl
@[simp] theorem State.post_ctx_status (s : State) (r : Posted) : (s.post r).ctx.status = s.ctx.status := rfl
@[simp] theorem State.post_ctx_pc (s : State) (r : Posted) : (s.post r).ctx.pc = s.ctx.pc := rfl
@[simp] theorem State.post_ctx_regs (s : State) (r : Posted) : (s.post r).ctx.regs = s.ctx.regs := rfl
@[simp] theorem State.post_ctx_pois (s : State) (r : Posted) : (s.post r).ctx.pois = s.ctx.pois := rfl
@[simp] theorem State.post_ctx_masks (s : State) (r : Posted) : (s.post r).ctx.masks = s.ctx.masks := rfl
@[simp] theorem State.post_ctx_sg (s : State) (r : Posted) : (s.post r).ctx.sg = s.ctx.sg := rfl
@[simp] theorem State.post_ctx_ctl (s : State) (r : Posted) : (s.post r).ctx.ctl = s.ctx.ctl := rfl
@[simp] theorem State.post_ctx_loop (s : State) (r : Posted) : (s.post r).ctx.loop = s.ctx.loop := rfl
@[simp] theorem State.post_ctx_ri (s : State) (r : Posted) : (s.post r).ctx.ri = s.ctx.ri := rfl
@[simp] theorem State.post_ctx_ro (s : State) (r : Posted) : (s.post r).ctx.ro = s.ctx.ro := rfl
@[simp] theorem State.post_ctx_mx (s : State) (r : Posted) : (s.post r).ctx.mx = s.ctx.mx := rfl
@[simp] theorem State.post_ctx_cmds (s : State) (r : Posted) : (s.post r).ctx.cmds = s.ctx.cmds := rfl
@[simp] theorem State.post_ctx_cmdSeq (s : State) (r : Posted) : (s.post r).ctx.cmdSeq = s.ctx.cmdSeq := rfl
@[simp] theorem State.post_ctx_fifos (s : State) (r : Posted) : (s.post r).ctx.fifos = s.ctx.fifos := rfl
@[simp] theorem State.post_ctx_binds (s : State) (r : Posted) : (s.post r).ctx.binds = s.ctx.binds := rfl
@[simp] theorem State.post_ctx_vatom (s : State) (r : Posted) : (s.post r).ctx.vatom = s.ctx.vatom := rfl
@[simp] theorem State.post_ctx_posted (s : State) (r : Posted) : (s.post r).ctx.posted = s.ctx.posted ++ [r] := rfl
@[simp] theorem State.post_ctx_postSeq (s : State) (r : Posted) : (s.post r).ctx.postSeq = s.ctx.postSeq := rfl
@[simp] theorem State.post_ctx_peer (s : State) (r : Posted) : (s.post r).ctx.peer = s.ctx.peer := rfl
@[simp] theorem State.post_ctx_busy (s : State) (r : Posted) : (s.post r).ctx.busy = s.ctx.busy := rfl
@[simp] theorem State.post_ctx_lastLoad (s : State) (r : Posted) : (s.post r).ctx.lastLoad = s.ctx.lastLoad := rfl
@[simp] theorem State.post_ctx_sinceSafe (s : State) (r : Posted) : (s.post r).ctx.sinceSafe = s.ctx.sinceSafe := rfl
@[simp] theorem State.post_ctx_barrierCount (s : State) (r : Posted) : (s.post r).ctx.barrierCount = s.ctx.barrierCount := rfl
@[simp] theorem State.post_ctx_atBarrier (s : State) (r : Posted) : (s.post r).ctx.atBarrier = s.ctx.atBarrier := rfl
@[simp] theorem State.post_ctx_ending (s : State) (r : Posted) : (s.post r).ctx.ending = s.ctx.ending := rfl
@[simp] theorem State.post_ctx_asid (s : State) (r : Posted) : (s.post r).ctx.asid = s.ctx.asid := rfl
@[simp] theorem State.post_ctx_root (s : State) (r : Posted) : (s.post r).ctx.root = s.ctx.root := rfl
@[simp] theorem State.post_ctx_job (s : State) (r : Posted) : (s.post r).ctx.job = s.ctx.job := rfl
@[simp] theorem State.post_ctx_inPlaceHalt (s : State) (r : Posted) : (s.post r).ctx.inPlaceHalt = s.ctx.inPlaceHalt := rfl
@[simp] theorem State.post_ctx_haltIdx (s : State) (r : Posted) : (s.post r).ctx.haltIdx = s.ctx.haltIdx := rfl
@[simp] theorem State.post_ctx_snapWait (s : State) (r : Posted) : (s.post r).ctx.snapWait = s.ctx.snapWait := rfl

/-! ## State.setFifo -/
@[simp] theorem State.setFifo_here (s : State) (k n : Nat) : (s.setFifo k n).here = s.here := rfl
@[simp] theorem State.setFifo_core (s : State) (k n : Nat) : (s.setFifo k n).core = s.core := rfl
@[simp] theorem State.setFifo_clu (s : State) (k n : Nat) : (s.setFifo k n).clu = s.clu := rfl
@[simp] theorem State.setFifo_ctxs (s : State) (k n : Nat) : (s.setFifo k n).ctxs = s.ctxs := rfl
@[simp] theorem State.setFifo_cores (s : State) (k n : Nat) : (s.setFifo k n).cores = s.cores := rfl
@[simp] theorem State.setFifo_clus (s : State) (k n : Nat) : (s.setFifo k n).clus = s.clus := rfl
@[simp] theorem State.setFifo_dev (s : State) (k n : Nat) : (s.setFifo k n).dev = s.dev := rfl
@[simp] theorem State.setFifo_turns (s : State) (k n : Nat) : (s.setFifo k n).turns = s.turns := rfl
@[simp] theorem State.setFifo_ir (s : State) (k n : Nat) : (s.setFifo k n).ir = s.ir := rfl
@[simp] theorem State.setFifo_tick (s : State) (k n : Nat) : (s.setFifo k n).tick = s.tick := rfl
@[simp] theorem State.setFifo_ctx_status (s : State) (k n : Nat) : (s.setFifo k n).ctx.status = s.ctx.status := rfl
@[simp] theorem State.setFifo_ctx_pc (s : State) (k n : Nat) : (s.setFifo k n).ctx.pc = s.ctx.pc := rfl
@[simp] theorem State.setFifo_ctx_regs (s : State) (k n : Nat) : (s.setFifo k n).ctx.regs = s.ctx.regs := rfl
@[simp] theorem State.setFifo_ctx_pois (s : State) (k n : Nat) : (s.setFifo k n).ctx.pois = s.ctx.pois := rfl
@[simp] theorem State.setFifo_ctx_masks (s : State) (k n : Nat) : (s.setFifo k n).ctx.masks = s.ctx.masks := rfl
@[simp] theorem State.setFifo_ctx_sg (s : State) (k n : Nat) : (s.setFifo k n).ctx.sg = s.ctx.sg := rfl
@[simp] theorem State.setFifo_ctx_ctl (s : State) (k n : Nat) : (s.setFifo k n).ctx.ctl = s.ctx.ctl := rfl
@[simp] theorem State.setFifo_ctx_loop (s : State) (k n : Nat) : (s.setFifo k n).ctx.loop = s.ctx.loop := rfl
@[simp] theorem State.setFifo_ctx_ri (s : State) (k n : Nat) : (s.setFifo k n).ctx.ri = s.ctx.ri := rfl
@[simp] theorem State.setFifo_ctx_ro (s : State) (k n : Nat) : (s.setFifo k n).ctx.ro = s.ctx.ro := rfl
@[simp] theorem State.setFifo_ctx_mx (s : State) (k n : Nat) : (s.setFifo k n).ctx.mx = s.ctx.mx := rfl
@[simp] theorem State.setFifo_ctx_cmds (s : State) (k n : Nat) : (s.setFifo k n).ctx.cmds = s.ctx.cmds := rfl
@[simp] theorem State.setFifo_ctx_cmdSeq (s : State) (k n : Nat) : (s.setFifo k n).ctx.cmdSeq = s.ctx.cmdSeq := rfl
@[simp] theorem State.setFifo_ctx_fifos (s : State) (k n : Nat) : (s.setFifo k n).ctx.fifos = updAt s.ctx.fifos k fun _ => n := rfl
@[simp] theorem State.setFifo_ctx_binds (s : State) (k n : Nat) : (s.setFifo k n).ctx.binds = s.ctx.binds := rfl
@[simp] theorem State.setFifo_ctx_vatom (s : State) (k n : Nat) : (s.setFifo k n).ctx.vatom = s.ctx.vatom := rfl
@[simp] theorem State.setFifo_ctx_posted (s : State) (k n : Nat) : (s.setFifo k n).ctx.posted = s.ctx.posted := rfl
@[simp] theorem State.setFifo_ctx_postSeq (s : State) (k n : Nat) : (s.setFifo k n).ctx.postSeq = s.ctx.postSeq := rfl
@[simp] theorem State.setFifo_ctx_peer (s : State) (k n : Nat) : (s.setFifo k n).ctx.peer = s.ctx.peer := rfl
@[simp] theorem State.setFifo_ctx_busy (s : State) (k n : Nat) : (s.setFifo k n).ctx.busy = s.ctx.busy := rfl
@[simp] theorem State.setFifo_ctx_lastLoad (s : State) (k n : Nat) : (s.setFifo k n).ctx.lastLoad = s.ctx.lastLoad := rfl
@[simp] theorem State.setFifo_ctx_sinceSafe (s : State) (k n : Nat) : (s.setFifo k n).ctx.sinceSafe = s.ctx.sinceSafe := rfl
@[simp] theorem State.setFifo_ctx_barrierCount (s : State) (k n : Nat) : (s.setFifo k n).ctx.barrierCount = s.ctx.barrierCount := rfl
@[simp] theorem State.setFifo_ctx_atBarrier (s : State) (k n : Nat) : (s.setFifo k n).ctx.atBarrier = s.ctx.atBarrier := rfl
@[simp] theorem State.setFifo_ctx_ending (s : State) (k n : Nat) : (s.setFifo k n).ctx.ending = s.ctx.ending := rfl
@[simp] theorem State.setFifo_ctx_asid (s : State) (k n : Nat) : (s.setFifo k n).ctx.asid = s.ctx.asid := rfl
@[simp] theorem State.setFifo_ctx_root (s : State) (k n : Nat) : (s.setFifo k n).ctx.root = s.ctx.root := rfl
@[simp] theorem State.setFifo_ctx_job (s : State) (k n : Nat) : (s.setFifo k n).ctx.job = s.ctx.job := rfl
@[simp] theorem State.setFifo_ctx_inPlaceHalt (s : State) (k n : Nat) : (s.setFifo k n).ctx.inPlaceHalt = s.ctx.inPlaceHalt := rfl
@[simp] theorem State.setFifo_ctx_haltIdx (s : State) (k n : Nat) : (s.setFifo k n).ctx.haltIdx = s.ctx.haltIdx := rfl
@[simp] theorem State.setFifo_ctx_snapWait (s : State) (k n : Nat) : (s.setFifo k n).ctx.snapWait = s.ctx.snapWait := rfl

/-! ## State.setLevels -/
@[simp] theorem State.setLevels_here (s : State) (ls : List Level) : (s.setLevels ls).here = s.here := rfl
@[simp] theorem State.setLevels_core (s : State) (ls : List Level) : (s.setLevels ls).core = s.core := rfl
@[simp] theorem State.setLevels_clu (s : State) (ls : List Level) : (s.setLevels ls).clu = s.clu := rfl
@[simp] theorem State.setLevels_ctxs (s : State) (ls : List Level) : (s.setLevels ls).ctxs = s.ctxs := rfl
@[simp] theorem State.setLevels_cores (s : State) (ls : List Level) : (s.setLevels ls).cores = s.cores := rfl
@[simp] theorem State.setLevels_clus (s : State) (ls : List Level) : (s.setLevels ls).clus = s.clus := rfl
@[simp] theorem State.setLevels_dev (s : State) (ls : List Level) : (s.setLevels ls).dev = s.dev := rfl
@[simp] theorem State.setLevels_turns (s : State) (ls : List Level) : (s.setLevels ls).turns = s.turns := rfl
@[simp] theorem State.setLevels_ir (s : State) (ls : List Level) : (s.setLevels ls).ir = s.ir := rfl
@[simp] theorem State.setLevels_tick (s : State) (ls : List Level) : (s.setLevels ls).tick = s.tick := rfl
@[simp] theorem State.setLevels_ctx_status (s : State) (ls : List Level) : (s.setLevels ls).ctx.status = s.ctx.status := rfl
@[simp] theorem State.setLevels_ctx_pc (s : State) (ls : List Level) : (s.setLevels ls).ctx.pc = s.ctx.pc := rfl
@[simp] theorem State.setLevels_ctx_regs (s : State) (ls : List Level) : (s.setLevels ls).ctx.regs = s.ctx.regs := rfl
@[simp] theorem State.setLevels_ctx_pois (s : State) (ls : List Level) : (s.setLevels ls).ctx.pois = s.ctx.pois := rfl
@[simp] theorem State.setLevels_ctx_masks (s : State) (ls : List Level) : (s.setLevels ls).ctx.masks = s.ctx.masks := rfl
@[simp] theorem State.setLevels_ctx_sg (s : State) (ls : List Level) : (s.setLevels ls).ctx.sg = s.ctx.sg := rfl
@[simp] theorem State.setLevels_ctx_ctl (s : State) (ls : List Level) : (s.setLevels ls).ctx.ctl = s.ctx.ctl := rfl
@[simp] theorem State.setLevels_ctx_loop (s : State) (ls : List Level) : (s.setLevels ls).ctx.loop = { s.ctx.loop with levels := ls } := rfl
@[simp] theorem State.setLevels_ctx_ri (s : State) (ls : List Level) : (s.setLevels ls).ctx.ri = s.ctx.ri := rfl
@[simp] theorem State.setLevels_ctx_ro (s : State) (ls : List Level) : (s.setLevels ls).ctx.ro = s.ctx.ro := rfl
@[simp] theorem State.setLevels_ctx_mx (s : State) (ls : List Level) : (s.setLevels ls).ctx.mx = s.ctx.mx := rfl
@[simp] theorem State.setLevels_ctx_cmds (s : State) (ls : List Level) : (s.setLevels ls).ctx.cmds = s.ctx.cmds := rfl
@[simp] theorem State.setLevels_ctx_cmdSeq (s : State) (ls : List Level) : (s.setLevels ls).ctx.cmdSeq = s.ctx.cmdSeq := rfl
@[simp] theorem State.setLevels_ctx_fifos (s : State) (ls : List Level) : (s.setLevels ls).ctx.fifos = s.ctx.fifos := rfl
@[simp] theorem State.setLevels_ctx_binds (s : State) (ls : List Level) : (s.setLevels ls).ctx.binds = s.ctx.binds := rfl
@[simp] theorem State.setLevels_ctx_vatom (s : State) (ls : List Level) : (s.setLevels ls).ctx.vatom = s.ctx.vatom := rfl
@[simp] theorem State.setLevels_ctx_posted (s : State) (ls : List Level) : (s.setLevels ls).ctx.posted = s.ctx.posted := rfl
@[simp] theorem State.setLevels_ctx_postSeq (s : State) (ls : List Level) : (s.setLevels ls).ctx.postSeq = s.ctx.postSeq := rfl
@[simp] theorem State.setLevels_ctx_peer (s : State) (ls : List Level) : (s.setLevels ls).ctx.peer = s.ctx.peer := rfl
@[simp] theorem State.setLevels_ctx_busy (s : State) (ls : List Level) : (s.setLevels ls).ctx.busy = s.ctx.busy := rfl
@[simp] theorem State.setLevels_ctx_lastLoad (s : State) (ls : List Level) : (s.setLevels ls).ctx.lastLoad = s.ctx.lastLoad := rfl
@[simp] theorem State.setLevels_ctx_sinceSafe (s : State) (ls : List Level) : (s.setLevels ls).ctx.sinceSafe = s.ctx.sinceSafe := rfl
@[simp] theorem State.setLevels_ctx_barrierCount (s : State) (ls : List Level) : (s.setLevels ls).ctx.barrierCount = s.ctx.barrierCount := rfl
@[simp] theorem State.setLevels_ctx_atBarrier (s : State) (ls : List Level) : (s.setLevels ls).ctx.atBarrier = s.ctx.atBarrier := rfl
@[simp] theorem State.setLevels_ctx_ending (s : State) (ls : List Level) : (s.setLevels ls).ctx.ending = s.ctx.ending := rfl
@[simp] theorem State.setLevels_ctx_asid (s : State) (ls : List Level) : (s.setLevels ls).ctx.asid = s.ctx.asid := rfl
@[simp] theorem State.setLevels_ctx_root (s : State) (ls : List Level) : (s.setLevels ls).ctx.root = s.ctx.root := rfl
@[simp] theorem State.setLevels_ctx_job (s : State) (ls : List Level) : (s.setLevels ls).ctx.job = s.ctx.job := rfl
@[simp] theorem State.setLevels_ctx_inPlaceHalt (s : State) (ls : List Level) : (s.setLevels ls).ctx.inPlaceHalt = s.ctx.inPlaceHalt := rfl
@[simp] theorem State.setLevels_ctx_haltIdx (s : State) (ls : List Level) : (s.setLevels ls).ctx.haltIdx = s.ctx.haltIdx := rfl
@[simp] theorem State.setLevels_ctx_snapWait (s : State) (ls : List Level) : (s.setLevels ls).ctx.snapWait = s.ctx.snapWait := rfl

/-! ## State.setSg0 -/
@[simp] theorem State.setSg0_here (s : State) (b : Bool) : (s.setSg0 b).here = s.here := rfl
@[simp] theorem State.setSg0_core (s : State) (b : Bool) : (s.setSg0 b).core = s.core := rfl
@[simp] theorem State.setSg0_clu (s : State) (b : Bool) : (s.setSg0 b).clu = s.clu := rfl
@[simp] theorem State.setSg0_ctxs (s : State) (b : Bool) : (s.setSg0 b).ctxs = s.ctxs := rfl
@[simp] theorem State.setSg0_cores (s : State) (b : Bool) : (s.setSg0 b).cores = s.cores := rfl
@[simp] theorem State.setSg0_clus (s : State) (b : Bool) : (s.setSg0 b).clus = s.clus := rfl
@[simp] theorem State.setSg0_dev (s : State) (b : Bool) : (s.setSg0 b).dev = s.dev := rfl
@[simp] theorem State.setSg0_turns (s : State) (b : Bool) : (s.setSg0 b).turns = s.turns := rfl
@[simp] theorem State.setSg0_ir (s : State) (b : Bool) : (s.setSg0 b).ir = s.ir := rfl
@[simp] theorem State.setSg0_tick (s : State) (b : Bool) : (s.setSg0 b).tick = s.tick := rfl
@[simp] theorem State.setSg0_ctx_status (s : State) (b : Bool) : (s.setSg0 b).ctx.status = s.ctx.status := rfl
@[simp] theorem State.setSg0_ctx_pc (s : State) (b : Bool) : (s.setSg0 b).ctx.pc = s.ctx.pc := rfl
@[simp] theorem State.setSg0_ctx_regs (s : State) (b : Bool) : (s.setSg0 b).ctx.regs = s.ctx.regs := rfl
@[simp] theorem State.setSg0_ctx_pois (s : State) (b : Bool) : (s.setSg0 b).ctx.pois = s.ctx.pois := rfl
@[simp] theorem State.setSg0_ctx_masks (s : State) (b : Bool) : (s.setSg0 b).ctx.masks = s.ctx.masks := rfl
@[simp] theorem State.setSg0_ctx_sg (s : State) (b : Bool) : (s.setSg0 b).ctx.sg = putBit s.ctx.sg s.ctx.ctl.vrb.toNat b := rfl
@[simp] theorem State.setSg0_ctx_ctl (s : State) (b : Bool) : (s.setSg0 b).ctx.ctl = s.ctx.ctl := rfl
@[simp] theorem State.setSg0_ctx_loop (s : State) (b : Bool) : (s.setSg0 b).ctx.loop = s.ctx.loop := rfl
@[simp] theorem State.setSg0_ctx_ri (s : State) (b : Bool) : (s.setSg0 b).ctx.ri = s.ctx.ri := rfl
@[simp] theorem State.setSg0_ctx_ro (s : State) (b : Bool) : (s.setSg0 b).ctx.ro = s.ctx.ro := rfl
@[simp] theorem State.setSg0_ctx_mx (s : State) (b : Bool) : (s.setSg0 b).ctx.mx = s.ctx.mx := rfl
@[simp] theorem State.setSg0_ctx_cmds (s : State) (b : Bool) : (s.setSg0 b).ctx.cmds = s.ctx.cmds := rfl
@[simp] theorem State.setSg0_ctx_cmdSeq (s : State) (b : Bool) : (s.setSg0 b).ctx.cmdSeq = s.ctx.cmdSeq := rfl
@[simp] theorem State.setSg0_ctx_fifos (s : State) (b : Bool) : (s.setSg0 b).ctx.fifos = s.ctx.fifos := rfl
@[simp] theorem State.setSg0_ctx_binds (s : State) (b : Bool) : (s.setSg0 b).ctx.binds = s.ctx.binds := rfl
@[simp] theorem State.setSg0_ctx_vatom (s : State) (b : Bool) : (s.setSg0 b).ctx.vatom = s.ctx.vatom := rfl
@[simp] theorem State.setSg0_ctx_posted (s : State) (b : Bool) : (s.setSg0 b).ctx.posted = s.ctx.posted := rfl
@[simp] theorem State.setSg0_ctx_postSeq (s : State) (b : Bool) : (s.setSg0 b).ctx.postSeq = s.ctx.postSeq := rfl
@[simp] theorem State.setSg0_ctx_peer (s : State) (b : Bool) : (s.setSg0 b).ctx.peer = s.ctx.peer := rfl
@[simp] theorem State.setSg0_ctx_busy (s : State) (b : Bool) : (s.setSg0 b).ctx.busy = s.ctx.busy := rfl
@[simp] theorem State.setSg0_ctx_lastLoad (s : State) (b : Bool) : (s.setSg0 b).ctx.lastLoad = s.ctx.lastLoad := rfl
@[simp] theorem State.setSg0_ctx_sinceSafe (s : State) (b : Bool) : (s.setSg0 b).ctx.sinceSafe = s.ctx.sinceSafe := rfl
@[simp] theorem State.setSg0_ctx_barrierCount (s : State) (b : Bool) : (s.setSg0 b).ctx.barrierCount = s.ctx.barrierCount := rfl
@[simp] theorem State.setSg0_ctx_atBarrier (s : State) (b : Bool) : (s.setSg0 b).ctx.atBarrier = s.ctx.atBarrier := rfl
@[simp] theorem State.setSg0_ctx_ending (s : State) (b : Bool) : (s.setSg0 b).ctx.ending = s.ctx.ending := rfl
@[simp] theorem State.setSg0_ctx_asid (s : State) (b : Bool) : (s.setSg0 b).ctx.asid = s.ctx.asid := rfl
@[simp] theorem State.setSg0_ctx_root (s : State) (b : Bool) : (s.setSg0 b).ctx.root = s.ctx.root := rfl
@[simp] theorem State.setSg0_ctx_job (s : State) (b : Bool) : (s.setSg0 b).ctx.job = s.ctx.job := rfl
@[simp] theorem State.setSg0_ctx_inPlaceHalt (s : State) (b : Bool) : (s.setSg0 b).ctx.inPlaceHalt = s.ctx.inPlaceHalt := rfl
@[simp] theorem State.setSg0_ctx_haltIdx (s : State) (b : Bool) : (s.setSg0 b).ctx.haltIdx = s.ctx.haltIdx := rfl
@[simp] theorem State.setSg0_ctx_snapWait (s : State) (b : Bool) : (s.setSg0 b).ctx.snapWait = s.ctx.snapWait := rfl

/-! ## State.queue -/
@[simp] theorem State.queue_here (s : State) (t : Turn) : (s.queue t).here = s.here := rfl
@[simp] theorem State.queue_ctx (s : State) (t : Turn) : (s.queue t).ctx = s.ctx := rfl
@[simp] theorem State.queue_core (s : State) (t : Turn) : (s.queue t).core = s.core := rfl
@[simp] theorem State.queue_clu (s : State) (t : Turn) : (s.queue t).clu = s.clu := rfl
@[simp] theorem State.queue_ctxs (s : State) (t : Turn) : (s.queue t).ctxs = s.ctxs := rfl
@[simp] theorem State.queue_cores (s : State) (t : Turn) : (s.queue t).cores = s.cores := rfl
@[simp] theorem State.queue_clus (s : State) (t : Turn) : (s.queue t).clus = s.clus := rfl
@[simp] theorem State.queue_dev (s : State) (t : Turn) : (s.queue t).dev = s.dev := rfl
@[simp] theorem State.queue_ir (s : State) (t : Turn) : (s.queue t).ir = s.ir := rfl
@[simp] theorem State.queue_tick (s : State) (t : Turn) : (s.queue t).tick = s.tick := rfl

/-! ## State.later -/
@[simp] theorem State.later_here (s : State) (e : Ev) : (s.later e).here = s.here := by unfold State.later; split <;> rfl
@[simp] theorem State.later_ctx (s : State) (e : Ev) : (s.later e).ctx = s.ctx := by unfold State.later; split <;> rfl
@[simp] theorem State.later_core (s : State) (e : Ev) : (s.later e).core = s.core := by unfold State.later; split <;> rfl
@[simp] theorem State.later_clu (s : State) (e : Ev) : (s.later e).clu = s.clu := by unfold State.later; split <;> rfl
@[simp] theorem State.later_ctxs (s : State) (e : Ev) : (s.later e).ctxs = s.ctxs := by unfold State.later; split <;> rfl
@[simp] theorem State.later_cores (s : State) (e : Ev) : (s.later e).cores = s.cores := by unfold State.later; split <;> rfl
@[simp] theorem State.later_clus (s : State) (e : Ev) : (s.later e).clus = s.clus := by unfold State.later; split <;> rfl
@[simp] theorem State.later_dev (s : State) (e : Ev) : (s.later e).dev = s.dev := by unfold State.later; split <;> rfl
@[simp] theorem State.later_ir (s : State) (e : Ev) : (s.later e).ir = s.ir := by unfold State.later; split <;> rfl
@[simp] theorem State.later_tick (s : State) (e : Ev) : (s.later e).tick = s.tick := by unfold State.later; split <;> rfl

/-! ## State.bump -/
@[simp] theorem State.bump_here (s : State) : (s.bump ).here = s.here := rfl
@[simp] theorem State.bump_ctx (s : State) : (s.bump ).ctx = s.ctx := rfl
@[simp] theorem State.bump_core (s : State) : (s.bump ).core = s.core := rfl
@[simp] theorem State.bump_clu (s : State) : (s.bump ).clu = s.clu := rfl
@[simp] theorem State.bump_ctxs (s : State) : (s.bump ).ctxs = s.ctxs := rfl
@[simp] theorem State.bump_cores (s : State) : (s.bump ).cores = s.cores := rfl
@[simp] theorem State.bump_clus (s : State) : (s.bump ).clus = s.clus := rfl
@[simp] theorem State.bump_dev (s : State) : (s.bump ).dev = s.dev := rfl
@[simp] theorem State.bump_turns (s : State) : (s.bump ).turns = s.turns := rfl
@[simp] theorem State.bump_ir (s : State) : (s.bump ).ir = s.ir := rfl

/-! ## State.setSem -/
@[simp] theorem State.setSem_here (s : State) (k n : Nat) : (s.setSem k n).here = s.here := rfl
@[simp] theorem State.setSem_ctx (s : State) (k n : Nat) : (s.setSem k n).ctx = s.ctx := rfl
@[simp] theorem State.setSem_clu (s : State) (k n : Nat) : (s.setSem k n).clu = s.clu := rfl
@[simp] theorem State.setSem_ctxs (s : State) (k n : Nat) : (s.setSem k n).ctxs = s.ctxs := rfl
@[simp] theorem State.setSem_cores (s : State) (k n : Nat) : (s.setSem k n).cores = s.cores := rfl
@[simp] theorem State.setSem_clus (s : State) (k n : Nat) : (s.setSem k n).clus = s.clus := rfl
@[simp] theorem State.setSem_dev (s : State) (k n : Nat) : (s.setSem k n).dev = s.dev := rfl
@[simp] theorem State.setSem_turns (s : State) (k n : Nat) : (s.setSem k n).turns = s.turns := rfl
@[simp] theorem State.setSem_ir (s : State) (k n : Nat) : (s.setSem k n).ir = s.ir := rfl
@[simp] theorem State.setSem_tick (s : State) (k n : Nat) : (s.setSem k n).tick = s.tick := rfl

/-! ## State.setPsem -/
@[simp] theorem State.setPsem_here (s : State) (k n : Nat) : (s.setPsem k n).here = s.here := rfl
@[simp] theorem State.setPsem_ctx (s : State) (k n : Nat) : (s.setPsem k n).ctx = s.ctx := rfl
@[simp] theorem State.setPsem_core (s : State) (k n : Nat) : (s.setPsem k n).core = s.core := rfl
@[simp] theorem State.setPsem_ctxs (s : State) (k n : Nat) : (s.setPsem k n).ctxs = s.ctxs := rfl
@[simp] theorem State.setPsem_cores (s : State) (k n : Nat) : (s.setPsem k n).cores = s.cores := rfl
@[simp] theorem State.setPsem_clus (s : State) (k n : Nat) : (s.setPsem k n).clus = s.clus := rfl
@[simp] theorem State.setPsem_dev (s : State) (k n : Nat) : (s.setPsem k n).dev = s.dev := rfl
@[simp] theorem State.setPsem_turns (s : State) (k n : Nat) : (s.setPsem k n).turns = s.turns := rfl
@[simp] theorem State.setPsem_ir (s : State) (k n : Nat) : (s.setPsem k n).ir = s.ir := rfl
@[simp] theorem State.setPsem_tick (s : State) (k n : Nat) : (s.setPsem k n).tick = s.tick := rfl

/-! ## State.countIssue -/
@[simp] theorem State.countIssue_here (s : State) : (s.countIssue ).here = s.here := by unfold State.countIssue; split <;> rfl
@[simp] theorem State.countIssue_core (s : State) : (s.countIssue ).core = s.core := by unfold State.countIssue; split <;> rfl
@[simp] theorem State.countIssue_clu (s : State) : (s.countIssue ).clu = s.clu := by unfold State.countIssue; split <;> rfl
@[simp] theorem State.countIssue_ctxs (s : State) : (s.countIssue ).ctxs = s.ctxs := by unfold State.countIssue; split <;> rfl
@[simp] theorem State.countIssue_cores (s : State) : (s.countIssue ).cores = s.cores := by unfold State.countIssue; split <;> rfl
@[simp] theorem State.countIssue_clus (s : State) : (s.countIssue ).clus = s.clus := by unfold State.countIssue; split <;> rfl
@[simp] theorem State.countIssue_dev (s : State) : (s.countIssue ).dev = s.dev := by unfold State.countIssue; split <;> rfl
@[simp] theorem State.countIssue_turns (s : State) : (s.countIssue ).turns = s.turns := by unfold State.countIssue; split <;> rfl
@[simp] theorem State.countIssue_ir (s : State) : (s.countIssue ).ir = s.ir := by unfold State.countIssue; split <;> rfl
@[simp] theorem State.countIssue_tick (s : State) : (s.countIssue ).tick = s.tick := by unfold State.countIssue; split <;> rfl
@[simp] theorem State.countIssue_ctx_status (s : State) : (s.countIssue ).ctx.status = s.ctx.status := by unfold State.countIssue; split <;> rfl
@[simp] theorem State.countIssue_ctx_pc (s : State) : (s.countIssue ).ctx.pc = s.ctx.pc := by unfold State.countIssue; split <;> rfl
@[simp] theorem State.countIssue_ctx_regs (s : State) : (s.countIssue ).ctx.regs = s.ctx.regs := by unfold State.countIssue; split <;> rfl
@[simp] theorem State.countIssue_ctx_pois (s : State) : (s.countIssue ).ctx.pois = s.ctx.pois := by unfold State.countIssue; split <;> rfl
@[simp] theorem State.countIssue_ctx_masks (s : State) : (s.countIssue ).ctx.masks = s.ctx.masks := by unfold State.countIssue; split <;> rfl
@[simp] theorem State.countIssue_ctx_sg (s : State) : (s.countIssue ).ctx.sg = s.ctx.sg := by unfold State.countIssue; split <;> rfl
@[simp] theorem State.countIssue_ctx_ctl (s : State) : (s.countIssue ).ctx.ctl = s.ctx.ctl := by unfold State.countIssue; split <;> rfl
@[simp] theorem State.countIssue_ctx_loop (s : State) : (s.countIssue ).ctx.loop = s.ctx.loop := by unfold State.countIssue; split <;> rfl
@[simp] theorem State.countIssue_ctx_ri (s : State) : (s.countIssue ).ctx.ri = s.ctx.ri := by unfold State.countIssue; split <;> rfl
@[simp] theorem State.countIssue_ctx_ro (s : State) : (s.countIssue ).ctx.ro = s.ctx.ro := by unfold State.countIssue; split <;> rfl
@[simp] theorem State.countIssue_ctx_mx (s : State) : (s.countIssue ).ctx.mx = s.ctx.mx := by unfold State.countIssue; split <;> rfl
@[simp] theorem State.countIssue_ctx_cmds (s : State) : (s.countIssue ).ctx.cmds = s.ctx.cmds := by unfold State.countIssue; split <;> rfl
@[simp] theorem State.countIssue_ctx_cmdSeq (s : State) : (s.countIssue ).ctx.cmdSeq = s.ctx.cmdSeq := by unfold State.countIssue; split <;> rfl
@[simp] theorem State.countIssue_ctx_fifos (s : State) : (s.countIssue ).ctx.fifos = s.ctx.fifos := by unfold State.countIssue; split <;> rfl
@[simp] theorem State.countIssue_ctx_binds (s : State) : (s.countIssue ).ctx.binds = s.ctx.binds := by unfold State.countIssue; split <;> rfl
@[simp] theorem State.countIssue_ctx_vatom (s : State) : (s.countIssue ).ctx.vatom = s.ctx.vatom := by unfold State.countIssue; split <;> rfl
@[simp] theorem State.countIssue_ctx_posted (s : State) : (s.countIssue ).ctx.posted = s.ctx.posted := by unfold State.countIssue; split <;> rfl
@[simp] theorem State.countIssue_ctx_postSeq (s : State) : (s.countIssue ).ctx.postSeq = s.ctx.postSeq := by unfold State.countIssue; split <;> rfl
@[simp] theorem State.countIssue_ctx_peer (s : State) : (s.countIssue ).ctx.peer = s.ctx.peer := by unfold State.countIssue; split <;> rfl
@[simp] theorem State.countIssue_ctx_busy (s : State) : (s.countIssue ).ctx.busy = s.ctx.busy := by unfold State.countIssue; split <;> rfl
@[simp] theorem State.countIssue_ctx_lastLoad (s : State) : (s.countIssue ).ctx.lastLoad = s.ctx.lastLoad := by unfold State.countIssue; split <;> rfl
@[simp] theorem State.countIssue_ctx_barrierCount (s : State) : (s.countIssue ).ctx.barrierCount = s.ctx.barrierCount := by unfold State.countIssue; split <;> rfl
@[simp] theorem State.countIssue_ctx_atBarrier (s : State) : (s.countIssue ).ctx.atBarrier = s.ctx.atBarrier := by unfold State.countIssue; split <;> rfl
@[simp] theorem State.countIssue_ctx_ending (s : State) : (s.countIssue ).ctx.ending = s.ctx.ending := by unfold State.countIssue; split <;> rfl
@[simp] theorem State.countIssue_ctx_asid (s : State) : (s.countIssue ).ctx.asid = s.ctx.asid := by unfold State.countIssue; split <;> rfl
@[simp] theorem State.countIssue_ctx_root (s : State) : (s.countIssue ).ctx.root = s.ctx.root := by unfold State.countIssue; split <;> rfl
@[simp] theorem State.countIssue_ctx_inPlaceHalt (s : State) : (s.countIssue ).ctx.inPlaceHalt = s.ctx.inPlaceHalt := by unfold State.countIssue; split <;> rfl
@[simp] theorem State.countIssue_ctx_haltIdx (s : State) : (s.countIssue ).ctx.haltIdx = s.ctx.haltIdx := by unfold State.countIssue; split <;> rfl
@[simp] theorem State.countIssue_ctx_snapWait (s : State) : (s.countIssue ).ctx.snapWait = s.ctx.snapWait := by unfold State.countIssue; split <;> rfl

/-! ## Registers -/

@[simp] theorem Ctx.reg_zero (c : Ctx) : c.reg 0 = 0 := rfl
@[simp] theorem Ctx.regPoison_zero (c : Ctx) : c.regPoison 0 = false := rfl
@[simp] theorem Ctx.setReg_zero (c : Ctx) (v : Word) (p : Bool) : c.setReg 0 v p = c := rfl

theorem Ctx.reg_setReg_same (c : Ctx) (n : BitVec 5) (v : Word) (p : Bool) (h : n ≠ 0) : (c.setReg n v p).reg n = v := by
  simp only [Ctx.setReg, Ctx.reg, h, if_false]
  exact Vector.getElem_set_self ..

theorem Ctx.reg_setReg_ne (c : Ctx) (n m : BitVec 5) (v : Word) (p : Bool) (h : m ≠ n) : (c.setReg n v p).reg m = c.reg m := by
  unfold Ctx.setReg Ctx.reg
  split
  · rfl
  · split
    · rfl
    · exact Vector.getElem_set_ne n.isLt m.isLt fun e => h (BitVec.eq_of_toNat_eq e.symm)

/-- A bit put into a word reads back; every other bit is as before. -/
theorem getLsbD_putBit {w : Nat} (x : BitVec w) (k j : Nat) (b : Bool) (hk : k < w) :
    (putBit x k b).getLsbD j = if j = k then b else x.getLsbD j := by
  have hp : (BitVec.ofNat w (2 ^ k)).getLsbD j = (decide (j < w) && decide (k = j)) := by
    rw [BitVec.getLsbD_ofNat, Nat.testBit_two_pow]
  unfold putBit
  by_cases h : j = k
  · subst h
    cases b
    · rw [if_neg (by decide), BitVec.getLsbD_and, BitVec.getLsbD_not, hp]; simp
    · rw [if_pos rfl, BitVec.getLsbD_or, hp]; simp [hk]
  · have hkj : decide (k = j) = false := decide_eq_false fun e => h e.symm
    rcases Nat.lt_or_ge j w with hj | hj
    · cases b
      · rw [if_neg (by decide), BitVec.getLsbD_and, BitVec.getLsbD_not, hp]; simp [hj, hkj, h]
      · rw [if_pos rfl, BitVec.getLsbD_or, hp]; simp [hkj, h]
    · rw [if_neg h, BitVec.getLsbD_of_ge _ _ hj, BitVec.getLsbD_of_ge _ _ hj]

theorem Ctx.regPoison_setReg_same (c : Ctx) (n : BitVec 5) (v : Word) (p : Bool) (h : n ≠ 0) :
    (c.setReg n v p).regPoison n = p := by
  have hn : (n != 0) = true := by simpa using h
  unfold Ctx.setReg Ctx.regPoison
  rw [if_neg h, hn, getLsbD_putBit _ _ _ _ n.isLt, if_pos rfl, Bool.true_and]

theorem Ctx.regPoison_setReg_ne (c : Ctx) (n m : BitVec 5) (v : Word) (p : Bool) (h : m ≠ n) :
    (c.setReg n v p).regPoison m = c.regPoison m := by
  unfold Ctx.setReg Ctx.regPoison
  split
  · rfl
  · have : m.toNat ≠ n.toNat := fun e => h (BitVec.eq_of_toNat_eq e)
    simp [getLsbD_putBit _ _ _ _ n.isLt, this]

end Sys2Proof.Machine
end

