-- ==== Sys2Proof/Laws/Ops.lean ====
section
/-!
SUPPORT. What the shared operations can do, said once for each: the ends of an instruction, traps, register checks,
physical reads, the retirement of an instruction, and the shape of a step.
-/
namespace Sys2Proof.Machine

/-! ## The end of an instruction -/

@[simp] theorem finish_ok (s : State) : finish (.ok s) = .next s.retire := rfl
@[simp] theorem finish_trap (s : State) (c : BitVec 10) (i : BitVec 22) (v : Word) :
    finish (.error (.trap s c i v)) = .next (s.takeTrap c i v) := rfl
@[simp] theorem finish_stall (s : State) : finish (.error (.stall s)) = .next s.stallOn := rfl
@[simp] theorem finishAt_ok (s : State) : finishAt (.ok s) = .next s := rfl
@[simp] theorem finishAt_trap (s : State) (c : BitVec 10) (i : BitVec 22) (v : Word) :
    finishAt (.error (.trap s c i v)) = .next (s.takeTrap c i v) := rfl
@[simp] theorem finishAt_stall (s : State) : finishAt (.error (.stall s)) = .next s.stallOn := rfl

/-- Whatever the course of an instruction, it ends in a next state. -/
theorem finish_next (c : Course) : ∃ t : State, finish c = .next t := by
  rcases c with (⟨s, c, i, v⟩ | s) | s <;> exact ⟨_, rfl⟩

theorem finishAt_next (c : Course) : ∃ t : State, finishAt c = .next t := by
  rcases c with (⟨s, c, i, v⟩ | s) | s <;> exact ⟨_, rfl⟩

/-! ## Register checks -/

theorem needClean_clean {s : State} {n : BitVec 5} (h : s.regPoison n = false) : s.needClean n = .ok () := by
  simp [State.needClean, h]

theorem needClean_poisoned {s : State} {n : BitVec 5} (h : s.regPoison n = true) :
    s.needClean n = s.trapWord causePoisonConsumed n.toNat := by
  simp [State.needClean, h]

theorem needClean2_clean {s : State} {a b : BitVec 5} (ha : s.regPoison a = false) (hb : s.regPoison b = false) :
    s.needClean2 a b = .ok () := by
  simp [State.needClean2, ha, needClean_clean hb]

/-! ## Traps -/

/-- Everything that taking a trap can do (08 R287, R288; 12 R398; 13 R409, R410). -/
theorem takeTrapAt_cases (s : State) (c : BitVec 10) (i : BitVec 22) (v p : Word) :
    (s.onWorker = true ∧ s.takeTrapAt c i v p = s.killTask stPrologueFault c i s.ctx.pc)
    ∨ (s.onWorker = false ∧ s.kernel = true ∧ s.takeTrapAt c i v p
        = s.killTask (if c = causePoisonConsumed then stPoisoned else stTaskFailed) c i s.ctx.pc)
    ∨ (s.onWorker = false ∧ s.kernel = false ∧ c = causePoisonConsumed ∧ s.takeTrapAt c i v p = s.poisonCourse i)
    ∨ (s.onWorker = false ∧ s.kernel = false ∧ c ≠ causePoisonConsumed ∧ s.ctx.ctl.tvec = 0
        ∧ s.takeTrapAt c i v p = s.killTask stTaskFailed c i s.ctx.pc)
    ∨ (s.onWorker = false ∧ s.kernel = false ∧ c ≠ causePoisonConsumed ∧ s.ctx.ctl.tvec ≠ 0
        ∧ s.takeTrapAt c i v p = s.enterTrap c i v p) := by
  unfold State.takeTrapAt
  split
  · exact .inl ⟨‹_›, rfl⟩
  · have hw : s.onWorker = false := by simpa using ‹¬s.onWorker = true›
    split
    · exact .inr (.inl ⟨hw, ‹_›, rfl⟩)
    · have hk : s.kernel = false := by simpa using ‹¬s.kernel = true›
      split
      · exact .inr (.inr (.inl ⟨hw, hk, ‹_›, rfl⟩))
      · split
        · exact .inr (.inr (.inr (.inl ⟨hw, hk, ‹_›, ‹_›, rfl⟩)))
        · exact .inr (.inr (.inr (.inr ⟨hw, hk, ‹_›, ‹_›, rfl⟩)))

/-- The end of a task that a trap brings about leaves everything but the context's state and the agenda. -/
theorem killTask_keeps (s : State) (st : BitVec 8) (c : BitVec 10) (i : BitVec 22) (v : Word) :
    (s.killTask st c i v).dev = s.dev ∧ (s.killTask st c i v).core = s.core ∧ (s.killTask st c i v).ctxs = s.ctxs
      ∧ (s.killTask st c i v).ctx = { s.ctx with status := .stalled, ending := some (.killed st c i v) } := by
  unfold State.killTask
  exact ⟨by simp, by simp, by simp, by rw [State.later_ctx]⟩

/-! ## Retirement -/

/-- Outside the end of a body an instruction that retires is counted and the PC moves on. -/
theorem retire_outside {s : State} (h : s.atBodyEnd = false) : s.retire = s.countIssue.setPc (s.ctx.pc + 4) := by
  have hb : s.countIssue.atBodyEnd = s.atBodyEnd := by
    unfold State.atBodyEnd State.kernel
    simp
  unfold State.retire
  simp [hb, h]

/-- A jump that closes no level. -/
theorem jump_open (s : State) (target : Word) : s.jump target false = s.countIssue.setPc target := rfl

/-! ## Physical reads -/

@[simp] theorem readPhys_ctx (s : State) (pa n : Nat) (leaf : BitVec 64) : (s.readPhys pa n leaf).1.ctx = s.ctx := rfl
@[simp] theorem readPhys_core (s : State) (pa n : Nat) (leaf : BitVec 64) : (s.readPhys pa n leaf).1.core = s.core := rfl
@[simp] theorem readPhys_clu (s : State) (pa n : Nat) (leaf : BitVec 64) : (s.readPhys pa n leaf).1.clu = s.clu := rfl
@[simp] theorem readPhys_here (s : State) (pa n : Nat) (leaf : BitVec 64) : (s.readPhys pa n leaf).1.here = s.here := rfl
@[simp] theorem readPhys_ctxs (s : State) (pa n : Nat) (leaf : BitVec 64) : (s.readPhys pa n leaf).1.ctxs = s.ctxs := rfl
@[simp] theorem readPhys_cores (s : State) (pa n : Nat) (leaf : BitVec 64) : (s.readPhys pa n leaf).1.cores = s.cores := rfl
@[simp] theorem readPhys_clus (s : State) (pa n : Nat) (leaf : BitVec 64) : (s.readPhys pa n leaf).1.clus = s.clus := rfl
@[simp] theorem readPhys_turns (s : State) (pa n : Nat) (leaf : BitVec 64) : (s.readPhys pa n leaf).1.turns = s.turns := rfl

/-! ## A step -/

/-- A step of a powered device with a turn on its agenda runs that turn. -/
theorem step_turn {s : State} {t : Turn} {rest : List Turn} (hp : s.dev.powered = true) (ht : s.turns = t :: rest) :
    step s = settle (t.run { s.elapse with turns := rest }) := by
  have he : s.elapse.turns = t :: rest := ht
  unfold step
  rw [if_pos hp, State.runNext, he]

/-- A step of a powered device whose agenda is empty runs what is in focus. -/
theorem step_idle {s : State} (hp : s.dev.powered = true) (ht : s.turns = []) : step s = settle s.elapse.runIdle := by
  have he : s.elapse.turns = [] := ht
  unfold step
  rw [if_pos hp, State.runNext, he]

/-- A step that settles to a next state ran to one. -/
theorem settle_next {o : Outcome} {t : State} (h : settle o = .next t) : ∃ x : State, o = .next x ∧ t = x.reportLines.rotate := by
  unfold settle at h
  split at h
  · exact ⟨_, rfl, by injection h with h; exact h.symm⟩
  · rename_i hx
    exact absurd h (hx t)

end Sys2Proof.Machine
end

