-- ==== Sys2Proof/Laws/PerInstr.lean ====
section
/-!
SUPPORT. Claims about every instruction as syntax, one lemma per constructor. Family Encoding: a row that is a word of the
stream (03 R84) is no engine command (03 R98).
-/
namespace Sys2Proof.Laws.Encoding
open Sys2Proof

/-- An instruction with a 32-bit word has no ring and no command words. -/
def Statement (i : Instr) : Prop := (encode i).isSome = true → encodeCommand i = none

theorem add : ∀ x0 x1 x2 x3 x4 x5, Statement (.add x0 x1 x2 x3 x4 x5) := fun _ _ _ _ _ _ _ => rfl
theorem sub : ∀ x0 x1 x2 x3 x4 x5, Statement (.sub x0 x1 x2 x3 x4 x5) := fun _ _ _ _ _ _ _ => rfl
theorem mul : ∀ x0 x1 x2 x3 x4 x5, Statement (.mul x0 x1 x2 x3 x4 x5) := fun _ _ _ _ _ _ _ => rfl
theorem mulh : ∀ x0 x1 x2 x3 x4, Statement (.mulh x0 x1 x2 x3 x4) := fun _ _ _ _ _ _ => rfl
theorem div : ∀ x0 x1 x2 x3 x4 x5, Statement (.div x0 x1 x2 x3 x4 x5) := fun _ _ _ _ _ _ _ => rfl
theorem rem : ∀ x0 x1 x2 x3 x4, Statement (.rem x0 x1 x2 x3 x4) := fun _ _ _ _ _ _ => rfl
theorem min : ∀ x0 x1 x2 x3 x4, Statement (.min x0 x1 x2 x3 x4) := fun _ _ _ _ _ _ => rfl
theorem max : ∀ x0 x1 x2 x3 x4, Statement (.max x0 x1 x2 x3 x4) := fun _ _ _ _ _ _ => rfl
theorem and : ∀ x0 x1 x2 x3 x4, Statement (.and x0 x1 x2 x3 x4) := fun _ _ _ _ _ _ => rfl
theorem or : ∀ x0 x1 x2 x3 x4, Statement (.or x0 x1 x2 x3 x4) := fun _ _ _ _ _ _ => rfl
theorem xor : ∀ x0 x1 x2 x3 x4, Statement (.xor x0 x1 x2 x3 x4) := fun _ _ _ _ _ _ => rfl
theorem andn : ∀ x0 x1 x2 x3 x4, Statement (.andn x0 x1 x2 x3 x4) := fun _ _ _ _ _ _ => rfl
theorem shl : ∀ x0 x1 x2 x3 x4, Statement (.shl x0 x1 x2 x3 x4) := fun _ _ _ _ _ _ => rfl
theorem shr : ∀ x0 x1 x2 x3 x4, Statement (.shr x0 x1 x2 x3 x4) := fun _ _ _ _ _ _ => rfl
theorem ror : ∀ x0 x1 x2 x3 x4, Statement (.ror x0 x1 x2 x3 x4) := fun _ _ _ _ _ _ => rfl
theorem clz : ∀ x0 x1 x2 x3, Statement (.clz x0 x1 x2 x3) := fun _ _ _ _ _ => rfl
theorem popc : ∀ x0 x1 x2 x3, Statement (.popc x0 x1 x2 x3) := fun _ _ _ _ _ => rfl
theorem abs : ∀ x0 x1 x2 x3 x4, Statement (.abs x0 x1 x2 x3 x4) := fun _ _ _ _ _ _ => rfl
theorem neg : ∀ x0 x1 x2 x3 x4, Statement (.neg x0 x1 x2 x3 x4) := fun _ _ _ _ _ _ => rfl
theorem ext : ∀ x0 x1 x2 x3, Statement (.ext x0 x1 x2 x3) := fun _ _ _ _ _ => rfl
theorem madd : ∀ x0 x1 x2 x3, Statement (.madd x0 x1 x2 x3) := fun _ _ _ _ _ => rfl
theorem msub : ∀ x0 x1 x2 x3, Statement (.msub x0 x1 x2 x3) := fun _ _ _ _ _ => rfl
theorem sel : ∀ x0 x1 x2 x3, Statement (.sel x0 x1 x2 x3) := fun _ _ _ _ _ => rfl
theorem cmpEq : ∀ x0 x1 x2 x3 x4, Statement (.cmpEq x0 x1 x2 x3 x4) := fun _ _ _ _ _ _ => rfl
theorem cmpNe : ∀ x0 x1 x2 x3 x4, Statement (.cmpNe x0 x1 x2 x3 x4) := fun _ _ _ _ _ _ => rfl
theorem cmpLt : ∀ x0 x1 x2 x3 x4, Statement (.cmpLt x0 x1 x2 x3 x4) := fun _ _ _ _ _ _ => rfl
theorem cmpLe : ∀ x0 x1 x2 x3 x4, Statement (.cmpLe x0 x1 x2 x3 x4) := fun _ _ _ _ _ _ => rfl
theorem cmpGt : ∀ x0 x1 x2 x3 x4, Statement (.cmpGt x0 x1 x2 x3 x4) := fun _ _ _ _ _ _ => rfl
theorem cmpGe : ∀ x0 x1 x2 x3 x4, Statement (.cmpGe x0 x1 x2 x3 x4) := fun _ _ _ _ _ _ => rfl
theorem addi : ∀ x0 x1 x2, Statement (.addi x0 x1 x2) := fun _ _ _ _ => rfl
theorem addis : ∀ x0 x1 x2, Statement (.addis x0 x1 x2) := fun _ _ _ _ => rfl
theorem andi : ∀ x0 x1 x2, Statement (.andi x0 x1 x2) := fun _ _ _ _ => rfl
theorem ori : ∀ x0 x1 x2, Statement (.ori x0 x1 x2) := fun _ _ _ _ => rfl
theorem xori : ∀ x0 x1 x2, Statement (.xori x0 x1 x2) := fun _ _ _ _ => rfl
theorem shli : ∀ x0 x1 x2, Statement (.shli x0 x1 x2) := fun _ _ _ _ => rfl
theorem shri : ∀ x0 x1 x2, Statement (.shri x0 x1 x2) := fun _ _ _ _ => rfl
theorem srai : ∀ x0 x1 x2, Statement (.srai x0 x1 x2) := fun _ _ _ _ => rfl
theorem rori : ∀ x0 x1 x2, Statement (.rori x0 x1 x2) := fun _ _ _ _ => rfl
theorem slti : ∀ x0 x1 x2, Statement (.slti x0 x1 x2) := fun _ _ _ _ => rfl
theorem sltin : ∀ x0 x1 x2, Statement (.sltin x0 x1 x2) := fun _ _ _ _ => rfl
theorem beq : ∀ x0 x1 x2, Statement (.beq x0 x1 x2) := fun _ _ _ _ => rfl
theorem bne : ∀ x0 x1 x2, Statement (.bne x0 x1 x2) := fun _ _ _ _ => rfl
theorem blt : ∀ x0 x1 x2, Statement (.blt x0 x1 x2) := fun _ _ _ _ => rfl
theorem bge : ∀ x0 x1 x2, Statement (.bge x0 x1 x2) := fun _ _ _ _ => rfl
theorem bltn : ∀ x0 x1 x2, Statement (.bltn x0 x1 x2) := fun _ _ _ _ => rfl
theorem bgen : ∀ x0 x1 x2, Statement (.bgen x0 x1 x2) := fun _ _ _ _ => rfl
theorem btst : ∀ x0 x1 x2, Statement (.btst x0 x1 x2) := fun _ _ _ _ => rfl
theorem btstz : ∀ x0 x1 x2, Statement (.btstz x0 x1 x2) := fun _ _ _ _ => rfl
theorem j : ∀ x0, Statement (.j x0) := fun _ _ => rfl
theorem jl : ∀ x0, Statement (.jl x0) := fun _ _ => rfl
theorem jr : ∀ x0, Statement (.jr x0) := fun _ _ => rfl
theorem jlr : ∀ x0 x1, Statement (.jlr x0 x1) := fun _ _ _ => rfl
theorem loop : ∀ x0 x1, Statement (.loop x0 x1) := fun _ _ _ => rfl
theorem loopS : ∀ x0 x1 x2 x3, Statement (.loopS x0 x1 x2 x3) := fun _ _ _ _ _ => rfl
theorem ldN : ∀ x0 x1 x2 x3 x4, Statement (.ldN x0 x1 x2 x3 x4) := fun _ _ _ _ _ _ => rfl
theorem ldI : ∀ x0 x1 x2 x3 x4, Statement (.ldI x0 x1 x2 x3 x4) := fun _ _ _ _ _ _ => rfl
theorem st : ∀ x0 x1 x2 x3 x4, Statement (.st x0 x1 x2 x3 x4) := fun _ _ _ _ _ _ => rfl
theorem ldxN : ∀ x0 x1 x2 x3 x4, Statement (.ldxN x0 x1 x2 x3 x4) := fun _ _ _ _ _ _ => rfl
theorem ldxI : ∀ x0 x1 x2 x3 x4, Statement (.ldxI x0 x1 x2 x3 x4) := fun _ _ _ _ _ _ => rfl
theorem stx : ∀ x0 x1 x2 x3 x4, Statement (.stx x0 x1 x2 x3 x4) := fun _ _ _ _ _ _ => rfl
theorem ldAcq : ∀ x0 x1 x2 x3 x4, Statement (.ldAcq x0 x1 x2 x3 x4) := fun _ _ _ _ _ _ => rfl
theorem stRel : ∀ x0 x1 x2 x3 x4, Statement (.stRel x0 x1 x2 x3 x4) := fun _ _ _ _ _ _ => rfl
theorem atomSwap : ∀ x0 x1 x2 x3 x4 x5, Statement (.atomSwap x0 x1 x2 x3 x4 x5) := fun _ _ _ _ _ _ _ => rfl
theorem atomCas : ∀ x0 x1 x2 x3 x4 x5, Statement (.atomCas x0 x1 x2 x3 x4 x5) := fun _ _ _ _ _ _ _ => rfl
theorem atomAdd : ∀ x0 x1 x2 x3 x4 x5, Statement (.atomAdd x0 x1 x2 x3 x4 x5) := fun _ _ _ _ _ _ _ => rfl
theorem atomAnd : ∀ x0 x1 x2 x3 x4 x5, Statement (.atomAnd x0 x1 x2 x3 x4 x5) := fun _ _ _ _ _ _ _ => rfl
theorem atomOr : ∀ x0 x1 x2 x3 x4 x5, Statement (.atomOr x0 x1 x2 x3 x4 x5) := fun _ _ _ _ _ _ _ => rfl
theorem atomXor : ∀ x0 x1 x2 x3 x4 x5, Statement (.atomXor x0 x1 x2 x3 x4 x5) := fun _ _ _ _ _ _ _ => rfl
theorem atomMin : ∀ x0 x1 x2 x3 x4 x5, Statement (.atomMin x0 x1 x2 x3 x4 x5) := fun _ _ _ _ _ _ _ => rfl
theorem atomMax : ∀ x0 x1 x2 x3 x4 x5, Statement (.atomMax x0 x1 x2 x3 x4 x5) := fun _ _ _ _ _ _ _ => rfl
theorem atomMinn : ∀ x0 x1 x2 x3 x4 x5, Statement (.atomMinn x0 x1 x2 x3 x4 x5) := fun _ _ _ _ _ _ _ => rfl
theorem atomMaxn : ∀ x0 x1 x2 x3 x4 x5, Statement (.atomMaxn x0 x1 x2 x3 x4 x5) := fun _ _ _ _ _ _ _ => rfl
theorem atomFadd : ∀ x0 x1 x2 x3 x4, Statement (.atomFadd x0 x1 x2 x3 x4) := fun _ _ _ _ _ _ => rfl
theorem redAdd : ∀ x0 x1 x2 x3 x4 x5, Statement (.redAdd x0 x1 x2 x3 x4 x5) := fun _ _ _ _ _ _ _ => rfl
theorem redAnd : ∀ x0 x1 x2 x3 x4 x5, Statement (.redAnd x0 x1 x2 x3 x4 x5) := fun _ _ _ _ _ _ _ => rfl
theorem redOr : ∀ x0 x1 x2 x3 x4 x5, Statement (.redOr x0 x1 x2 x3 x4 x5) := fun _ _ _ _ _ _ _ => rfl
theorem redXor : ∀ x0 x1 x2 x3 x4 x5, Statement (.redXor x0 x1 x2 x3 x4 x5) := fun _ _ _ _ _ _ _ => rfl
theorem redMin : ∀ x0 x1 x2 x3 x4 x5, Statement (.redMin x0 x1 x2 x3 x4 x5) := fun _ _ _ _ _ _ _ => rfl
theorem redMax : ∀ x0 x1 x2 x3 x4 x5, Statement (.redMax x0 x1 x2 x3 x4 x5) := fun _ _ _ _ _ _ _ => rfl
theorem redMinn : ∀ x0 x1 x2 x3 x4 x5, Statement (.redMinn x0 x1 x2 x3 x4 x5) := fun _ _ _ _ _ _ _ => rfl
theorem redMaxn : ∀ x0 x1 x2 x3 x4 x5, Statement (.redMaxn x0 x1 x2 x3 x4 x5) := fun _ _ _ _ _ _ _ => rfl
theorem redFadd : ∀ x0 x1 x2 x3 x4, Statement (.redFadd x0 x1 x2 x3 x4) := fun _ _ _ _ _ _ => rfl
theorem redPerform : Statement .redPerform := fun h => nomatch (show false = true from h)
theorem vaddF32 : ∀ x0 x1 x2 x3, Statement (.vaddF32 x0 x1 x2 x3) := fun _ _ _ _ _ => rfl
theorem vsubF32 : ∀ x0 x1 x2 x3, Statement (.vsubF32 x0 x1 x2 x3) := fun _ _ _ _ _ => rfl
theorem vmulF32 : ∀ x0 x1 x2 x3, Statement (.vmulF32 x0 x1 x2 x3) := fun _ _ _ _ _ => rfl
theorem vfmaF32 : ∀ x0 x1 x2 x3, Statement (.vfmaF32 x0 x1 x2 x3) := fun _ _ _ _ _ => rfl
theorem vminF32 : ∀ x0 x1 x2 x3, Statement (.vminF32 x0 x1 x2 x3) := fun _ _ _ _ _ => rfl
theorem vmaxF32 : ∀ x0 x1 x2 x3, Statement (.vmaxF32 x0 x1 x2 x3) := fun _ _ _ _ _ => rfl
theorem vabsF32 : ∀ x0 x1 x2, Statement (.vabsF32 x0 x1 x2) := fun _ _ _ _ => rfl
theorem vnegF32 : ∀ x0 x1 x2, Statement (.vnegF32 x0 x1 x2) := fun _ _ _ _ => rfl
theorem vcmpEqF32 : ∀ x0 x1 x2 x3, Statement (.vcmpEqF32 x0 x1 x2 x3) := fun _ _ _ _ _ => rfl
theorem vcmpNeF32 : ∀ x0 x1 x2 x3, Statement (.vcmpNeF32 x0 x1 x2 x3) := fun _ _ _ _ _ => rfl
theorem vcmpLtF32 : ∀ x0 x1 x2 x3, Statement (.vcmpLtF32 x0 x1 x2 x3) := fun _ _ _ _ _ => rfl
theorem vcmpLeF32 : ∀ x0 x1 x2 x3, Statement (.vcmpLeF32 x0 x1 x2 x3) := fun _ _ _ _ _ => rfl
theorem vredSumF32 : ∀ x0 x1 x2 x3, Statement (.vredSumF32 x0 x1 x2 x3) := fun _ _ _ _ _ => rfl
theorem vredMaxF32 : ∀ x0 x1 x2 x3, Statement (.vredMaxF32 x0 x1 x2 x3) := fun _ _ _ _ _ => rfl
theorem vredMinF32 : ∀ x0 x1 x2 x3, Statement (.vredMinF32 x0 x1 x2 x3) := fun _ _ _ _ _ => rfl
theorem vaddBf16 : ∀ x0 x1 x2 x3, Statement (.vaddBf16 x0 x1 x2 x3) := fun _ _ _ _ _ => rfl
theorem vsubBf16 : ∀ x0 x1 x2 x3, Statement (.vsubBf16 x0 x1 x2 x3) := fun _ _ _ _ _ => rfl
theorem vmulBf16 : ∀ x0 x1 x2 x3, Statement (.vmulBf16 x0 x1 x2 x3) := fun _ _ _ _ _ => rfl
theorem vfmaBf16 : ∀ x0 x1 x2 x3, Statement (.vfmaBf16 x0 x1 x2 x3) := fun _ _ _ _ _ => rfl
theorem vminBf16 : ∀ x0 x1 x2 x3, Statement (.vminBf16 x0 x1 x2 x3) := fun _ _ _ _ _ => rfl
theorem vmaxBf16 : ∀ x0 x1 x2 x3, Statement (.vmaxBf16 x0 x1 x2 x3) := fun _ _ _ _ _ => rfl
theorem vabsBf16 : ∀ x0 x1 x2, Statement (.vabsBf16 x0 x1 x2) := fun _ _ _ _ => rfl
theorem vnegBf16 : ∀ x0 x1 x2, Statement (.vnegBf16 x0 x1 x2) := fun _ _ _ _ => rfl
theorem vcmpEqBf16 : ∀ x0 x1 x2 x3, Statement (.vcmpEqBf16 x0 x1 x2 x3) := fun _ _ _ _ _ => rfl
theorem vcmpNeBf16 : ∀ x0 x1 x2 x3, Statement (.vcmpNeBf16 x0 x1 x2 x3) := fun _ _ _ _ _ => rfl
theorem vcmpLtBf16 : ∀ x0 x1 x2 x3, Statement (.vcmpLtBf16 x0 x1 x2 x3) := fun _ _ _ _ _ => rfl
theorem vcmpLeBf16 : ∀ x0 x1 x2 x3, Statement (.vcmpLeBf16 x0 x1 x2 x3) := fun _ _ _ _ _ => rfl
theorem vredSumBf16 : ∀ x0 x1 x2 x3, Statement (.vredSumBf16 x0 x1 x2 x3) := fun _ _ _ _ _ => rfl
theorem vredMaxBf16 : ∀ x0 x1 x2 x3, Statement (.vredMaxBf16 x0 x1 x2 x3) := fun _ _ _ _ _ => rfl
theorem vredMinBf16 : ∀ x0 x1 x2 x3, Statement (.vredMinBf16 x0 x1 x2 x3) := fun _ _ _ _ _ => rfl
theorem vaddF16 : ∀ x0 x1 x2 x3, Statement (.vaddF16 x0 x1 x2 x3) := fun _ _ _ _ _ => rfl
theorem vsubF16 : ∀ x0 x1 x2 x3, Statement (.vsubF16 x0 x1 x2 x3) := fun _ _ _ _ _ => rfl
theorem vmulF16 : ∀ x0 x1 x2 x3, Statement (.vmulF16 x0 x1 x2 x3) := fun _ _ _ _ _ => rfl
theorem vfmaF16 : ∀ x0 x1 x2 x3, Statement (.vfmaF16 x0 x1 x2 x3) := fun _ _ _ _ _ => rfl
theorem vminF16 : ∀ x0 x1 x2 x3, Statement (.vminF16 x0 x1 x2 x3) := fun _ _ _ _ _ => rfl
theorem vmaxF16 : ∀ x0 x1 x2 x3, Statement (.vmaxF16 x0 x1 x2 x3) := fun _ _ _ _ _ => rfl
theorem vabsF16 : ∀ x0 x1 x2, Statement (.vabsF16 x0 x1 x2) := fun _ _ _ _ => rfl
theorem vnegF16 : ∀ x0 x1 x2, Statement (.vnegF16 x0 x1 x2) := fun _ _ _ _ => rfl
theorem vcmpEqF16 : ∀ x0 x1 x2 x3, Statement (.vcmpEqF16 x0 x1 x2 x3) := fun _ _ _ _ _ => rfl
theorem vcmpNeF16 : ∀ x0 x1 x2 x3, Statement (.vcmpNeF16 x0 x1 x2 x3) := fun _ _ _ _ _ => rfl
theorem vcmpLtF16 : ∀ x0 x1 x2 x3, Statement (.vcmpLtF16 x0 x1 x2 x3) := fun _ _ _ _ _ => rfl
theorem vcmpLeF16 : ∀ x0 x1 x2 x3, Statement (.vcmpLeF16 x0 x1 x2 x3) := fun _ _ _ _ _ => rfl
theorem vredSumF16 : ∀ x0 x1 x2 x3, Statement (.vredSumF16 x0 x1 x2 x3) := fun _ _ _ _ _ => rfl
theorem vredMaxF16 : ∀ x0 x1 x2 x3, Statement (.vredMaxF16 x0 x1 x2 x3) := fun _ _ _ _ _ => rfl
theorem vredMinF16 : ∀ x0 x1 x2 x3, Statement (.vredMinF16 x0 x1 x2 x3) := fun _ _ _ _ _ => rfl
theorem vaddI32 : ∀ x0 x1 x2 x3, Statement (.vaddI32 x0 x1 x2 x3) := fun _ _ _ _ _ => rfl
theorem vsubI32 : ∀ x0 x1 x2 x3, Statement (.vsubI32 x0 x1 x2 x3) := fun _ _ _ _ _ => rfl
theorem vmulI32 : ∀ x0 x1 x2 x3, Statement (.vmulI32 x0 x1 x2 x3) := fun _ _ _ _ _ => rfl
theorem vmadI32 : ∀ x0 x1 x2 x3, Statement (.vmadI32 x0 x1 x2 x3) := fun _ _ _ _ _ => rfl
theorem vminI32 : ∀ x0 x1 x2 x3, Statement (.vminI32 x0 x1 x2 x3) := fun _ _ _ _ _ => rfl
theorem vmaxI32 : ∀ x0 x1 x2 x3, Statement (.vmaxI32 x0 x1 x2 x3) := fun _ _ _ _ _ => rfl
theorem vminnI32 : ∀ x0 x1 x2 x3, Statement (.vminnI32 x0 x1 x2 x3) := fun _ _ _ _ _ => rfl
theorem vmaxnI32 : ∀ x0 x1 x2 x3, Statement (.vmaxnI32 x0 x1 x2 x3) := fun _ _ _ _ _ => rfl
theorem vcmpEqI32 : ∀ x0 x1 x2 x3, Statement (.vcmpEqI32 x0 x1 x2 x3) := fun _ _ _ _ _ => rfl
theorem vcmpNeI32 : ∀ x0 x1 x2 x3, Statement (.vcmpNeI32 x0 x1 x2 x3) := fun _ _ _ _ _ => rfl
theorem vcmpLtI32 : ∀ x0 x1 x2 x3, Statement (.vcmpLtI32 x0 x1 x2 x3) := fun _ _ _ _ _ => rfl
theorem vcmpLeI32 : ∀ x0 x1 x2 x3, Statement (.vcmpLeI32 x0 x1 x2 x3) := fun _ _ _ _ _ => rfl
theorem vcmpLtnI32 : ∀ x0 x1 x2 x3, Statement (.vcmpLtnI32 x0 x1 x2 x3) := fun _ _ _ _ _ => rfl
theorem vcmpLenI32 : ∀ x0 x1 x2 x3, Statement (.vcmpLenI32 x0 x1 x2 x3) := fun _ _ _ _ _ => rfl
theorem vabsI32 : ∀ x0 x1 x2, Statement (.vabsI32 x0 x1 x2) := fun _ _ _ _ => rfl
theorem vnegI32 : ∀ x0 x1 x2, Statement (.vnegI32 x0 x1 x2) := fun _ _ _ _ => rfl
theorem vredSumI32 : ∀ x0 x1 x2 x3, Statement (.vredSumI32 x0 x1 x2 x3) := fun _ _ _ _ _ => rfl
theorem vredMaxI32 : ∀ x0 x1 x2 x3, Statement (.vredMaxI32 x0 x1 x2 x3) := fun _ _ _ _ _ => rfl
theorem vredMinI32 : ∀ x0 x1 x2 x3, Statement (.vredMinI32 x0 x1 x2 x3) := fun _ _ _ _ _ => rfl
theorem vandI32 : ∀ x0 x1 x2 x3, Statement (.vandI32 x0 x1 x2 x3) := fun _ _ _ _ _ => rfl
theorem vorI32 : ∀ x0 x1 x2 x3, Statement (.vorI32 x0 x1 x2 x3) := fun _ _ _ _ _ => rfl
theorem vxorI32 : ∀ x0 x1 x2 x3, Statement (.vxorI32 x0 x1 x2 x3) := fun _ _ _ _ _ => rfl
theorem vshlI32 : ∀ x0 x1 x2 x3, Statement (.vshlI32 x0 x1 x2 x3) := fun _ _ _ _ _ => rfl
theorem vshrI32 : ∀ x0 x1 x2 x3, Statement (.vshrI32 x0 x1 x2 x3) := fun _ _ _ _ _ => rfl
theorem vsraI32 : ∀ x0 x1 x2 x3, Statement (.vsraI32 x0 x1 x2 x3) := fun _ _ _ _ _ => rfl
theorem vaddSatI32 : ∀ x0 x1 x2 x3, Statement (.vaddSatI32 x0 x1 x2 x3) := fun _ _ _ _ _ => rfl
theorem vsubSatI32 : ∀ x0 x1 x2 x3, Statement (.vsubSatI32 x0 x1 x2 x3) := fun _ _ _ _ _ => rfl
theorem vaddnSatI32 : ∀ x0 x1 x2 x3, Statement (.vaddnSatI32 x0 x1 x2 x3) := fun _ _ _ _ _ => rfl
theorem vsubnSatI32 : ∀ x0 x1 x2 x3, Statement (.vsubnSatI32 x0 x1 x2 x3) := fun _ _ _ _ _ => rfl
theorem vaddI16 : ∀ x0 x1 x2 x3, Statement (.vaddI16 x0 x1 x2 x3) := fun _ _ _ _ _ => rfl
theorem vsubI16 : ∀ x0 x1 x2 x3, Statement (.vsubI16 x0 x1 x2 x3) := fun _ _ _ _ _ => rfl
theorem vmulI16 : ∀ x0 x1 x2 x3, Statement (.vmulI16 x0 x1 x2 x3) := fun _ _ _ _ _ => rfl
theorem vmadI16 : ∀ x0 x1 x2 x3, Statement (.vmadI16 x0 x1 x2 x3) := fun _ _ _ _ _ => rfl
theorem vminI16 : ∀ x0 x1 x2 x3, Statement (.vminI16 x0 x1 x2 x3) := fun _ _ _ _ _ => rfl
theorem vmaxI16 : ∀ x0 x1 x2 x3, Statement (.vmaxI16 x0 x1 x2 x3) := fun _ _ _ _ _ => rfl
theorem vminnI16 : ∀ x0 x1 x2 x3, Statement (.vminnI16 x0 x1 x2 x3) := fun _ _ _ _ _ => rfl
theorem vmaxnI16 : ∀ x0 x1 x2 x3, Statement (.vmaxnI16 x0 x1 x2 x3) := fun _ _ _ _ _ => rfl
theorem vcmpEqI16 : ∀ x0 x1 x2 x3, Statement (.vcmpEqI16 x0 x1 x2 x3) := fun _ _ _ _ _ => rfl
theorem vcmpNeI16 : ∀ x0 x1 x2 x3, Statement (.vcmpNeI16 x0 x1 x2 x3) := fun _ _ _ _ _ => rfl
theorem vcmpLtI16 : ∀ x0 x1 x2 x3, Statement (.vcmpLtI16 x0 x1 x2 x3) := fun _ _ _ _ _ => rfl
theorem vcmpLeI16 : ∀ x0 x1 x2 x3, Statement (.vcmpLeI16 x0 x1 x2 x3) := fun _ _ _ _ _ => rfl
theorem vcmpLtnI16 : ∀ x0 x1 x2 x3, Statement (.vcmpLtnI16 x0 x1 x2 x3) := fun _ _ _ _ _ => rfl
theorem vcmpLenI16 : ∀ x0 x1 x2 x3, Statement (.vcmpLenI16 x0 x1 x2 x3) := fun _ _ _ _ _ => rfl
theorem vabsI16 : ∀ x0 x1 x2, Statement (.vabsI16 x0 x1 x2) := fun _ _ _ _ => rfl
theorem vnegI16 : ∀ x0 x1 x2, Statement (.vnegI16 x0 x1 x2) := fun _ _ _ _ => rfl
theorem vredSumI16 : ∀ x0 x1 x2 x3, Statement (.vredSumI16 x0 x1 x2 x3) := fun _ _ _ _ _ => rfl
theorem vredMaxI16 : ∀ x0 x1 x2 x3, Statement (.vredMaxI16 x0 x1 x2 x3) := fun _ _ _ _ _ => rfl
theorem vredMinI16 : ∀ x0 x1 x2 x3, Statement (.vredMinI16 x0 x1 x2 x3) := fun _ _ _ _ _ => rfl
theorem vandI16 : ∀ x0 x1 x2 x3, Statement (.vandI16 x0 x1 x2 x3) := fun _ _ _ _ _ => rfl
theorem vorI16 : ∀ x0 x1 x2 x3, Statement (.vorI16 x0 x1 x2 x3) := fun _ _ _ _ _ => rfl
theorem vxorI16 : ∀ x0 x1 x2 x3, Statement (.vxorI16 x0 x1 x2 x3) := fun _ _ _ _ _ => rfl
theorem vshlI16 : ∀ x0 x1 x2 x3, Statement (.vshlI16 x0 x1 x2 x3) := fun _ _ _ _ _ => rfl
theorem vshrI16 : ∀ x0 x1 x2 x3, Statement (.vshrI16 x0 x1 x2 x3) := fun _ _ _ _ _ => rfl
theorem vsraI16 : ∀ x0 x1 x2 x3, Statement (.vsraI16 x0 x1 x2 x3) := fun _ _ _ _ _ => rfl
theorem vaddSatI16 : ∀ x0 x1 x2 x3, Statement (.vaddSatI16 x0 x1 x2 x3) := fun _ _ _ _ _ => rfl
theorem vsubSatI16 : ∀ x0 x1 x2 x3, Statement (.vsubSatI16 x0 x1 x2 x3) := fun _ _ _ _ _ => rfl
theorem vaddnSatI16 : ∀ x0 x1 x2 x3, Statement (.vaddnSatI16 x0 x1 x2 x3) := fun _ _ _ _ _ => rfl
theorem vsubnSatI16 : ∀ x0 x1 x2 x3, Statement (.vsubnSatI16 x0 x1 x2 x3) := fun _ _ _ _ _ => rfl
theorem vaddI8 : ∀ x0 x1 x2 x3, Statement (.vaddI8 x0 x1 x2 x3) := fun _ _ _ _ _ => rfl
theorem vsubI8 : ∀ x0 x1 x2 x3, Statement (.vsubI8 x0 x1 x2 x3) := fun _ _ _ _ _ => rfl
theorem vmulI8 : ∀ x0 x1 x2 x3, Statement (.vmulI8 x0 x1 x2 x3) := fun _ _ _ _ _ => rfl
theorem vmadI8 : ∀ x0 x1 x2 x3, Statement (.vmadI8 x0 x1 x2 x3) := fun _ _ _ _ _ => rfl
theorem vminI8 : ∀ x0 x1 x2 x3, Statement (.vminI8 x0 x1 x2 x3) := fun _ _ _ _ _ => rfl
theorem vmaxI8 : ∀ x0 x1 x2 x3, Statement (.vmaxI8 x0 x1 x2 x3) := fun _ _ _ _ _ => rfl
theorem vminnI8 : ∀ x0 x1 x2 x3, Statement (.vminnI8 x0 x1 x2 x3) := fun _ _ _ _ _ => rfl
theorem vmaxnI8 : ∀ x0 x1 x2 x3, Statement (.vmaxnI8 x0 x1 x2 x3) := fun _ _ _ _ _ => rfl
theorem vcmpEqI8 : ∀ x0 x1 x2 x3, Statement (.vcmpEqI8 x0 x1 x2 x3) := fun _ _ _ _ _ => rfl
theorem vcmpNeI8 : ∀ x0 x1 x2 x3, Statement (.vcmpNeI8 x0 x1 x2 x3) := fun _ _ _ _ _ => rfl
theorem vcmpLtI8 : ∀ x0 x1 x2 x3, Statement (.vcmpLtI8 x0 x1 x2 x3) := fun _ _ _ _ _ => rfl
theorem vcmpLeI8 : ∀ x0 x1 x2 x3, Statement (.vcmpLeI8 x0 x1 x2 x3) := fun _ _ _ _ _ => rfl
theorem vcmpLtnI8 : ∀ x0 x1 x2 x3, Statement (.vcmpLtnI8 x0 x1 x2 x3) := fun _ _ _ _ _ => rfl
theorem vcmpLenI8 : ∀ x0 x1 x2 x3, Statement (.vcmpLenI8 x0 x1 x2 x3) := fun _ _ _ _ _ => rfl
theorem vabsI8 : ∀ x0 x1 x2, Statement (.vabsI8 x0 x1 x2) := fun _ _ _ _ => rfl
theorem vnegI8 : ∀ x0 x1 x2, Statement (.vnegI8 x0 x1 x2) := fun _ _ _ _ => rfl
theorem vredSumI8 : ∀ x0 x1 x2 x3, Statement (.vredSumI8 x0 x1 x2 x3) := fun _ _ _ _ _ => rfl
theorem vredMaxI8 : ∀ x0 x1 x2 x3, Statement (.vredMaxI8 x0 x1 x2 x3) := fun _ _ _ _ _ => rfl
theorem vredMinI8 : ∀ x0 x1 x2 x3, Statement (.vredMinI8 x0 x1 x2 x3) := fun _ _ _ _ _ => rfl
theorem vandI8 : ∀ x0 x1 x2 x3, Statement (.vandI8 x0 x1 x2 x3) := fun _ _ _ _ _ => rfl
theorem vorI8 : ∀ x0 x1 x2 x3, Statement (.vorI8 x0 x1 x2 x3) := fun _ _ _ _ _ => rfl
theorem vxorI8 : ∀ x0 x1 x2 x3, Statement (.vxorI8 x0 x1 x2 x3) := fun _ _ _ _ _ => rfl
theorem vshlI8 : ∀ x0 x1 x2 x3, Statement (.vshlI8 x0 x1 x2 x3) := fun _ _ _ _ _ => rfl
theorem vshrI8 : ∀ x0 x1 x2 x3, Statement (.vshrI8 x0 x1 x2 x3) := fun _ _ _ _ _ => rfl
theorem vsraI8 : ∀ x0 x1 x2 x3, Statement (.vsraI8 x0 x1 x2 x3) := fun _ _ _ _ _ => rfl
theorem vaddSatI8 : ∀ x0 x1 x2 x3, Statement (.vaddSatI8 x0 x1 x2 x3) := fun _ _ _ _ _ => rfl
theorem vsubSatI8 : ∀ x0 x1 x2 x3, Statement (.vsubSatI8 x0 x1 x2 x3) := fun _ _ _ _ _ => rfl
theorem vaddnSatI8 : ∀ x0 x1 x2 x3, Statement (.vaddnSatI8 x0 x1 x2 x3) := fun _ _ _ _ _ => rfl
theorem vsubnSatI8 : ∀ x0 x1 x2 x3, Statement (.vsubnSatI8 x0 x1 x2 x3) := fun _ _ _ _ _ => rfl
theorem vcvtF32 : ∀ x0 x1 x2, Statement (.vcvtF32 x0 x1 x2) := fun _ _ _ _ => rfl
theorem vcvtBf16 : ∀ x0 x1 x2, Statement (.vcvtBf16 x0 x1 x2) := fun _ _ _ _ => rfl
theorem vcvtF16 : ∀ x0 x1 x2, Statement (.vcvtF16 x0 x1 x2) := fun _ _ _ _ => rfl
theorem vcvtI32 : ∀ x0 x1 x2, Statement (.vcvtI32 x0 x1 x2) := fun _ _ _ _ => rfl
theorem vcvtI16 : ∀ x0 x1 x2, Statement (.vcvtI16 x0 x1 x2) := fun _ _ _ _ => rfl
theorem vcvtI8 : ∀ x0 x1 x2, Statement (.vcvtI8 x0 x1 x2) := fun _ _ _ _ => rfl
theorem vcvtE4m3 : ∀ x0 x1 x2, Statement (.vcvtE4m3 x0 x1 x2) := fun _ _ _ _ => rfl
theorem vcvtE5m2 : ∀ x0 x1 x2, Statement (.vcvtE5m2 x0 x1 x2) := fun _ _ _ _ => rfl
theorem vcvtPF32 : ∀ x0 x1 x2 x3, Statement (.vcvtPF32 x0 x1 x2 x3) := fun _ _ _ _ _ => rfl
theorem vcvtPBf16 : ∀ x0 x1 x2 x3, Statement (.vcvtPBf16 x0 x1 x2 x3) := fun _ _ _ _ _ => rfl
theorem vcvtPF16 : ∀ x0 x1 x2 x3, Statement (.vcvtPF16 x0 x1 x2 x3) := fun _ _ _ _ _ => rfl
theorem vcvtPI32 : ∀ x0 x1 x2 x3, Statement (.vcvtPI32 x0 x1 x2 x3) := fun _ _ _ _ _ => rfl
theorem vcvtPI16 : ∀ x0 x1 x2 x3, Statement (.vcvtPI16 x0 x1 x2 x3) := fun _ _ _ _ _ => rfl
theorem vcvtPI8 : ∀ x0 x1 x2 x3, Statement (.vcvtPI8 x0 x1 x2 x3) := fun _ _ _ _ _ => rfl
theorem vcvtPE4m3 : ∀ x0 x1 x2 x3, Statement (.vcvtPE4m3 x0 x1 x2 x3) := fun _ _ _ _ _ => rfl
theorem vcvtPE5m2 : ∀ x0 x1 x2 x3, Statement (.vcvtPE5m2 x0 x1 x2 x3) := fun _ _ _ _ _ => rfl
theorem vrot : ∀ x0 x1 x2 x3, Statement (.vrot x0 x1 x2 x3) := fun _ _ _ _ _ => rfl
theorem vbcast : ∀ x0 x1 x2 x3, Statement (.vbcast x0 x1 x2 x3) := fun _ _ _ _ _ => rfl
theorem mand : ∀ x0 x1 x2, Statement (.mand x0 x1 x2) := fun _ _ _ _ => rfl
theorem mor : ∀ x0 x1 x2, Statement (.mor x0 x1 x2) := fun _ _ _ _ => rfl
theorem mxor : ∀ x0 x1 x2, Statement (.mxor x0 x1 x2) := fun _ _ _ _ => rfl
theorem mandn : ∀ x0 x1 x2, Statement (.mandn x0 x1 x2) := fun _ _ _ _ => rfl
theorem mnot : ∀ x0 x1, Statement (.mnot x0 x1) := fun _ _ _ => rfl
theorem mfromv : ∀ x0 x1, Statement (.mfromv x0 x1) := fun _ _ _ => rfl
theorem mtov : ∀ x0 x1, Statement (.mtov x0 x1) := fun _ _ _ => rfl
theorem mpopc : ∀ x0 x1, Statement (.mpopc x0 x1) := fun _ _ _ => rfl
theorem vsel : ∀ x0 x1 x2 x3, Statement (.vsel x0 x1 x2 x3) := fun _ _ _ _ _ => rfl
theorem vexp2 : ∀ x0 x1 x2, Statement (.vexp2 x0 x1 x2) := fun _ _ _ _ => rfl
theorem vlog2 : ∀ x0 x1 x2, Statement (.vlog2 x0 x1 x2) := fun _ _ _ _ => rfl
theorem vrcp : ∀ x0 x1 x2, Statement (.vrcp x0 x1 x2) := fun _ _ _ _ => rfl
theorem vrsq : ∀ x0 x1 x2, Statement (.vrsq x0 x1 x2) := fun _ _ _ _ => rfl
theorem vtanh : ∀ x0 x1 x2, Statement (.vtanh x0 x1 x2) := fun _ _ _ _ => rfl
theorem vsilu : ∀ x0 x1 x2, Statement (.vsilu x0 x1 x2) := fun _ _ _ _ => rfl
theorem vmov : ∀ x0 x1 x2, Statement (.vmov x0 x1 x2) := fun _ _ _ _ => rfl
theorem vget : ∀ x0 x1 x2, Statement (.vget x0 x1 x2) := fun _ _ _ _ => rfl
theorem vsete : ∀ x0 x1 x2, Statement (.vsete x0 x1 x2) := fun _ _ _ _ => rfl
theorem vidx : ∀ x0 x1, Statement (.vidx x0 x1) := fun _ _ _ => rfl
theorem vsplatF32 : ∀ x0 x1 x2, Statement (.vsplatF32 x0 x1 x2) := fun _ _ _ _ => rfl
theorem vsplatBf16 : ∀ x0 x1 x2, Statement (.vsplatBf16 x0 x1 x2) := fun _ _ _ _ => rfl
theorem vsplatF16 : ∀ x0 x1 x2, Statement (.vsplatF16 x0 x1 x2) := fun _ _ _ _ => rfl
theorem vsplatI32 : ∀ x0 x1 x2, Statement (.vsplatI32 x0 x1 x2) := fun _ _ _ _ => rfl
theorem vsplatI16 : ∀ x0 x1 x2, Statement (.vsplatI16 x0 x1 x2) := fun _ _ _ _ => rfl
theorem vsplatI8 : ∀ x0 x1 x2, Statement (.vsplatI8 x0 x1 x2) := fun _ _ _ _ => rfl
theorem vsplatE4m3 : ∀ x0 x1 x2, Statement (.vsplatE4m3 x0 x1 x2) := fun _ _ _ _ => rfl
theorem vsplatE5m2 : ∀ x0 x1 x2, Statement (.vsplatE5m2 x0 x1 x2) := fun _ _ _ _ => rfl
theorem vsplatMask : ∀ x0 x1 x2, Statement (.vsplatMask x0 x1 x2) := fun _ _ _ _ => rfl
theorem vld : ∀ x0 x1 x2, Statement (.vld x0 x1 x2) := fun _ _ _ _ => rfl
theorem vst : ∀ x0 x1 x2, Statement (.vst x0 x1 x2) := fun _ _ _ _ => rfl
theorem vperm : ∀ x0 x1 x2, Statement (.vperm x0 x1 x2) := fun _ _ _ _ => rfl
theorem vatomAddI32 : ∀ x0 x1 x2 x3 x4, Statement (.vatomAddI32 x0 x1 x2 x3 x4) := fun _ _ _ _ _ _ => rfl
theorem vatomAddF32 : ∀ x0 x1 x2 x3 x4, Statement (.vatomAddF32 x0 x1 x2 x3 x4) := fun _ _ _ _ _ _ => rfl
theorem vatomMinI32 : ∀ x0 x1 x2 x3 x4, Statement (.vatomMinI32 x0 x1 x2 x3 x4) := fun _ _ _ _ _ _ => rfl
theorem vatomMaxI32 : ∀ x0 x1 x2 x3 x4, Statement (.vatomMaxI32 x0 x1 x2 x3 x4) := fun _ _ _ _ _ _ => rfl
theorem vatomAnd : ∀ x0 x1 x2 x3 x4, Statement (.vatomAnd x0 x1 x2 x3 x4) := fun _ _ _ _ _ _ => rfl
theorem vatomOr : ∀ x0 x1 x2 x3 x4, Statement (.vatomOr x0 x1 x2 x3 x4) := fun _ _ _ _ _ _ => rfl
theorem vatomXor : ∀ x0 x1 x2 x3 x4, Statement (.vatomXor x0 x1 x2 x3 x4) := fun _ _ _ _ _ _ => rfl
theorem vatomSwap : ∀ x0 x1 x2 x3 x4, Statement (.vatomSwap x0 x1 x2 x3 x4) := fun _ _ _ _ _ _ => rfl
theorem vatomAddI32Nr : ∀ x0 x1 x2 x3 x4, Statement (.vatomAddI32Nr x0 x1 x2 x3 x4) := fun _ _ _ _ _ _ => rfl
theorem vatomAddF32Nr : ∀ x0 x1 x2 x3 x4, Statement (.vatomAddF32Nr x0 x1 x2 x3 x4) := fun _ _ _ _ _ _ => rfl
theorem vatomMinI32Nr : ∀ x0 x1 x2 x3 x4, Statement (.vatomMinI32Nr x0 x1 x2 x3 x4) := fun _ _ _ _ _ _ => rfl
theorem vatomMaxI32Nr : ∀ x0 x1 x2 x3 x4, Statement (.vatomMaxI32Nr x0 x1 x2 x3 x4) := fun _ _ _ _ _ _ => rfl
theorem vatomAndNr : ∀ x0 x1 x2 x3 x4, Statement (.vatomAndNr x0 x1 x2 x3 x4) := fun _ _ _ _ _ _ => rfl
theorem vatomOrNr : ∀ x0 x1 x2 x3 x4, Statement (.vatomOrNr x0 x1 x2 x3 x4) := fun _ _ _ _ _ _ => rfl
theorem vatomXorNr : ∀ x0 x1 x2 x3 x4, Statement (.vatomXorNr x0 x1 x2 x3 x4) := fun _ _ _ _ _ _ => rfl
theorem vatomLaneReturn : ∀ x0 x1, Statement (.vatomLaneReturn x0 x1) := fun _ _ h => nomatch (show false = true from h)
theorem enq : ∀ x0 x1, Statement (.enq x0 x1) := fun _ _ _ => rfl
theorem enqNb : ∀ x0 x1, Statement (.enqNb x0 x1) := fun _ _ _ => rfl
theorem talloc : ∀ x0 x1, Statement (.talloc x0 x1) := fun _ _ _ => rfl
theorem tfree : ∀ x0, Statement (.tfree x0) := fun _ _ => rfl
theorem twait : ∀ x0, Statement (.twait x0) := fun _ _ => rfl
theorem tset : ∀ x0 x1, Statement (.tset x0 x1) := fun _ _ _ => rfl
theorem tget : ∀ x0 x1, Statement (.tget x0 x1) := fun _ _ _ => rfl
theorem mfc : ∀ x0 x1, Statement (.mfc x0 x1) := fun _ _ _ => rfl
theorem mtc : ∀ x0 x1, Statement (.mtc x0 x1) := fun _ _ _ => rfl
theorem trap : ∀ x0, Statement (.trap x0) := fun _ _ => rfl
theorem rett : Statement .rett := fun _ => rfl
theorem retry : Statement .retry := fun _ => rfl
theorem safept : ∀ x0, Statement (.safept x0) := fun _ _ => rfl
theorem waitc : ∀ x0 x1, Statement (.waitc x0 x1) := fun _ _ _ => rfl
theorem taskExit : Statement .taskExit := fun _ => rfl
theorem valloc : ∀ x0, Statement (.valloc x0) := fun _ _ => rfl
theorem waitx : ∀ x0, Statement (.waitx x0) := fun _ _ => rfl
theorem snapopen : ∀ x0 x1, Statement (.snapopen x0 x1) := fun _ _ _ => rfl
theorem snappub : ∀ x0 x1, Statement (.snappub x0 x1) := fun _ _ _ => rfl
theorem tokw : ∀ x0, Statement (.tokw x0) := fun _ _ => rfl
theorem toks : ∀ x0, Statement (.toks x0) := fun _ _ => rfl
theorem semw : ∀ x0, Statement (.semw x0) := fun _ _ => rfl
theorem sems : ∀ x0, Statement (.sems x0) := fun _ _ => rfl
theorem semr : ∀ x0 x1, Statement (.semr x0 x1) := fun _ _ _ => rfl
theorem pondSync : ∀ x0, Statement (.pondSync x0) := fun _ _ => rfl
theorem fence : ∀ x0 x1, Statement (.fence x0 x1) := fun _ _ _ => rfl
theorem stallClear : Statement .stallClear := fun h => nomatch (show false = true from h)
theorem safePointOverdue : Statement .safePointOverdue := fun h => nomatch (show false = true from h)
theorem rollbackResume : Statement .rollbackResume := fun h => nomatch (show false = true from h)
theorem taskEnd : Statement .taskEnd := fun h => nomatch (show false = true from h)
theorem registerDrowsy : ∀ x0, Statement (.registerDrowsy x0) := fun _ h => nomatch (show false = true from h)
theorem debuggerRead : ∀ x0, Statement (.debuggerRead x0) := fun _ h => nomatch (show false = true from h)
theorem tload : ∀ x0 x1, Statement (.tload x0 x1) := fun _ _ h => nomatch (show false = true from h)
theorem tloadt : ∀ x0 x1, Statement (.tloadt x0 x1) := fun _ _ h => nomatch (show false = true from h)
theorem tstore : ∀ x0 x1, Statement (.tstore x0 x1) := fun _ _ h => nomatch (show false = true from h)
theorem tstoret : ∀ x0 x1, Statement (.tstoret x0 x1) := fun _ _ h => nomatch (show false = true from h)
theorem copy : ∀ x0 x1, Statement (.copy x0 x1) := fun _ _ h => nomatch (show false = true from h)
theorem fillTile : ∀ x0 x1, Statement (.fillTile x0 x1) := fun _ _ h => nomatch (show false = true from h)
theorem fillMemory : ∀ x0 x1, Statement (.fillMemory x0 x1) := fun _ _ h => nomatch (show false = true from h)
theorem gather : ∀ x0 x1, Statement (.gather x0 x1) := fun _ _ h => nomatch (show false = true from h)
theorem scatter : ∀ x0 x1, Statement (.scatter x0 x1) := fun _ _ h => nomatch (show false = true from h)
theorem bind : ∀ x0 x1, Statement (.bind x0 x1) := fun _ _ h => nomatch (show false = true from h)
theorem unbind : ∀ x0 x1, Statement (.unbind x0 x1) := fun _ _ h => nomatch (show false = true from h)
theorem bload : ∀ x0 x1, Statement (.bload x0 x1) := fun _ _ h => nomatch (show false = true from h)
theorem bwait : ∀ x0 x1, Statement (.bwait x0 x1) := fun _ _ h => nomatch (show false = true from h)
theorem bdisc : ∀ x0 x1, Statement (.bdisc x0 x1) := fun _ _ h => nomatch (show false = true from h)
theorem bflush : ∀ x0 x1, Statement (.bflush x0 x1) := fun _ _ h => nomatch (show false = true from h)
theorem rfetch : ∀ x0 x1, Statement (.rfetch x0 x1) := fun _ _ h => nomatch (show false = true from h)
theorem rsend : ∀ x0 x1, Statement (.rsend x0 x1) := fun _ _ h => nomatch (show false = true from h)
theorem migrate : ∀ x0 x1, Statement (.migrate x0 x1) := fun _ _ h => nomatch (show false = true from h)
theorem twback : ∀ x0 x1, Statement (.twback x0 x1) := fun _ _ h => nomatch (show false = true from h)
theorem cinv : ∀ x0 x1, Statement (.cinv x0 x1) := fun _ _ h => nomatch (show false = true from h)
theorem mark : ∀ x0 x1, Statement (.mark x0 x1) := fun _ _ h => nomatch (show false = true from h)
theorem kvappend : ∀ x0 x1, Statement (.kvappend x0 x1) := fun _ _ h => nomatch (show false = true from h)
theorem kvgrow : ∀ x0 x1, Statement (.kvgrow x0 x1) := fun _ _ h => nomatch (show false = true from h)
theorem kvcow : ∀ x0 x1, Statement (.kvcow x0 x1) := fun _ _ h => nomatch (show false = true from h)
theorem kvremap : ∀ x0 x1, Statement (.kvremap x0 x1) := fun _ _ h => nomatch (show false = true from h)
theorem pfxwalk : ∀ x0 x1, Statement (.pfxwalk x0 x1) := fun _ _ h => nomatch (show false = true from h)
theorem pfxins : ∀ x0 x1, Statement (.pfxins x0 x1) := fun _ _ h => nomatch (show false = true from h)
theorem pfxrelSequence : ∀ x0 x1, Statement (.pfxrelSequence x0 x1) := fun _ _ h => nomatch (show false = true from h)
theorem pfxrelList : ∀ x0 x1, Statement (.pfxrelList x0 x1) := fun _ _ h => nomatch (show false = true from h)
theorem pfxdirClaim : ∀ x0 x1, Statement (.pfxdirClaim x0 x1) := fun _ _ h => nomatch (show false = true from h)
theorem pfxdirShare : ∀ x0 x1, Statement (.pfxdirShare x0 x1) := fun _ _ h => nomatch (show false = true from h)
theorem pfxdirDrop : ∀ x0 x1, Statement (.pfxdirDrop x0 x1) := fun _ _ h => nomatch (show false = true from h)
theorem attnr : ∀ x0 x1, Statement (.attnr x0 x1) := fun _ _ h => nomatch (show false = true from h)
theorem attnrReply : ∀ x0, Statement (.attnrReply x0) := fun _ h => nomatch (show false = true from h)
theorem attnrTimeout : Statement .attnrTimeout := fun h => nomatch (show false = true from h)
theorem mmul : ∀ x0 x1, Statement (.mmul x0 x1) := fun _ _ h => nomatch (show false = true from h)
theorem mmul2 : ∀ x0 x1, Statement (.mmul2 x0 x1) := fun _ _ h => nomatch (show false = true from h)
theorem attn : ∀ x0 x1, Statement (.attn x0 x1) := fun _ _ h => nomatch (show false = true from h)
theorem attnSoftmaxStart : Statement .attnSoftmaxStart := fun h => nomatch (show false = true from h)
theorem mxv : ∀ x0 x1, Statement (.mxv x0 x1) := fun _ _ h => nomatch (show false = true from h)
theorem mzero : ∀ x0 x1, Statement (.mzero x0 x1) := fun _ _ h => nomatch (show false = true from h)
theorem sinit : ∀ x0 x1, Statement (.sinit x0 x1) := fun _ _ h => nomatch (show false = true from h)
theorem sfin : ∀ x0 x1, Statement (.sfin x0 x1) := fun _ _ h => nomatch (show false = true from h)
theorem smerge : ∀ x0 x1, Statement (.smerge x0 x1) := fun _ _ h => nomatch (show false = true from h)
theorem scopy : ∀ x0 x1, Statement (.scopy x0 x1) := fun _ _ h => nomatch (show false = true from h)
theorem arrayPassEnd : ∀ x0 x1 x2, Statement (.arrayPassEnd x0 x1 x2) := fun _ _ _ h => nomatch (show false = true from h)
theorem matrixFreeze : Statement .matrixFreeze := fun h => nomatch (show false = true from h)
theorem matrixResume : Statement .matrixResume := fun h => nomatch (show false = true from h)
theorem arrayRowRemap : ∀ x0 x1, Statement (.arrayRowRemap x0 x1) := fun _ _ h => nomatch (show false = true from h)
theorem bitternCommit : ∀ x0, Statement (.bitternCommit x0) := fun _ h => nomatch (show false = true from h)
theorem engineFault : ∀ x0, Statement (.engineFault x0) := fun _ h => nomatch (show false = true from h)
theorem commandComplete : ∀ x0, Statement (.commandComplete x0) := fun _ h => nomatch (show false = true from h)
theorem heldSignalPush : ∀ x0, Statement (.heldSignalPush x0) := fun _ h => nomatch (show false = true from h)
theorem blockFillComplete : ∀ x0, Statement (.blockFillComplete x0) := fun _ h => nomatch (show false = true from h)
theorem regionFillComplete : ∀ x0, Statement (.regionFillComplete x0) := fun _ h => nomatch (show false = true from h)
theorem barrierPass : ∀ x0, Statement (.barrierPass x0) := fun _ h => nomatch (show false = true from h)
theorem doorbell : ∀ x0 x1, Statement (.doorbell x0 x1) := fun _ _ h => nomatch (show false = true from h)
theorem kickReport : ∀ x0, Statement (.kickReport x0) := fun _ h => nomatch (show false = true from h)
theorem queueScan : Statement .queueScan := fun h => nomatch (show false = true from h)
theorem queueIdleTimeout : ∀ x0, Statement (.queueIdleTimeout x0) := fun _ h => nomatch (show false = true from h)
theorem packetLaunch : ∀ x0, Statement (.packetLaunch x0) := fun _ h => nomatch (show false = true from h)
theorem packetResume : ∀ x0, Statement (.packetResume x0) := fun _ h => nomatch (show false = true from h)
theorem packetShootdown : ∀ x0, Statement (.packetShootdown x0) := fun _ h => nomatch (show false = true from h)
theorem packetNop : ∀ x0, Statement (.packetNop x0) := fun _ h => nomatch (show false = true from h)
theorem shootdownComplete : Statement .shootdownComplete := fun h => nomatch (show false = true from h)
theorem batchClose : ∀ x0, Statement (.batchClose x0) := fun _ h => nomatch (show false = true from h)
theorem dispatch : Statement .dispatch := fun h => nomatch (show false = true from h)
theorem prologueStart : Statement .prologueStart := fun h => nomatch (show false = true from h)
theorem prologueOverrun : ∀ x0, Statement (.prologueOverrun x0) := fun _ h => nomatch (show false = true from h)
theorem launchComplete : ∀ x0, Statement (.launchComplete x0) := fun _ h => nomatch (show false = true from h)
theorem haltComplete : Statement .haltComplete := fun h => nomatch (show false = true from h)
theorem partitionSwap : ∀ x0, Statement (.partitionSwap x0) := fun _ h => nomatch (show false = true from h)
theorem swapExchange : ∀ x0, Statement (.swapExchange x0) := fun _ h => nomatch (show false = true from h)
theorem thermalLevelChange : ∀ x0, Statement (.thermalLevelChange x0) := fun _ h => nomatch (show false = true from h)
theorem lockstepMismatch : Statement .lockstepMismatch := fun h => nomatch (show false = true from h)
theorem lockstepRestart : Statement .lockstepRestart := fun h => nomatch (show false = true from h)
theorem migrationStart : Statement .migrationStart := fun h => nomatch (show false = true from h)
theorem migrationSwitch : Statement .migrationSwitch := fun h => nomatch (show false = true from h)
theorem migrationDeadlineDrop : Statement .migrationDeadlineDrop := fun h => nomatch (show false = true from h)
theorem migrationAbandon : Statement .migrationAbandon := fun h => nomatch (show false = true from h)
theorem ptNodeBusy : Statement .ptNodeBusy := fun h => nomatch (show false = true from h)
theorem heatSweep : Statement .heatSweep := fun h => nomatch (show false = true from h)
theorem lagoonScrubVisit : Statement .lagoonScrubVisit := fun h => nomatch (show false = true from h)
theorem biSnoop : ∀ x0 x1, Statement (.biSnoop x0 x1) := fun _ _ h => nomatch (show false = true from h)
theorem addCapacity : ∀ x0 x1 x2, Statement (.addCapacity x0 x1 x2) := fun _ _ _ h => nomatch (show false = true from h)
theorem releaseCapacity : ∀ x0, Statement (.releaseCapacity x0) := fun _ h => nomatch (show false = true from h)
theorem capacityAccept : ∀ x0, Statement (.capacityAccept x0) := fun _ h => nomatch (show false = true from h)
theorem capacityDecline : ∀ x0, Statement (.capacityDecline x0) := fun _ h => nomatch (show false = true from h)
theorem confirmRevocation : ∀ x0, Statement (.confirmRevocation x0) := fun _ h => nomatch (show false = true from h)
theorem forcedRemoval : ∀ x0, Statement (.forcedRemoval x0) := fun _ h => nomatch (show false = true from h)
theorem headLinkDown : ∀ x0, Statement (.headLinkDown x0) := fun _ h => nomatch (show false = true from h)
theorem headCompletionTimeout : ∀ x0, Statement (.headCompletionTimeout x0) := fun _ h => nomatch (show false = true from h)
theorem headRecover : ∀ x0, Statement (.headRecover x0) := fun _ h => nomatch (show false = true from h)
theorem moduleUnreachable : ∀ x0, Statement (.moduleUnreachable x0) := fun _ h => nomatch (show false = true from h)
theorem laneFailure : ∀ x0, Statement (.laneFailure x0) := fun _ h => nomatch (show false = true from h)
theorem portRetrainDone : ∀ x0, Statement (.portRetrainDone x0) := fun _ h => nomatch (show false = true from h)
theorem ideFailure : ∀ x0, Statement (.ideFailure x0) := fun _ h => nomatch (show false = true from h)
theorem write : ∀ x0, Statement (.write x0) := fun _ h => nomatch (show false = true from h)
theorem read : ∀ x0, Statement (.read x0) := fun _ h => nomatch (show false = true from h)
theorem data : ∀ x0, Statement (.data x0) := fun _ h => nomatch (show false = true from h)
theorem atom : ∀ x0, Statement (.atom x0) := fun _ h => nomatch (show false = true from h)
theorem red : ∀ x0, Statement (.red x0) := fun _ h => nomatch (show false = true from h)
theorem result : ∀ x0, Statement (.result x0) := fun _ h => nomatch (show false = true from h)
theorem ack : ∀ x0, Statement (.ack x0) := fun _ h => nomatch (show false = true from h)
theorem areq : ∀ x0, Statement (.areq x0) := fun _ h => nomatch (show false = true from h)
theorem arep : ∀ x0, Statement (.arep x0) := fun _ h => nomatch (show false = true from h)
theorem time : ∀ x0, Statement (.time x0) := fun _ h => nomatch (show false = true from h)
theorem ackSend : ∀ x0 x1, Statement (.ackSend x0 x1) := fun _ _ h => nomatch (show false = true from h)
theorem busyResend : ∀ x0 x1 x2, Statement (.busyResend x0 x1 x2) := fun _ _ _ h => nomatch (show false = true from h)
theorem applyRetry : ∀ x0 x1 x2, Statement (.applyRetry x0 x1 x2) := fun _ _ _ h => nomatch (show false = true from h)
theorem heldSend : ∀ x0 x1, Statement (.heldSend x0 x1) := fun _ _ h => nomatch (show false = true from h)
theorem applyRefuse : ∀ x0 x1, Statement (.applyRefuse x0 x1) := fun _ _ h => nomatch (show false = true from h)
theorem planeFailTimeout : ∀ x0 x1, Statement (.planeFailTimeout x0 x1) := fun _ _ h => nomatch (show false = true from h)
theorem planeLinkDown : ∀ x0, Statement (.planeLinkDown x0) := fun _ h => nomatch (show false = true from h)
theorem planeRestore : ∀ x0 x1, Statement (.planeRestore x0 x1) := fun _ _ h => nomatch (show false = true from h)
theorem planeRetry : ∀ x0, Statement (.planeRetry x0) := fun _ h => nomatch (show false = true from h)
theorem peerUnreachable : ∀ x0, Statement (.peerUnreachable x0) := fun _ h => nomatch (show false = true from h)
theorem timeExchange : Statement .timeExchange := fun h => nomatch (show false = true from h)
theorem syncLoss : Statement .syncLoss := fun h => nomatch (show false = true from h)
theorem channelSpareSwitch : ∀ x0 x1, Statement (.channelSpareSwitch x0 x1) := fun _ _ h => nomatch (show false = true from h)
theorem uncorrectableError : ∀ x0, Statement (.uncorrectableError x0) := fun _ h => nomatch (show false = true from h)
theorem controlStateError : Statement .controlStateError := fun h => nomatch (show false = true from h)
theorem rowSpareStart : ∀ x0 x1 x2, Statement (.rowSpareStart x0 x1 x2) := fun _ _ _ h => nomatch (show false = true from h)
theorem rowSpareSwitch : ∀ x0 x1 x2, Statement (.rowSpareSwitch x0 x1 x2) := fun _ _ _ h => nomatch (show false = true from h)
theorem telemetryWrite : Statement .telemetryWrite := fun h => nomatch (show false = true from h)
theorem configWrite : ∀ x0 x1, Statement (.configWrite x0 x1) := fun _ _ h => nomatch (show false = true from h)
theorem warmResetRequest : Statement .warmResetRequest := fun h => nomatch (show false = true from h)
theorem maintResetRequest : Statement .maintResetRequest := fun h => nomatch (show false = true from h)
theorem partitionForm : Statement .partitionForm := fun h => nomatch (show false = true from h)
theorem partitionDissolve : Statement .partitionDissolve := fun h => nomatch (show false = true from h)
theorem garetorReset : ∀ x0, Statement (.garetorReset x0) := fun _ h => nomatch (show false = true from h)
theorem hostBarAccess : ∀ x0 x1 x2, Statement (.hostBarAccess x0 x1 x2) := fun _ _ _ h => nomatch (show false = true from h)
theorem attest : ∀ x0, Statement (.attest x0) := fun _ h => nomatch (show false = true from h)
theorem deploy : ∀ x0, Statement (.deploy x0) := fun _ h => nomatch (show false = true from h)
theorem takeOwnership : ∀ x0 x1, Statement (.takeOwnership x0 x1) := fun _ _ h => nomatch (show false = true from h)
theorem releaseOwnership : ∀ x0, Statement (.releaseOwnership x0) := fun _ h => nomatch (show false = true from h)
theorem retire : ∀ x0, Statement (.retire x0) := fun _ h => nomatch (show false = true from h)
theorem raiseSecurityMinimum : ∀ x0 x1 x2, Statement (.raiseSecurityMinimum x0 x1 x2) := fun _ _ _ h => nomatch (show false = true from h)
theorem recoveryImage : ∀ x0, Statement (.recoveryImage x0) := fun _ h => nomatch (show false = true from h)
theorem coldReset : Statement .coldReset := fun h => nomatch (show false = true from h)
theorem resetPhaseEnd : Statement .resetPhaseEnd := fun h => nomatch (show false = true from h)
theorem bootComplete : ∀ x0, Statement (.bootComplete x0) := fun _ h => nomatch (show false = true from h)
theorem wipeComplete : Statement .wipeComplete := fun h => nomatch (show false = true from h)
theorem powerOff : Statement .powerOff := fun h => nomatch (show false = true from h)
theorem outOfServiceTemperature : Statement .outOfServiceTemperature := fun h => nomatch (show false = true from h)
theorem moduleReenumeration : ∀ x0, Statement (.moduleReenumeration x0) := fun _ h => nomatch (show false = true from h)
theorem spareChannelSwitchEnd : ∀ x0 x1, Statement (.spareChannelSwitchEnd x0 x1) := fun _ _ h => nomatch (show false = true from h)

end Sys2Proof.Laws.Encoding
end

