-- ==== Sys2Proof/Tests/Slice0.lean ====
section
/-!
SUPPORT. The model's own tests: ill-formed instructions that the check refuses, words written out from the spec's
encodings that decode to their instructions, words the decoder refuses, single steps whose result the spec gives, and,
for every claim with premises, concrete states that meet them.
-/
namespace Sys2Proof.Tests
open Sys2Proof Sys2Proof.Machine Sys2Proof.Claims

set_option Elab.async false

/-! ## Well-formedness -/

/-- No command opcode of the table. -/
def blankCmd : Cmd := { w0 := 0xFF, w1 := 0, w2 := 0, w3 := 0 }

/-- A command with this opcode and nothing else. -/
def cmd (opc : Nat) : Cmd := { w0 := BitVec.ofNat 64 opc, w1 := 0, w2 := 0, w3 := 0 }

theorem test_wf_loops :
    (Instr.loop 1 0).wf = false ∧ (Instr.loopS 1 2 0 0).wf = false ∧ (Instr.loopS 5 2 0 4).wf = false
      ∧ (Instr.loopS 1 2 2 4).wf = false ∧ (Instr.loopS 4 2 15 4).wf = true := by decide

theorem test_wf_scopes :
    (Instr.atomSwap 1 2 0 0 5 0).wf = false ∧ (Instr.atomCas 2 2 0 0 5 0).wf = false ∧ (Instr.atomAdd 1 2 0 0 5 0).wf = false
      ∧ (Instr.atomAnd 1 2 0 0 5 0).wf = false ∧ (Instr.atomOr 1 2 0 0 5 0).wf = false ∧ (Instr.atomXor 1 2 0 0 5 0).wf = false
      ∧ (Instr.atomMin 1 2 0 0 5 0).wf = false ∧ (Instr.atomMax 1 2 0 0 5 0).wf = false
      ∧ (Instr.atomMinn 1 2 0 0 5 0).wf = false ∧ (Instr.atomMaxn 1 2 0 0 5 0).wf = false
      ∧ (Instr.atomFadd 1 2 0 5 0).wf = false ∧ (Instr.redAdd 1 2 0 0 5 0).wf = false ∧ (Instr.redAnd 1 2 0 0 5 0).wf = false
      ∧ (Instr.redOr 1 2 0 0 5 0).wf = false ∧ (Instr.redXor 1 2 0 0 5 0).wf = false ∧ (Instr.redMin 1 2 0 0 5 0).wf = false
      ∧ (Instr.redMax 1 2 0 0 5 0).wf = false ∧ (Instr.redMinn 1 2 0 0 5 0).wf = false
      ∧ (Instr.redMaxn 1 2 0 0 5 0).wf = false ∧ (Instr.redFadd 1 2 0 5 0).wf = false ∧ (Instr.fence 5 1).wf = false := by decide

theorem test_wf_vector_scopes :
    (Instr.vatomAddI32 1 2 3 0 5).wf = false ∧ (Instr.vatomAddF32 1 2 3 0 5).wf = false ∧ (Instr.vatomMinI32 1 2 3 0 5).wf = false
      ∧ (Instr.vatomMaxI32 1 2 3 0 5).wf = false ∧ (Instr.vatomAnd 1 2 3 0 5).wf = false ∧ (Instr.vatomOr 1 2 3 0 5).wf = false
      ∧ (Instr.vatomXor 1 2 3 0 5).wf = false ∧ (Instr.vatomSwap 1 2 3 0 5).wf = false
      ∧ (Instr.vatomAddI32Nr 1 2 3 0 5).wf = false ∧ (Instr.vatomAddF32Nr 1 2 3 0 5).wf = false
      ∧ (Instr.vatomMinI32Nr 1 2 3 0 5).wf = false ∧ (Instr.vatomMaxI32Nr 1 2 3 0 5).wf = false
      ∧ (Instr.vatomAndNr 1 2 3 0 5).wf = false ∧ (Instr.vatomOrNr 1 2 3 0 5).wf = false
      ∧ (Instr.vatomXorNr 1 2 3 0 5).wf = false := by decide

theorem test_wf_axes :
    (Instr.vredSumF32 1 2 0 0).wf = false ∧ (Instr.vredMaxF32 1 2 0 3).wf = false ∧ (Instr.vredMinF32 1 2 0 0).wf = false
      ∧ (Instr.vredSumBf16 1 2 0 3).wf = false ∧ (Instr.vredMaxBf16 1 2 0 0).wf = false ∧ (Instr.vredMinBf16 1 2 0 3).wf = false
      ∧ (Instr.vredSumF16 1 2 0 0).wf = false ∧ (Instr.vredMaxF16 1 2 0 3).wf = false ∧ (Instr.vredMinF16 1 2 0 0).wf = false
      ∧ (Instr.vredSumI32 1 2 0 3).wf = false ∧ (Instr.vredMaxI32 1 2 0 0).wf = false ∧ (Instr.vredMinI32 1 2 0 3).wf = false
      ∧ (Instr.vredSumI16 1 2 0 0).wf = false ∧ (Instr.vredMaxI16 1 2 0 3).wf = false ∧ (Instr.vredMinI16 1 2 0 0).wf = false
      ∧ (Instr.vredSumI8 1 2 0 3).wf = false ∧ (Instr.vredMaxI8 1 2 0 0).wf = false ∧ (Instr.vredMinI8 1 2 0 3).wf = false
      ∧ (Instr.vrot 1 2 3 0).wf = false ∧ (Instr.vrot 1 2 16 2).wf = false ∧ (Instr.vbcast 1 2 3 3).wf = false
      ∧ (Instr.vbcast 1 2 16 2).wf = false ∧ (Instr.vrot 1 2 63 1).wf = true ∧ (Instr.vbcast 1 2 15 2).wf = true := by decide

theorem test_wf_system :
    (Instr.enq 3 1).wf = false ∧ (Instr.enqNb 3 1).wf = false ∧ (Instr.waitc 0 1).wf = false ∧ (Instr.valloc 9).wf = false
      ∧ (Instr.tokw 0x06).wf = false ∧ (Instr.toks 0x05).wf = false ∧ (Instr.semw 0x0F).wf = false
      ∧ (Instr.sems 0x0F).wf = false ∧ (Instr.semr 1 0x0F).wf = false ∧ (Instr.pondSync 0).wf = false
      ∧ (Instr.fence 0 0).wf = false ∧ (Instr.fence 4 1).wf = true := by decide

theorem test_wf_rake_commands :
    (Instr.tload .ro (cmd 0x00)).wf = false ∧ (Instr.tloadt .ri blankCmd).wf = false ∧ (Instr.tstore .ri (cmd 0x02)).wf = false
      ∧ (Instr.tstoret .ro blankCmd).wf = false ∧ (Instr.copy .mx (cmd 0x04)).wf = false
      ∧ (Instr.fillTile .ri (cmd 0x08000005)).wf = false ∧ (Instr.fillMemory .ri (cmd 0x05)).wf = false
      ∧ (Instr.gather .ro (cmd 0x06)).wf = false ∧ (Instr.scatter .ri (cmd 0x07)).wf = false
      ∧ (Instr.bind .ro (cmd 0x08)).wf = false ∧ (Instr.unbind .ri blankCmd).wf = false ∧ (Instr.bload .ro (cmd 0x0A)).wf = false
      ∧ (Instr.bwait .ri blankCmd).wf = false ∧ (Instr.bdisc .ri (cmd 0x0C)).wf = false ∧ (Instr.bflush .ro blankCmd).wf = false
      ∧ (Instr.rfetch .ro (cmd 0x0E)).wf = false ∧ (Instr.rsend .ri (cmd 0x0F)).wf = false
      ∧ (Instr.migrate .mx (cmd 0x10)).wf = false ∧ (Instr.twback .ri (cmd 0x11)).wf = false
      ∧ (Instr.cinv .ro blankCmd).wf = false ∧ (Instr.mark .mx (cmd 0x13)).wf = false := by decide

theorem test_wf_kv_and_matrix_commands :
    (Instr.kvappend .ri (cmd 0x40)).wf = false ∧ (Instr.kvgrow .ro blankCmd).wf = false ∧ (Instr.kvcow .ri (cmd 0x42)).wf = false
      ∧ (Instr.kvremap .ro blankCmd).wf = false ∧ (Instr.pfxwalk .ro (cmd 0x44)).wf = false
      ∧ (Instr.pfxins .ri (cmd 0x45)).wf = false ∧ (Instr.pfxrelSequence .ro (cmd 0x08000046)).wf = false
      ∧ (Instr.pfxrelList .ro (cmd 0x46)).wf = false ∧ (Instr.pfxdirClaim .ro (cmd 0x100000047)).wf = false
      ∧ (Instr.pfxdirShare .ro (cmd 0x47)).wf = false ∧ (Instr.pfxdirDrop .ri (cmd 0x200000047)).wf = false
      ∧ (Instr.attnr .ri (cmd 0x48)).wf = false ∧ (Instr.mmul .ro (cmd 0x60)).wf = false ∧ (Instr.mmul2 .mx blankCmd).wf = false
      ∧ (Instr.attn .ri (cmd 0x62)).wf = false ∧ (Instr.mxv .mx blankCmd).wf = false ∧ (Instr.mzero .ri (cmd 0x64)).wf = false
      ∧ (Instr.sinit .mx blankCmd).wf = false ∧ (Instr.sfin .ro (cmd 0x66)).wf = false ∧ (Instr.smerge .mx blankCmd).wf = false
      ∧ (Instr.scopy .ri (cmd 0x68)).wf = false := by decide

/-! ## Decoding: words written out from the tables of 03 -/

/-- The decoder reads the word as this instruction. -/
noncomputable def reads (w : InstrWord) (i : Instr) : Bool :=
  match decodeWord w with
  | .ok j => decide (j = i)
  | .error _ => false

/-- The decoder refuses the word with this fault. -/
noncomputable def refuses (w : InstrWord) (f : DecodeFault) : Bool :=
  match decodeWord w with
  | .ok _ => false
  | .error g => decide (g = f)

/-- The decoder reads the command on the ring as this instruction. -/
noncomputable def readsOn (r : Ring) (c : Cmd) (i : Instr) : Bool :=
  match decodeCommand r c with
  | .ok j => decide (j = i)
  | .error _ => false

theorem test_decode_major_00 :
    reads 0x01B65D00 (.add 13 22 11 2 1 0) = true
      ∧ reads 0x01B65D01 (.sub 13 22 11 2 1 0) = true
      ∧ reads 0x01B65D02 (.mul 13 22 11 2 1 0) = true
      ∧ reads 0x01B65D03 (.mulh 13 22 11 2 1) = true
      ∧ reads 0x01B65D04 (.div 13 22 11 2 1 0) = true
      ∧ reads 0x01B65D05 (.rem 13 22 11 2 1) = true
      ∧ reads 0x01B65D06 (.min 13 22 11 2 1) = true
      ∧ reads 0x01B65D07 (.max 13 22 11 2 1) = true
      ∧ reads 0x01B65D08 (.and 13 22 11 2 1) = true
      ∧ reads 0x01B65D09 (.or 13 22 11 2 1) = true
      ∧ reads 0x01B65D0A (.xor 13 22 11 2 1) = true
      ∧ reads 0x01B65D0B (.andn 13 22 11 2 1) = true
      ∧ reads 0x01B65D0C (.shl 13 22 11 2 1) = true
      ∧ reads 0x01B65D0D (.shr 13 22 11 2 1) = true := by decide +kernel

theorem test_decode_major_00_2 :
    reads 0x01B65D0E (.ror 13 22 11 2 1) = true
      ∧ reads 0x01B6050F (.clz 13 22 2 1) = true
      ∧ reads 0x01B60510 (.popc 13 22 2 1) = true
      ∧ reads 0x01B60511 (.abs 13 22 2 1 0) = true
      ∧ reads 0x01B60512 (.neg 13 22 2 1 0) = true
      ∧ reads 0x01B60513 (.ext 13 22 2 1) = true
      ∧ reads 0x05B65940 (.madd 13 22 11 5) = true
      ∧ reads 0x05B65941 (.msub 13 22 11 5) = true
      ∧ reads 0x05B65942 (.sel 13 22 11 5) = true := by decide +kernel

theorem test_decode_major_02 :
    reads 0x09B65D00 (.cmpEq 13 22 11 2 1) = true
      ∧ reads 0x09B65D01 (.cmpNe 13 22 11 2 1) = true
      ∧ reads 0x09B65D02 (.cmpLt 13 22 11 2 1) = true
      ∧ reads 0x09B65D03 (.cmpLe 13 22 11 2 1) = true
      ∧ reads 0x09B65D04 (.cmpGt 13 22 11 2 1) = true
      ∧ reads 0x09B65D05 (.cmpGe 13 22 11 2 1) = true
      ∧ reads 0x0DB65CAB (.addi 13 22 23723) = true
      ∧ reads 0x11B65CAB (.addis 13 22 23723) = true
      ∧ reads 0x15B65CAB (.andi 13 22 23723) = true
      ∧ reads 0x19B65CAB (.ori 13 22 23723) = true
      ∧ reads 0x1DB65CAB (.xori 13 22 23723) = true := by decide +kernel

theorem test_decode_major_08 :
    reads 0x21B6002B (.shli 13 22 43) = true
      ∧ reads 0x21B6006B (.shri 13 22 43) = true
      ∧ reads 0x21B600AB (.srai 13 22 43) = true
      ∧ reads 0x21B600EB (.rori 13 22 43) = true
      ∧ reads 0x25B65CAB (.slti 13 22 23723) = true
      ∧ reads 0x29B65CAB (.sltin 13 22 23723) = true
      ∧ reads 0x2DB61CAB (.beq 13 22 7339) = true
      ∧ reads 0x2DB63CAB (.bne 13 22 7339) = true
      ∧ reads 0x2DB65CAB (.blt 13 22 7339) = true
      ∧ reads 0x2DB67CAB (.bge 13 22 7339) = true
      ∧ reads 0x2DB69CAB (.bltn 13 22 7339) = true
      ∧ reads 0x2DB6BCAB (.bgen 13 22 7339) = true
      ∧ reads 0x2DB6DCAB (.btst 13 22 7339) = true
      ∧ reads 0x2DB6FCAB (.btstz 13 22 7339) = true := by decide +kernel

theorem test_decode_major_0C :
    reads 0x302B2D6D (.j 2829677) = true
      ∧ reads 0x342B2D6D (.jl 2829677) = true
      ∧ reads 0x380D0000 (.jr 13) = true
      ∧ reads 0x39B60001 (.jlr 13 22) = true
      ∧ reads 0x3C0D02D6 (.loop 13 726) = true
      ∧ reads 0x3D6569A5 (.loopS 3 5 6 2469) = true
      ∧ reads 0x41B6B6B6 (.ldN 13 22 11 1 694) = true
      ∧ reads 0x45B6B6B6 (.ldI 13 22 11 1 694) = true
      ∧ reads 0x49B6B6B6 (.st 13 22 11 1 694) = true
      ∧ reads 0x4DB6B6C0 (.ldxN 13 22 11 1 22) = true
      ∧ reads 0x51B6B6C0 (.ldxI 13 22 11 1 22) = true
      ∧ reads 0x55B6B6C0 (.stx 13 22 11 1 22) = true
      ∧ reads 0x59B6B6B6 (.ldAcq 13 22 11 1 694) = true
      ∧ reads 0x5DB6B6B6 (.stRel 13 22 11 1 694) = true := by decide +kernel

theorem test_decode_major_18 :
    reads 0x61B6BC1F (.atomSwap 13 22 11 1 3 3) = true
      ∧ reads 0x61B6BC5F (.atomCas 13 22 11 1 3 3) = true
      ∧ reads 0x61B6BC9F (.atomAdd 13 22 11 1 3 3) = true
      ∧ reads 0x61B6BCDF (.atomAnd 13 22 11 1 3 3) = true
      ∧ reads 0x61B6BD1F (.atomOr 13 22 11 1 3 3) = true
      ∧ reads 0x61B6BD5F (.atomXor 13 22 11 1 3 3) = true
      ∧ reads 0x61B6BD9F (.atomMin 13 22 11 1 3 3) = true
      ∧ reads 0x61B6BDDF (.atomMax 13 22 11 1 3 3) = true
      ∧ reads 0x61B6BE1F (.atomMinn 13 22 11 1 3 3) = true
      ∧ reads 0x61B6BE5F (.atomMaxn 13 22 11 1 3 3) = true
      ∧ reads 0x61B6BA9D (.atomFadd 13 22 11 3 2) = true
      ∧ reads 0x61B6BC9C (.redAdd 13 22 11 1 3 1) = true
      ∧ reads 0x61B6BCDC (.redAnd 13 22 11 1 3 1) = true
      ∧ reads 0x61B6BD1C (.redOr 13 22 11 1 3 1) = true := by decide +kernel

theorem test_decode_major_18_2 :
    reads 0x61B6BD5C (.redXor 13 22 11 1 3 1) = true
      ∧ reads 0x61B6BD9C (.redMin 13 22 11 1 3 1) = true
      ∧ reads 0x61B6BDDC (.redMax 13 22 11 1 3 1) = true
      ∧ reads 0x61B6BE1C (.redMinn 13 22 11 1 3 1) = true
      ∧ reads 0x61B6BE5C (.redMaxn 13 22 11 1 3 1) = true
      ∧ reads 0x61B6BA9C (.redFadd 13 22 11 3 1) = true := by decide +kernel

theorem test_decode_major_20 :
    reads 0x81B65D00 (.vaddF32 13 22 11 5) = true
      ∧ reads 0x81B65D01 (.vsubF32 13 22 11 5) = true
      ∧ reads 0x81B65D02 (.vmulF32 13 22 11 5) = true
      ∧ reads 0x81B65D03 (.vfmaF32 13 22 11 5) = true
      ∧ reads 0x81B65D04 (.vminF32 13 22 11 5) = true
      ∧ reads 0x81B65D05 (.vmaxF32 13 22 11 5) = true
      ∧ reads 0x81B60306 (.vabsF32 13 22 3) = true
      ∧ reads 0x81B60307 (.vnegF32 13 22 3) = true
      ∧ reads 0x81B65D08 (.vcmpEqF32 13 22 11 5) = true
      ∧ reads 0x81B65D09 (.vcmpNeF32 13 22 11 5) = true
      ∧ reads 0x81B65D0A (.vcmpLtF32 13 22 11 5) = true
      ∧ reads 0x81B65D0B (.vcmpLeF32 13 22 11 5) = true
      ∧ reads 0x81B60390 (.vredSumF32 13 22 3 2) = true
      ∧ reads 0x81B60391 (.vredMaxF32 13 22 3 2) = true := by decide +kernel

theorem test_decode_major_20_2 :
    reads 0x81B60392 (.vredMinF32 13 22 3 2) = true := by decide +kernel

theorem test_decode_major_21 :
    reads 0x85B65D00 (.vaddBf16 13 22 11 5) = true
      ∧ reads 0x85B65D01 (.vsubBf16 13 22 11 5) = true
      ∧ reads 0x85B65D02 (.vmulBf16 13 22 11 5) = true
      ∧ reads 0x85B65D03 (.vfmaBf16 13 22 11 5) = true
      ∧ reads 0x85B65D04 (.vminBf16 13 22 11 5) = true
      ∧ reads 0x85B65D05 (.vmaxBf16 13 22 11 5) = true
      ∧ reads 0x85B60306 (.vabsBf16 13 22 3) = true
      ∧ reads 0x85B60307 (.vnegBf16 13 22 3) = true
      ∧ reads 0x85B65D08 (.vcmpEqBf16 13 22 11 5) = true
      ∧ reads 0x85B65D09 (.vcmpNeBf16 13 22 11 5) = true
      ∧ reads 0x85B65D0A (.vcmpLtBf16 13 22 11 5) = true
      ∧ reads 0x85B65D0B (.vcmpLeBf16 13 22 11 5) = true
      ∧ reads 0x85B60390 (.vredSumBf16 13 22 3 2) = true
      ∧ reads 0x85B60391 (.vredMaxBf16 13 22 3 2) = true := by decide +kernel

theorem test_decode_major_21_2 :
    reads 0x85B60392 (.vredMinBf16 13 22 3 2) = true := by decide +kernel

theorem test_decode_major_22 :
    reads 0x89B65D00 (.vaddF16 13 22 11 5) = true
      ∧ reads 0x89B65D01 (.vsubF16 13 22 11 5) = true
      ∧ reads 0x89B65D02 (.vmulF16 13 22 11 5) = true
      ∧ reads 0x89B65D03 (.vfmaF16 13 22 11 5) = true
      ∧ reads 0x89B65D04 (.vminF16 13 22 11 5) = true
      ∧ reads 0x89B65D05 (.vmaxF16 13 22 11 5) = true
      ∧ reads 0x89B60306 (.vabsF16 13 22 3) = true
      ∧ reads 0x89B60307 (.vnegF16 13 22 3) = true
      ∧ reads 0x89B65D08 (.vcmpEqF16 13 22 11 5) = true
      ∧ reads 0x89B65D09 (.vcmpNeF16 13 22 11 5) = true
      ∧ reads 0x89B65D0A (.vcmpLtF16 13 22 11 5) = true
      ∧ reads 0x89B65D0B (.vcmpLeF16 13 22 11 5) = true
      ∧ reads 0x89B60390 (.vredSumF16 13 22 3 2) = true
      ∧ reads 0x89B60391 (.vredMaxF16 13 22 3 2) = true := by decide +kernel

theorem test_decode_major_22_2 :
    reads 0x89B60392 (.vredMinF16 13 22 3 2) = true := by decide +kernel

theorem test_decode_major_23 :
    reads 0x8DB65D00 (.vaddI32 13 22 11 5) = true
      ∧ reads 0x8DB65D01 (.vsubI32 13 22 11 5) = true
      ∧ reads 0x8DB65D02 (.vmulI32 13 22 11 5) = true
      ∧ reads 0x8DB65D03 (.vmadI32 13 22 11 5) = true
      ∧ reads 0x8DB65D04 (.vminI32 13 22 11 5) = true
      ∧ reads 0x8DB65D05 (.vmaxI32 13 22 11 5) = true
      ∧ reads 0x8DB65D06 (.vminnI32 13 22 11 5) = true
      ∧ reads 0x8DB65D07 (.vmaxnI32 13 22 11 5) = true
      ∧ reads 0x8DB65D08 (.vcmpEqI32 13 22 11 5) = true
      ∧ reads 0x8DB65D09 (.vcmpNeI32 13 22 11 5) = true
      ∧ reads 0x8DB65D0A (.vcmpLtI32 13 22 11 5) = true
      ∧ reads 0x8DB65D0B (.vcmpLeI32 13 22 11 5) = true
      ∧ reads 0x8DB65D0C (.vcmpLtnI32 13 22 11 5) = true
      ∧ reads 0x8DB65D0D (.vcmpLenI32 13 22 11 5) = true := by decide +kernel

theorem test_decode_major_23_2 :
    reads 0x8DB6030E (.vabsI32 13 22 3) = true
      ∧ reads 0x8DB6030F (.vnegI32 13 22 3) = true
      ∧ reads 0x8DB60390 (.vredSumI32 13 22 3 2) = true
      ∧ reads 0x8DB60391 (.vredMaxI32 13 22 3 2) = true
      ∧ reads 0x8DB60392 (.vredMinI32 13 22 3 2) = true
      ∧ reads 0x8DB65D14 (.vandI32 13 22 11 5) = true
      ∧ reads 0x8DB65D15 (.vorI32 13 22 11 5) = true
      ∧ reads 0x8DB65D16 (.vxorI32 13 22 11 5) = true
      ∧ reads 0x8DB65D17 (.vshlI32 13 22 11 5) = true
      ∧ reads 0x8DB65D18 (.vshrI32 13 22 11 5) = true
      ∧ reads 0x8DB65D19 (.vsraI32 13 22 11 5) = true
      ∧ reads 0x8DB65D20 (.vaddSatI32 13 22 11 5) = true
      ∧ reads 0x8DB65D21 (.vsubSatI32 13 22 11 5) = true
      ∧ reads 0x8DB65D22 (.vaddnSatI32 13 22 11 5) = true := by decide +kernel

theorem test_decode_major_23_3 :
    reads 0x8DB65D23 (.vsubnSatI32 13 22 11 5) = true := by decide +kernel

theorem test_decode_major_24 :
    reads 0x91B65D00 (.vaddI16 13 22 11 5) = true
      ∧ reads 0x91B65D01 (.vsubI16 13 22 11 5) = true
      ∧ reads 0x91B65D02 (.vmulI16 13 22 11 5) = true
      ∧ reads 0x91B65D03 (.vmadI16 13 22 11 5) = true
      ∧ reads 0x91B65D04 (.vminI16 13 22 11 5) = true
      ∧ reads 0x91B65D05 (.vmaxI16 13 22 11 5) = true
      ∧ reads 0x91B65D06 (.vminnI16 13 22 11 5) = true
      ∧ reads 0x91B65D07 (.vmaxnI16 13 22 11 5) = true
      ∧ reads 0x91B65D08 (.vcmpEqI16 13 22 11 5) = true
      ∧ reads 0x91B65D09 (.vcmpNeI16 13 22 11 5) = true
      ∧ reads 0x91B65D0A (.vcmpLtI16 13 22 11 5) = true
      ∧ reads 0x91B65D0B (.vcmpLeI16 13 22 11 5) = true
      ∧ reads 0x91B65D0C (.vcmpLtnI16 13 22 11 5) = true
      ∧ reads 0x91B65D0D (.vcmpLenI16 13 22 11 5) = true := by decide +kernel

theorem test_decode_major_24_2 :
    reads 0x91B6030E (.vabsI16 13 22 3) = true
      ∧ reads 0x91B6030F (.vnegI16 13 22 3) = true
      ∧ reads 0x91B60390 (.vredSumI16 13 22 3 2) = true
      ∧ reads 0x91B60391 (.vredMaxI16 13 22 3 2) = true
      ∧ reads 0x91B60392 (.vredMinI16 13 22 3 2) = true
      ∧ reads 0x91B65D14 (.vandI16 13 22 11 5) = true
      ∧ reads 0x91B65D15 (.vorI16 13 22 11 5) = true
      ∧ reads 0x91B65D16 (.vxorI16 13 22 11 5) = true
      ∧ reads 0x91B65D17 (.vshlI16 13 22 11 5) = true
      ∧ reads 0x91B65D18 (.vshrI16 13 22 11 5) = true
      ∧ reads 0x91B65D19 (.vsraI16 13 22 11 5) = true
      ∧ reads 0x91B65D20 (.vaddSatI16 13 22 11 5) = true
      ∧ reads 0x91B65D21 (.vsubSatI16 13 22 11 5) = true
      ∧ reads 0x91B65D22 (.vaddnSatI16 13 22 11 5) = true := by decide +kernel

theorem test_decode_major_24_3 :
    reads 0x91B65D23 (.vsubnSatI16 13 22 11 5) = true := by decide +kernel

theorem test_decode_major_25 :
    reads 0x95B65D00 (.vaddI8 13 22 11 5) = true
      ∧ reads 0x95B65D01 (.vsubI8 13 22 11 5) = true
      ∧ reads 0x95B65D02 (.vmulI8 13 22 11 5) = true
      ∧ reads 0x95B65D03 (.vmadI8 13 22 11 5) = true
      ∧ reads 0x95B65D04 (.vminI8 13 22 11 5) = true
      ∧ reads 0x95B65D05 (.vmaxI8 13 22 11 5) = true
      ∧ reads 0x95B65D06 (.vminnI8 13 22 11 5) = true
      ∧ reads 0x95B65D07 (.vmaxnI8 13 22 11 5) = true
      ∧ reads 0x95B65D08 (.vcmpEqI8 13 22 11 5) = true
      ∧ reads 0x95B65D09 (.vcmpNeI8 13 22 11 5) = true
      ∧ reads 0x95B65D0A (.vcmpLtI8 13 22 11 5) = true
      ∧ reads 0x95B65D0B (.vcmpLeI8 13 22 11 5) = true
      ∧ reads 0x95B65D0C (.vcmpLtnI8 13 22 11 5) = true
      ∧ reads 0x95B65D0D (.vcmpLenI8 13 22 11 5) = true := by decide +kernel

theorem test_decode_major_25_2 :
    reads 0x95B6030E (.vabsI8 13 22 3) = true
      ∧ reads 0x95B6030F (.vnegI8 13 22 3) = true
      ∧ reads 0x95B60390 (.vredSumI8 13 22 3 2) = true
      ∧ reads 0x95B60391 (.vredMaxI8 13 22 3 2) = true
      ∧ reads 0x95B60392 (.vredMinI8 13 22 3 2) = true
      ∧ reads 0x95B65D14 (.vandI8 13 22 11 5) = true
      ∧ reads 0x95B65D15 (.vorI8 13 22 11 5) = true
      ∧ reads 0x95B65D16 (.vxorI8 13 22 11 5) = true
      ∧ reads 0x95B65D17 (.vshlI8 13 22 11 5) = true
      ∧ reads 0x95B65D18 (.vshrI8 13 22 11 5) = true
      ∧ reads 0x95B65D19 (.vsraI8 13 22 11 5) = true
      ∧ reads 0x95B65D20 (.vaddSatI8 13 22 11 5) = true
      ∧ reads 0x95B65D21 (.vsubSatI8 13 22 11 5) = true
      ∧ reads 0x95B65D22 (.vaddnSatI8 13 22 11 5) = true := by decide +kernel

theorem test_decode_major_25_3 :
    reads 0x95B65D23 (.vsubnSatI8 13 22 11 5) = true := by decide +kernel

theorem test_decode_major_26 :
    reads 0x99B60301 (.vcvtF32 13 22 3) = true
      ∧ reads 0x99B60302 (.vcvtBf16 13 22 3) = true
      ∧ reads 0x99B60303 (.vcvtF16 13 22 3) = true
      ∧ reads 0x99B60304 (.vcvtI32 13 22 3) = true
      ∧ reads 0x99B60305 (.vcvtI16 13 22 3) = true
      ∧ reads 0x99B60306 (.vcvtI8 13 22 3) = true
      ∧ reads 0x99B60307 (.vcvtE4m3 13 22 3) = true
      ∧ reads 0x99B60308 (.vcvtE5m2 13 22 3) = true
      ∧ reads 0x99B65D11 (.vcvtPF32 13 22 11 5) = true
      ∧ reads 0x99B65D12 (.vcvtPBf16 13 22 11 5) = true
      ∧ reads 0x99B65D13 (.vcvtPF16 13 22 11 5) = true
      ∧ reads 0x99B65D14 (.vcvtPI32 13 22 11 5) = true
      ∧ reads 0x99B65D15 (.vcvtPI16 13 22 11 5) = true
      ∧ reads 0x99B65D16 (.vcvtPI8 13 22 11 5) = true := by decide +kernel

theorem test_decode_major_26_2 :
    reads 0x99B65D17 (.vcvtPE4m3 13 22 11 5) = true
      ∧ reads 0x99B65D18 (.vcvtPE5m2 13 22 11 5) = true
      ∧ reads 0x9DB62C80 (.vrot 13 22 11 2) = true
      ∧ reads 0x9DB62C81 (.vbcast 13 22 11 2) = true
      ∧ reads 0xA0A61800 (.mand 5 6 3) = true
      ∧ reads 0xA0A61801 (.mor 5 6 3) = true
      ∧ reads 0xA0A61802 (.mxor 5 6 3) = true
      ∧ reads 0xA0A61803 (.mandn 5 6 3) = true
      ∧ reads 0xA0A60004 (.mnot 5 6) = true
      ∧ reads 0xA0B60008 (.mfromv 5 22) = true
      ∧ reads 0xA1A60009 (.mtov 13 6) = true
      ∧ reads 0xA1A6000A (.mpopc 13 6) = true
      ∧ reads 0xA1B65D10 (.vsel 13 22 11 5) = true := by decide +kernel

theorem test_decode_major_29 :
    reads 0xA5B60300 (.vexp2 13 22 3) = true
      ∧ reads 0xA5B60301 (.vlog2 13 22 3) = true
      ∧ reads 0xA5B60302 (.vrcp 13 22 3) = true
      ∧ reads 0xA5B60303 (.vrsq 13 22 3) = true
      ∧ reads 0xA5B60304 (.vtanh 13 22 3) = true
      ∧ reads 0xA5B60305 (.vsilu 13 22 3) = true := by decide +kernel

theorem test_decode_major_2A :
    reads 0xA9B60300 (.vmov 13 22 3) = true
      ∧ reads 0xA9B65802 (.vget 13 22 11) = true
      ∧ reads 0xA9B65803 (.vsete 13 22 11) = true
      ∧ reads 0xA9A00604 (.vidx 13 6) = true
      ∧ reads 0xA9B60311 (.vsplatF32 13 22 3) = true
      ∧ reads 0xA9B60312 (.vsplatBf16 13 22 3) = true
      ∧ reads 0xA9B60313 (.vsplatF16 13 22 3) = true
      ∧ reads 0xA9B60314 (.vsplatI32 13 22 3) = true
      ∧ reads 0xA9B60315 (.vsplatI16 13 22 3) = true
      ∧ reads 0xA9B60316 (.vsplatI8 13 22 3) = true
      ∧ reads 0xA9B60317 (.vsplatE4m3 13 22 3) = true
      ∧ reads 0xA9B60318 (.vsplatE5m2 13 22 3) = true
      ∧ reads 0xA9B60319 (.vsplatMask 13 22 3) = true := by decide +kernel

theorem test_decode_major_2B :
    reads 0xADBACAC0 (.vld 13 214 43) = true
      ∧ reads 0xADBACAC1 (.vst 13 214 43) = true
      ∧ reads 0xADBACAC2 (.vperm 13 214 43) = true := by decide +kernel

theorem test_decode_major_2C :
    reads 0xB1B65A8B (.vatomAddI32 13 22 11 5 3) = true
      ∧ reads 0xB1B65A9B (.vatomAddF32 13 22 11 5 3) = true
      ∧ reads 0xB1B65AAB (.vatomMinI32 13 22 11 5 3) = true
      ∧ reads 0xB1B65ABB (.vatomMaxI32 13 22 11 5 3) = true
      ∧ reads 0xB1B65ACB (.vatomAnd 13 22 11 5 3) = true
      ∧ reads 0xB1B65ADB (.vatomOr 13 22 11 5 3) = true
      ∧ reads 0xB1B65AEB (.vatomXor 13 22 11 5 3) = true
      ∧ reads 0xB1B65AFB (.vatomSwap 13 22 11 5 3) = true
      ∧ reads 0xB1B65A83 (.vatomAddI32Nr 13 22 11 5 3) = true
      ∧ reads 0xB1B65A93 (.vatomAddF32Nr 13 22 11 5 3) = true
      ∧ reads 0xB1B65AA3 (.vatomMinI32Nr 13 22 11 5 3) = true
      ∧ reads 0xB1B65AB3 (.vatomMaxI32Nr 13 22 11 5 3) = true
      ∧ reads 0xB1B65AC3 (.vatomAndNr 13 22 11 5 3) = true
      ∧ reads 0xB1B65AD3 (.vatomOrNr 13 22 11 5 3) = true := by decide +kernel

theorem test_decode_major_2C_2 :
    reads 0xB1B65AE3 (.vatomXorNr 13 22 11 5 3) = true
      ∧ reads 0xE2C00000 (.enq 2 6) = true
      ∧ reads 0xE2D00000 (.enqNb 2 6) = true
      ∧ reads 0xE40DB800 (.talloc 109 6) = true
      ∧ reads 0xE40DA001 (.tfree 109) = true
      ∧ reads 0xE40DA002 (.twait 109) = true
      ∧ reads 0xE40DB803 (.tset 109 6) = true
      ∧ reads 0xE5BAC004 (.tget 13 214) = true := by decide +kernel

theorem test_decode_major_3C :
    reads 0xF1A02D60 (.mfc 13 726) = true
      ∧ reads 0xF00D2D61 (.mtc 13 726) = true
      ∧ reads 0xF000D6D2 (.trap 3437) = true
      ∧ reads 0xF0000003 .rett = true
      ∧ reads 0xF0000004 .retry = true
      ∧ reads 0xF000D6D5 (.safept 3437) = true
      ∧ reads 0xF00D2D66 (.waitc 13 726) = true
      ∧ reads 0xF0000006 .taskExit = true
      ∧ reads 0xF0000057 (.valloc 5) = true
      ∧ reads 0xF000D6D8 (.waitx 3437) = true
      ∧ reads 0xF1B60009 (.snapopen 13 22) = true
      ∧ reads 0xF1B6000A (.snappub 13 22) = true := by decide +kernel

theorem test_decode_major_3D :
    reads 0xF4000080 (.tokw 8) = true
      ∧ reads 0xF4000071 (.toks 7) = true
      ∧ reads 0xF40002B2 (.semw 43) = true
      ∧ reads 0xF40002B3 (.sems 43) = true
      ∧ reads 0xF5A002B4 (.semr 13 43) = true
      ∧ reads 0xF4000025 (.pondSync 2) = true
      ∧ reads 0xFA008421 (.fence 4 33825) = true := by decide +kernel

/-- The words of the commands of table Engine commands (03 R99), on a ring that takes each. -/
theorem test_decode_rake_commands :
    readsOn .ri (cmd 0x00) (.tload .ri (cmd 0x00)) = true ∧ readsOn .ri (cmd 0x01) (.tloadt .ri (cmd 0x01)) = true
      ∧ readsOn .ro (cmd 0x02) (.tstore .ro (cmd 0x02)) = true ∧ readsOn .ro (cmd 0x03) (.tstoret .ro (cmd 0x03)) = true
      ∧ readsOn .ro (cmd 0x04) (.copy .ro (cmd 0x04)) = true ∧ readsOn .ri (cmd 0x05) (.fillTile .ri (cmd 0x05)) = true
      ∧ readsOn .ri (cmd 0x08000005) (.fillMemory .ri (cmd 0x08000005)) = true
      ∧ readsOn .ri (cmd 0x06) (.gather .ri (cmd 0x06)) = true ∧ readsOn .ro (cmd 0x07) (.scatter .ro (cmd 0x07)) = true
      ∧ readsOn .ri (cmd 0x08) (.bind .ri (cmd 0x08)) = true ∧ readsOn .ri (cmd 0x09) (.unbind .ri (cmd 0x09)) = true
      ∧ readsOn .ri (cmd 0x0A) (.bload .ri (cmd 0x0A)) = true ∧ readsOn .ri (cmd 0x0B) (.bwait .ri (cmd 0x0B)) = true
      ∧ readsOn .ro (cmd 0x0C) (.bdisc .ro (cmd 0x0C)) = true ∧ readsOn .ro (cmd 0x0D) (.bflush .ro (cmd 0x0D)) = true
      ∧ readsOn .ri (cmd 0x0E) (.rfetch .ri (cmd 0x0E)) = true ∧ readsOn .ro (cmd 0x0F) (.rsend .ro (cmd 0x0F)) = true
      ∧ readsOn .ri (cmd 0x10) (.migrate .ri (cmd 0x10)) = true ∧ readsOn .ro (cmd 0x11) (.twback .ro (cmd 0x11)) = true
      ∧ readsOn .ro (cmd 0x12) (.cinv .ro (cmd 0x12)) = true ∧ readsOn .ri (cmd 0x13) (.mark .ri (cmd 0x13)) = true := by
  decide +kernel

theorem test_decode_kv_and_matrix_commands :
    readsOn .ro (cmd 0x40) (.kvappend .ro (cmd 0x40)) = true ∧ readsOn .ro (cmd 0x41) (.kvgrow .ro (cmd 0x41)) = true
      ∧ readsOn .ro (cmd 0x42) (.kvcow .ro (cmd 0x42)) = true ∧ readsOn .ro (cmd 0x43) (.kvremap .ro (cmd 0x43)) = true
      ∧ readsOn .ri (cmd 0x44) (.pfxwalk .ri (cmd 0x44)) = true ∧ readsOn .ro (cmd 0x45) (.pfxins .ro (cmd 0x45)) = true
      ∧ readsOn .ro (cmd 0x46) (.pfxrelSequence .ro (cmd 0x46)) = true
      ∧ readsOn .ro (cmd 0x08000046) (.pfxrelList .ro (cmd 0x08000046)) = true
      ∧ readsOn .ro (cmd 0x47) (.pfxdirClaim .ro (cmd 0x47)) = true
      ∧ readsOn .ro (cmd 0x100000047) (.pfxdirShare .ro (cmd 0x100000047)) = true
      ∧ readsOn .ro (cmd 0x200000047) (.pfxdirDrop .ro (cmd 0x200000047)) = true
      ∧ readsOn .mx (cmd 0x48) (.attnr .mx (cmd 0x48)) = true ∧ readsOn .mx (cmd 0x60) (.mmul .mx (cmd 0x60)) = true
      ∧ readsOn .mx (cmd 0x61) (.mmul2 .mx (cmd 0x61)) = true ∧ readsOn .mx (cmd 0x62) (.attn .mx (cmd 0x62)) = true
      ∧ readsOn .mx (cmd 0x63) (.mxv .mx (cmd 0x63)) = true ∧ readsOn .mx (cmd 0x64) (.mzero .mx (cmd 0x64)) = true
      ∧ readsOn .mx (cmd 0x65) (.sinit .mx (cmd 0x65)) = true ∧ readsOn .mx (cmd 0x66) (.sfin .mx (cmd 0x66)) = true
      ∧ readsOn .mx (cmd 0x67) (.smerge .mx (cmd 0x67)) = true ∧ readsOn .mx (cmd 0x68) (.scopy .mx (cmd 0x68)) = true := by
  decide +kernel

/-- The words that 03 R92 shows at work, an undefined minor (03 R91), and undefined values with their field's lowest bit. -/
theorem test_decode_refuses :
    refuses 0xFC000000 .illegalOpcode = true ∧ refuses 0x00A63E40 (.illegalField 6) = true
      ∧ refuses 0xE3400000 (.illegalField 24) = true ∧ reads 0xE2000000 (.enq 2 0) = true
      ∧ refuses 0x0000007F .illegalOpcode = true ∧ refuses 0x3C050000 (.illegalField 0) = true
      ∧ refuses 0xF0000097 (.illegalField 4) = true := by decide +kernel

/-! ## States that meet the claims' premises -/

/-- A page of local HBM at virtual address 0x20000, open to every access. -/
def page : TlbEntry := { asid := 0, level := 0, vpage := 2, leaf := placedLeaf, leafPa := 0, wheat := true }

/-- A context that runs in task mode with a trap handler, eight groups of vector registers and a live-mask table. -/
def ctx0 : Ctx :=
  { Ctx.vacant with status := .active, pc := 0x10000,
                    ctl := { Ctl.zero with tvec := 0x1000, vCount := 8, vLimit := 8, lmtlim := 4 } }

/-- A READY device whose context 0 runs. -/
def run : State :=
  { State.reset with ctx := ctx0, clu := { ClusterSt.blank with tlb := [page] }, dev := { Device.reset with state := .ready } }

/-- The same in kernel mode, with task-mode state to return to. -/
def kern : State := run.setCtl fun c => { c with kernel := true, tpc := 0x8000 }

/-- The same with a trap handler missing. -/
def bare : State := run.setCtl fun c => { c with tvec := 0 }

/-- A task of launch 0, member 0, group 0. -/
def job0 : Job := { launch := 0, mem := 0, group := 0, prologue := false, issued := 0 }

/-- A worker of the sluice whose next word is a VADD, which no worker runs. -/
def worker : State :=
  let s := run.focus 640
  let c : Ctx := { ctx0 with job := some { job0 with prologue := true } }
  State.placeWord { s with ctx := c } 0x81B65D00

/-- s3 and s5 are poisoned; s4 holds the address of the open page, s6 an address that is not mapped. -/
def regs : State :=
  (((run.setReg 3 7 true).setReg 5 9 true).setReg 4 0x20000 false).setReg 6 0x40000 false

/-- What an access that goes on leaves satisfies `f`. -/
def goesOn (r : Except Stop (State × Nat × BitVec 64)) (f : State → Nat → BitVec 64 → Bool) : Bool :=
  match r with
  | .ok (s1, pa, leaf) => f s1 pa leaf
  | .error _ => false

/-- Nothing of the context is on its way to memory. -/
def still (s : State) : Bool := s.ctx.posted.isEmpty && s.ctx.cmds.isEmpty && s.ctx.peer.isEmpty && s.ctx.loop.held.isEmpty

/-- A loop level over the words 0x10000 to 0x10010. -/
def level (isS : Bool) : Level :=
  { isS := isS, start := 0x10000, stop := 0x10010, count := 3, epi := 1, iter := 0, rlog := 2, nst := 1 }

/-- The context inside one loop. -/
def looping (isS : Bool) : State := regs.setLevels [level isS]

/-- A vector register of tag `t`. -/
def vreg (t : BitVec 4) : VReg := { data := List.replicate 1024 5, tag := t, power := .active }

/-- Vector registers v0 to v3 hold tag `t`. -/
def vecs (t : BitVec 4) : State :=
  { regs with core := { regs.core with vregs := ((((regs.core.vregs.set 0 (vreg t)).set 1 (vreg t)).set 2 (vreg t)).set 3 (vreg t)) } }

/-- The outcome is a next state. -/
def goesTo (o : Host.Outcome State Fault Refusal) : Bool :=
  match o with
  | .next _ => true
  | _ => false

theorem goesTo_next {o : Host.Outcome State Fault Refusal} (h : goesTo o = true) : ∃ t : State, o = .next t := by
  unfold goesTo at h
  split at h
  · exact ⟨_, rfl⟩
  · cases h


/-! ## Results, from the rules and their examples -/

/-- s1 holds `x` and s2 holds `y`, in task mode. -/
def two (x y : Word) : State := (run.setReg 1 x false).setReg 2 y false

/-- Register `d` after an outcome. -/
def regIs (o : Host.Outcome State Fault Refusal) (d : BitVec 5) (v : Word) : Bool :=
  match o with
  | .next s => s.reg d == v && !s.regPoison d
  | _ => false

/-- 04 R112: `.i8` sums wrap or clamp, NEG.sat of a non-zero unsigned value is 0, ABS of the least value wraps. -/
theorem test_integer_edges :
    regIs (exec (.add 3 1 2 0 0 0) (two 0x7F 1)) 3 0xFFFFFFFFFFFFFF80 = true
    ∧ regIs (exec (.add 3 1 2 0 0 1) (two 0x7F 1)) 3 0x7F = true
    ∧ regIs (exec (.neg 3 1 0 1 1) (two 5 0)) 3 0 = true
    ∧ regIs (exec (.abs 3 1 0 0 0) (two 0x80 0)) 3 0xFFFFFFFFFFFFFF80 = true
    ∧ regIs (exec (.ext 3 1 1 0) (two 0x18000 0)) 3 0xFFFFFFFFFFFF8000 = true := by decide +kernel

/-- 04 R113: quotients go toward zero, by zero they are all ones, and −2^(w−1) by −1 wraps. -/
theorem test_divisions :
    regIs (exec (.div 3 1 2 0 0 0) (two 0xF9 2)) 3 0xFFFFFFFFFFFFFFFD = true
    ∧ regIs (exec (.rem 3 1 2 0 0) (two 0xF9 2)) 3 0xFFFFFFFFFFFFFFFF = true
    ∧ regIs (exec (.div 3 1 2 0 1 0) (two 7 0)) 3 0xFF = true
    ∧ regIs (exec (.rem 3 1 2 0 1) (two 7 0)) 3 7 = true
    ∧ regIs (exec (.div 3 1 2 0 0 0) (two 0x80 0xFF)) 3 0xFFFFFFFFFFFFFF80 = true := by decide +kernel

/-- 04 R114: `shl.i8` by 9 shifts by 1. 04 R117: SLTIN compares against the sign-extended immediate. -/
theorem test_shifts_and_immediates :
    regIs (exec (.shl 3 1 2 0 0) (two 1 9)) 3 2 = true
    ∧ regIs (exec (.srai 3 1 3) (two 0xFFFFFFFFFFFFFFF0 0)) 3 0xFFFFFFFFFFFFFFFE = true
    ∧ regIs (exec (.sltin 3 1 0xFFFF) (two 5 0)) 3 1 = true
    ∧ regIs (exec (.addis 3 1 0x8000) (two 0 0)) 3 0xFFFFFFFF80000000 = true := by decide +kernel

/-- 04 R120: `jlr s31, s31` calls the routine whose address s31 held. -/
theorem test_jlr_reads_before_it_writes :
    (match exec (.jlr 31 31) (run.setReg 31 0x4000 false) with
     | .next s => s.ctx.pc == 0x4000 && s.reg 31 == 0x10004
     | _ => false) = true := by decide +kernel

/-- 04 R124: a count of 0 skips the body and opens no level. -/
theorem test_loop_of_zero :
    (match exec (.loop 1 8) (two 0 0) with
     | .next s => s.ctx.pc == 0x10000 + 4 + 32 && s.ctx.loop.levels.isEmpty
     | _ => false) = true := by decide +kernel

/-- 04 R135: a store's bytes are little-endian, a misaligned one traps MISALIGNED_DATA with its size, and a poisoned address
register ends the task (13 R409). -/
theorem test_store_and_trap :
    (match exec (.st 1 4 0 1 1) ((two 0x1234 0).setReg 4 0x20000 false) with
     | .next s => s.drain.dev.mem.read 0x100002 == 0x34 && s.drain.dev.mem.read 0x100003 == 0x12
     | _ => false) = true
    ∧ (match exec (.st 1 4 0 1 1) ((two 0x1234 0).setReg 4 0x20001 false) with
       | .next s => s.ctx.ctl.kernel && s.ctx.ctl.tcode == 0x181 && s.ctx.ctl.tinfo == 1 && s.ctx.pc == 0x4000
       | _ => false) = true
    ∧ (match exec (.st 1 3 0 1 1) regs with
       | .next s => s.ctx.ending == some (.killed 0x08 0x180 3 0x10000)
       | _ => false) = true := by decide +kernel

/-- 02: 300.0 becomes 288 in E4M3, and 470.0 becomes 448, or NaN under FMODE.SAT. -/
theorem test_e4m3 :
    fmtE4m3.round .nearestEven (.conv false) (.fin false 300 0) = 0x79
    ∧ fmtE4m3.round .nearestEven (.conv false) (.fin false 470 0) = 0x7E
    ∧ fmtE4m3.round .nearestEven (.conv true) (.fin false 470 0) = 0x7F := by decide +kernel

/-- 02 R74: the check over the nine bytes "123456789". -/
theorem test_grain_check :
    ([0x31, 0x32, 0x33, 0x34, 0x35, 0x36, 0x37, 0x38, 0x39] : List Byte).foldl crcByte 0xFFFF = 0x29B1 := by decide +kernel

/-! ## The premises of the claims are met -/

theorem witness_InstructionWordsRoundTrip :
    (Instr.loopS 4 2 15 0xFFF).wf = true ∧ encode (.loopS 4 2 15 0xFFF) = some 0x3D82FFFF
      ∧ (Instr.loop 31 1).wf = true ∧ encode (.loop 31 1) = some 0x3C1F0001 := by decide

theorem witness_EngineCommandsRoundTrip :
    (Instr.fillMemory .ri (cmd 0x08000005)).wf = true
      ∧ encodeCommand (.fillMemory .ri (cmd 0x08000005)) = some (.ri, cmd 0x08000005) := by decide

/-- The agenda of the running state is empty and the context in focus has the next turn: its step goes on. -/
theorem witness_AgendaInvariantKept :
    agendaServes (run.placeWord 0x01B65D00) ∧ (run.placeWord 0x01B65D00).turns = []
      ∧ ∃ t, step (run.placeWord 0x01B65D00) = .next t := by
  refine ⟨fun _ _ => ⟨by decide +kernel, by decide +kernel, by decide +kernel, .inr ⟨by decide +kernel, by decide +kernel⟩⟩, rfl, ?_⟩
  exact goesTo_next (by decide +kernel)

theorem witness_StepRunsTheFetchedInstruction :
    (let s := run.placeWord 0x01B65D00
     s.dev.powered = true ∧ s.turns = [] ∧ s.ctx.status = .active ∧ s.ctx.ending = none ∧ s.ctx.loop.rolling = false
      ∧ s.ctx.vatom = none ∧ s.ctx.loop.release = [] ∧ s.onWorker = false ∧ s.ctx.pc.toNat % 4 = 0
      ∧ goesOn (s.elapse.awake.access s.ctx.pc .fetch) (fun s1 pa leaf =>
          let w := wordAt s1 pa leaf
          let t := issuing s1 pa leaf
          decide (residency pa ≠ 3) && !(s1.readPhys pa 4 leaf).2.2 && !t.overdue w && reads w (.add 13 22 11 2 1 0)) = true)
    ∧ (let s0 := run.placeWord 0x01B65D00
       let s : State := { s0 with ctx := { s0.ctx with sinceSafe := 4096 } }
       goesOn (s.elapse.awake.access s.ctx.pc .fetch) (fun s1 pa leaf =>
         let w := wordAt s1 pa leaf
         let t := issuing s1 pa leaf
         t.overdue w && reads w (.add 13 22 11 2 1 0) && !failsWord (exec (.add 13 22 11 2 1 0) t)) = true)
    ∧ (let s := run.placeWord 0xFC000000
       s.turns = [] ∧ s.onWorker = false
        ∧ goesOn (s.elapse.awake.access s.ctx.pc .fetch) (fun s1 pa leaf =>
            decide (residency pa ≠ 3) && !(s1.readPhys pa 4 leaf).2.2 && refuses (wordAt s1 pa leaf) .illegalOpcode) = true)
    ∧ (let s := worker
       s.onWorker = true ∧ s.turns = [] ∧ s.ctx.job.any (fun j => decide (65536 ≤ j.issued)) = false
        ∧ goesOn (s.elapse.awake.access s.ctx.pc .fetch) (fun s1 pa leaf =>
            decide (residency pa ≠ 3) && !workerRuns (wordAt s1 pa leaf)) = true) := by decide +kernel

/-- MARK at the head of RI; the same with a ring of context 1 next in the engine's order; and what is on the agenda. -/
theorem witness_StepRunsTheFetchedInstruction_turns :
    (let s := run.placeCommand (cmd 0x13)
     let e : State := { s.elapse with turns := [] }
     let s0 : State := { e with core := e.core.served s.here .ri }
     s.dev.powered = true ∧ s.turns = [.engine s.here .ri] ∧ (e.fullRings .ri).head? = some (s.here, .ri)
      ∧ (s.ring .ri).faulting = none ∧ (s.ring .ri).halt = false
      ∧ (∀ c ∈ s.ctx.cmds, c.ring = .ri → c.stage ≠ .moved ∧ c.stage ≠ .issued)
      ∧ s0.canSignal .ri = false ∧ (s.head .ri).isSome = true
      ∧ (match s0.readHead .ri with
         | (_, some k) => readsOn .ri k.cmd (.mark .ri (cmd 0x13))
         | _ => false) = true)
    ∧ (let s0 := run.placeCommand (cmd 0x13)
       let s : State := { s0 with ctxs := s0.ctxs.set 1 s0.ctx, core := s0.core.served 0 .ri }
       let e : State := { s.elapse with turns := [] }
       s.turns = [.engine s.here .ri] ∧ (s.ctx.cmds.any fun k => k.ring == .ri) = true
        ∧ (e.fullRings .ri).head? = some (1, .ri))
    ∧ (let s : State := { run with turns := [.own 0 .stallClear, .input 0 .heatSweep] }
       s.dev.powered = true ∧ s.turns = [.own 0 .stallClear, .input 0 .heatSweep]) := by decide +kernel

theorem witness_OnlyPowerLossStops :
    (let s : State := { run with dev := { run.dev with powered := false } }
     s.dev.powered = false ∧ s.turns = [])
    ∧ (let s : State := { run with dev := { run.dev with powered := false }, turns := [.input 0 .coldReset] }
       s.dev.powered = false ∧ s.turns = [.input 0 .coldReset])
    ∧ (let s : State := { run with dev := { run.dev with powered := false }, turns := [.stream 0] }
       s.dev.powered = false ∧ s.turns = [.stream 0] ∧ ∀ p, Turn.stream 0 ≠ .input p .coldReset)
    ∧ run.dev.powered = true :=
  ⟨⟨rfl, rfl⟩, ⟨rfl, rfl⟩, ⟨rfl, rfl, fun _ h => by cases h⟩, rfl⟩

theorem witness_ZeroRegisterAndRegisterFile : (31 : BitVec 5) ≠ 0 ∧ (0 : BitVec 5) ≠ 31 := by decide

theorem witness_TrapsAreTaken :
    (run.onWorker = false ∧ run.kernel = false ∧ causeMisalignedPc ≠ 0x180 ∧ run.ctx.ctl.tvec ≠ 0)
    ∧ (kern.onWorker = false ∧ causeMisalignedPc ≠ 0x180 ∧ kern.kernel = true)
    ∧ (bare.onWorker = false ∧ bare.kernel = false ∧ bare.ctx.ctl.tvec = 0) := by decide +kernel

theorem witness_TrapRettAndRetry :
    (kern.kernel = true ∧ ∀ r, (kern.ring r).halt = false) ∧ run.kernel = false
    ∧ (let s := kern.updRing .ro fun x => { x with halt := true, pend := true }
       s.kernel = true ∧ (s.ring .ro).pend = true ∧ (s.ring .ri).pend = false) :=
  ⟨⟨by decide +kernel, fun r => by cases r <;> rfl⟩, by decide +kernel, by decide +kernel⟩

theorem witness_AluResults :
    operand 3 0 (run.reg 1) = 0 ∧ operand 0 0 (regs.reg 4 + 0x80) ≠ 0 := by decide +kernel

theorem witness_CompareAndImmediateResults : regs.reg 4 ≠ 0 ∧ regs.reg 1 = 0 := by decide +kernel

theorem witness_ScalarInstructionsChangeTheirRegister :
    scalarDest (.add 1 2 3 3 0 0) = some 1 ∧ scalarDest (.rori 31 2 63) = some 31 ∧ run.atBodyEnd = false
      ∧ ∃ t : State, exec (.add 1 2 3 3 0 0) run = .next t := ⟨rfl, rfl, by decide +kernel, _, rfl⟩

theorem witness_ConditionalBranches :
    (regs.regPoison 1 = false ∧ regs.regPoison 4 = false) ∧ (regs.regPoison 3 = true ∧ regs.regPoison 5 = true)
      ∧ (regs.regPoison 5 = true ∧ regs.regPoison 1 = false) := by decide +kernel

theorem witness_RelativeJumps :
    kern.kernel = true ∧ (∀ lv ∈ (looping false).ctx.loop.levels, lv.start ≤ (looping false).ctx.pc + 4 * (4 : BitVec 26).signExtend 64
      ∧ (looping false).ctx.pc + 4 * (4 : BitVec 26).signExtend 64 ≤ lv.stop) := by decide +kernel

theorem witness_RegisterJumps :
    (regs.regPoison 4 = false ∧ (regs.reg 4).toNat % 4 = 0 ∧ regs.ctx.loop.levels = []) ∧ regs.regPoison 3 = true
      ∧ (let s := regs.setReg 7 0x20001 false; s.regPoison 7 = false ∧ (s.reg 7).toNat % 4 ≠ 0) := by decide +kernel

theorem witness_JumpsLeaveLoops :
    ((looping false).kernel = false ∧ (looping false).inLoopS = false ∧ (looping false).ctx.loop.levels.length ≤ 4)
      ∧ kern.kernel = true := by decide +kernel

theorem witness_LoopsOpen :
    (regs.regPoison 3 = true)
    ∧ (looping true).inLoopS = true ∧ (regs.setLevels (List.replicate 4 (level false))).ctx.loop.levels.length = 4
    ∧ kern.kernel = true
    ∧ ((looping false).kernel = false ∧ (looping false).ctx.loop.levels.length ≠ 4 ∧ (looping false).inLoopS = false
        ∧ (looping false).regPoison 4 = false ∧ (looping false).reg 4 ≠ 0 ∧ (looping false).reg 1 = 0
        ∧ (∃ lv, (looping false).ctx.loop.levels.head? = some lv ∧ lv.stop < (looping false).ctx.pc + 4 * (5 : BitVec 12).setWidth 64)
        ∧ (∀ lv, (looping false).ctx.loop.levels.head? = some lv → (looping false).ctx.pc + 4 * (4 : BitVec 12).setWidth 64 ≤ lv.stop))
    ∧ (8 * 4 = 16 + 2 ^ (4 : BitVec 3).toNat ∧ (looping false).ctx.ctl.vCount = 8)
    ∧ ((7 : BitVec 4).toNat * 4 < 16 + 2 ^ (4 : BitVec 3).toNat) :=
  ⟨by decide +kernel, by decide +kernel, by decide +kernel, by decide +kernel,
    ⟨by decide +kernel, by decide +kernel, by decide +kernel, by decide +kernel, by decide +kernel, by decide +kernel,
      ⟨_, rfl, by decide +kernel⟩, fun lv h => by cases h; decide +kernel⟩, by decide +kernel, by decide⟩

/-- At the last word of a body: with count left, with none left, and with the next level ending there as well. -/
theorem witness_LoopBodiesEnd :
    (let s := (run.setLevels [level false]).setPc 0x10010
     s.kernel = false ∧ s.ctx.loop.levels = [level false] ∧ (level false).isS = false ∧ (level false).stop = s.ctx.pc
      ∧ (level false).count ≠ 0)
    ∧ (let l0 := { level false with count := 0 }
       let s := (run.setLevels [l0, level false]).setPc 0x10010
       s.kernel = false ∧ s.ctx.loop.levels = [l0, level false] ∧ l0.count = 0 ∧ (level false).stop = s.ctx.pc
        ∧ (level false).count ≠ 0)
    ∧ (let l0 := { level false with count := 0 }
       let l1 := { level false with stop := 0x10014 }
       l0.count = 0 ∧ l1.stop ≠ 0x10010)
    ∧ (let s := (run.setLevels [level true]).setPc 0x10010
       s.kernel = false ∧ s.ctx.loop.levels = [level true] ∧ (level true).isS = true ∧ (level true).stop = s.ctx.pc
        ∧ (level true).rlog ≤ 4 ∧ s.ctx.ctl.vrb.toNat < 2 ^ (level true).rlog ∧ s.ctx.loop.held = [] ∧ s.ctx.posted = []
        ∧ s.ctx.loop.release = [] ∧ s.ctx.pendingFault = none ∧ s.ctx.ctl.preq = false ∧ (level true).count ≠ 0
        ∧ ({ level true with count := 0 } : Level).epi ≠ 0 ∧ ({ level true with epi := 0 } : Level).epi = 0) := by decide +kernel

theorem witness_HeldStores :
    (regs.setLevels [level true]).holding = true ∧ regs.regPoison 4 = false ∧ (memVa regs 4 3 0).toNat % 2 ^ 3 = 0
      ∧ (looping true).ctx.loop.storeCount < 64
      ∧ goesOn ((looping true).access (memVa (looping true) 4 3 0) .write) (fun s1 _ _ => s1.holding && s1.ctx.posted.isEmpty) = true
      ∧ (let r : Posted := { pa := 0x100000, leaf := 0, va := 0x20000, size := 3, op := none, data := 0x55, poison := false,
                             cls := 0, scope := 0, vlane := false, rel := false, before := 0, seq := 0 }
         64 ≤ ((looping true).setLoop fun l => { l with held := List.replicate 64 (.post r) }).ctx.loop.storeCount
          ∧ r.op = none ∧ 7 < 2 ^ r.size ∧ r.size ≤ 3) := by decide +kernel

/-- A 4-byte atomic at the open page, its home, and one at a poisoned line. -/
theorem witness_AtomicResults :
    regs.regPoison 4 = false ∧ regs.holding = false ∧ (regs.reg 4).toNat % 2 ^ (2 + (1 : BitVec 1).toNat) = 0
      ∧ goesOn (regs.access (regs.reg 4) .atomic) (fun s1 pa leaf =>
          still s1 && s1.atomicHome pa leaf && decide (residency pa ≠ 3) && decide (s1.reg 4 = regs.reg 4)) = true := by
  decide +kernel

theorem witness_RedResults :
    goesOn (regs.access (regs.reg 4) .atomic) (fun s1 pa leaf =>
        s1.atomicHome pa leaf && !s1.holding && decide (s1.reg 4 = regs.reg 4)) = true
    ∧ (let r : Posted := { pa := 0x100000, leaf := 0, va := 0x20000, size := 3, op := some .maxn, data := 0x55, poison := false,
                           cls := 0, scope := 0, vlane := false, rel := false, before := 0, seq := 0 }
       let s : State := { run with ctx := { run.ctx with posted := [r] } }
       s.ctx.posted = [r] ∧ s.ctx.cmds = [] ∧ s.ctx.peer = [] ∧ r.op = some .maxn ∧ AtomOp.maxn ≠ .cas ∧ r.size ≤ 3
        ∧ residency r.pa ≠ 3) := by decide +kernel

theorem witness_MemoryLaws :
    Memory.wf [(0, 1), (4, 255)] = true ∧ Memory.wf [] = true := by decide

/-- A device with one clean line cached. -/
def cached : State :=
  { regs with dev := { regs.dev with lines := [{ pa := 0x100000, data := List.replicate 128 3, dirty := true, poison := false,
                                                 excl := true, mode := 0, stale := false }] } }

theorem cached_populated (pa : Nat) : cached.dev.poolPopulated pa = false := by
  have h : ∀ k, (cached.dev.modules.toList.getD k Module.absent).extents = [] := by
    intro k
    have hm : cached.dev.modules.toList
        = List.replicate 4 { extents := [], headA := false, headB := false, unreachable := false } := rfl
    rw [hm, List.getD_eq_getElem?_getD, List.getElem?_replicate]
    split <;> rfl
  unfold Device.poolPopulated
  rw [h]
  rfl

theorem cached_plain : plainDevice cached.dev := by
  refine ⟨by decide +kernel, by decide +kernel, by decide +kernel, by decide +kernel, fun pa => ?_, by decide +kernel⟩
  unfold Device.poolGone
  rw [cached_populated, cached_populated]
  have h : (residency pa == 2) = (residency (lineOf pa) == 2) := by
    unfold residency lineOf
    rw [Bool.eq_iff_iff]
    simp only [beq_iff_eq]
    repeat' split
    all_goals omega
  simp [h]

theorem witness_LoadAndStoreFrame :
    plainDevice cached.dev
    ∧ (∃ s1 pa leaf, cached.access (memVa cached 4 3 0) .write = .ok (s1, pa, leaf) ∧ s1.dev = cached.dev ∧ still s1 = true
      ∧ residency pa ≠ 3 ∧ pa % 2 ^ 3 = 0 ∧ cached.inLoopS = false ∧ s1.inLoopS = false ∧ s1.dev.poolGone pa = false)
    ∧ cached.regPoison 4 = false ∧ (memVa cached 4 3 0).toNat % 2 ^ 3 = 0
    ∧ (∃ t : State, exec (.st 1 4 0 3 0) cached = .next t) ∧ ∃ t : State, exec (.ldN 1 4 0 3 0) cached = .next t :=
  ⟨cached_plain, ⟨_, _, _, rfl, rfl, by decide +kernel, by decide +kernel, by decide +kernel, by decide +kernel, by decide +kernel,
      by decide +kernel⟩, by decide +kernel, by decide +kernel, goesTo_next (by decide +kernel),
    goesTo_next (by decide +kernel)⟩

theorem witness_LoadAndStoreResults :
    regs.regPoison 4 = false ∧ regs.regPoison 1 = false ∧ regs.holding = false
    ∧ (memVa regs 4 3 1023).toNat % 2 ^ 3 = 0 ∧ (memXVa regs 4 1 3).toNat % 2 ^ 3 = 0
    ∧ goesOn (regs.access (memVa regs 4 3 1023) .read) (fun s1 pa _ => still s1 && decide (residency pa ≠ 3)) = true
    ∧ goesOn (regs.access (memXVa regs 4 1 3) .read) (fun s1 pa _ => still s1 && decide (residency pa ≠ 3)) = true
    ∧ goesOn (regs.access (memVa regs 4 3 1023) .write)
        (fun s1 pa _ => still s1 && !s1.holding && decide (residency pa ≠ 3)) = true
    ∧ goesOn (regs.access (memXVa regs 4 1 3) .write)
        (fun s1 pa _ => still s1 && !s1.holding && decide (residency pa ≠ 3)) = true := by decide +kernel

/-- Misaligned, poisoned and unmapped addresses, an atomic in LOOP.S and one on a page of host memory. -/
theorem witness_ScalarMemoryTraps :
    regs.regPoison 3 = true ∧ (let s := regs.setReg 7 0x20001 false; s.regPoison 7 = false ∧ (memVa s 7 3 0).toNat % 2 ^ 3 ≠ 0)
    ∧ (let s := regs.setReg 7 0x20001 false; s.regPoison 7 = false ∧ s.regPoison 1 = false ∧ (memXVa s 7 1 1).toNat % 2 ^ 1 ≠ 0)
    ∧ ((memVa regs 6 3 0).toNat % 2 ^ 3 = 0 ∧ regs.regPoison 6 = false
        ∧ (match regs.translate regs.kernel (memVa regs 6 3 0).toNat .read with
           | (_, .fault _ _) => true
           | _ => false) = true)
    ∧ ((looping true).holding = true ∧ (looping true).regPoison 4 = false ∧ ((looping true).reg 4).toNat % 2 ^ 3 = 0)
    ∧ (let s : State := { regs with clu := { regs.clu with tlb := [{ page with leaf := BitVec.ofNat 64 (3 * 2 ^ 50 + 0x71) }] } }
       s.holding = false ∧ goesOn (s.access (s.reg 4) .atomic) (fun s1 pa leaf => !s1.atomicHome pa leaf) = true)
    ∧ (5 : BitVec 5).toNat % 2 = 1 := by decide +kernel

theorem witness_CachedAccessesAreTransparent :
    plainDevice cached.dev ∧ 0x100078 % 128 + 8 ≤ 128 ∧ cached.dev.poolGone 0x100078 = false :=
  ⟨cached_plain, by decide, by decide +kernel⟩


/-! ### The vector pipe -/

/-- What `holds` says, as a test. -/
def isHeld (s : State) (t : BitVec 4) (n : BitVec 5) : Bool :=
  decide (n.toNat < 4 * s.ctx.ctl.vCount.toNat) && decide ((s.vreg n).tag = t) && decide (t ≠ 0x0) && decide (t ≠ 0xE)
    && decide ((s.vreg n).data.length = 1024)

theorem holds_of {s : State} {t : BitVec 4} {n : BitVec 5} (h : isHeld s t n = true) : holds s t n := by
  simpa [isHeld, holds, and_assoc] using h

theorem witness_VectorFloatArithmetic :
    ∀ t : BitVec 4, t = 1 ∨ t = 2 ∨ t = 3 → (0 : BitVec 5).toNat < 4 * (vecs t).ctx.ctl.vCount.toNat ∧ holds (vecs t) t 1
      ∧ holds (vecs t) t 2 ∧ holds (vecs t) t 0 := by
  rintro t (rfl | rfl | rfl) <;>
    exact ⟨by decide +kernel, holds_of (by decide +kernel), holds_of (by decide +kernel),
      holds_of (by decide +kernel)⟩

theorem witness_VectorCompares :
    (31 : BitVec 5).toNat < 4 * (vecs 1).ctx.ctl.vCount.toNat ∧ holds (vecs 1) 1 1 ∧ holds (vecs 6) 6 2 :=
  ⟨by decide +kernel, holds_of (by decide +kernel), holds_of (by decide +kernel)⟩

theorem witness_VectorReductions :
    ((1 : BitVec 2) = 1 ∨ (1 : BitVec 2) = 2) ∧ (31 : BitVec 5).toNat < 4 * (vecs 3).ctx.ctl.vCount.toNat ∧ holds (vecs 3) 3 1
      ∧ holds (vecs 5) 5 1 :=
  ⟨by decide, by decide +kernel, holds_of (by decide +kernel), holds_of (by decide +kernel)⟩

theorem witness_VectorMoves :
    (0 : BitVec 5).toNat < 4 * (vecs 2).ctx.ctl.vCount.toNat ∧ holds (vecs 2) 2 1 ∧ holds (vecs 2) 2 0 ∧ holds (vecs 2) 2 3
      ∧ (vecs 2).regPoison 4 = false ∧ (15 : BitVec 6).toNat < 16 :=
  ⟨by decide +kernel, holds_of (by decide +kernel), holds_of (by decide +kernel),
    holds_of (by decide +kernel), by decide +kernel, by decide⟩

theorem witness_MaskInstructions :
    (7 : BitVec 3) ≠ 0 ∧ (31 : BitVec 5).toNat < 4 * regs.ctx.ctl.vCount.toNat ∧ holds (vecs 4) 4 3 :=
  ⟨by decide, by decide +kernel, holds_of (by decide +kernel)⟩

/-- Masks m1 (row 0 alone) and the destinations of the clauses: tag kept, VOID and POISON. -/
theorem witness_VectorWriteBack :
    (let s := vecs 4
     s.holding = false ∧ s.vphys 1 < 32 ∧ (List.replicate 1024 (7 : Elem)).length = 1024 ∧ (s.vreg 1).data.length = 1024
      ∧ (s.mask 0).getLsbD 1023 = true ∧ (1 : BitVec 3) ≠ 0 ∧ (s.mask 1).getLsbD 1023 = false ∧ (s.vreg 1).tag = 4
      ∧ (s.vreg 31).tag = 0x0 ∧ (s.vreg 31).data.length = 1024)
    ∧ ((vecs 0xE).vreg 1).tag = 0xE := by decide +kernel

theorem witness_VectorIntegerResults :
    ∀ t : BitVec 4, t = 4 ∨ t = 5 ∨ t = 6 → (0 : BitVec 5).toNat < 4 * (vecs t).ctx.ctl.vCount.toNat ∧ holds (vecs t) t 1
      ∧ holds (vecs t) t 2 ∧ holds (vecs t) t 0 := by
  rintro t (rfl | rfl | rfl) <;>
    exact ⟨by decide +kernel, holds_of (by decide +kernel), holds_of (by decide +kernel),
      holds_of (by decide +kernel)⟩

theorem witness_VectorConversionsAndSpecialFunctions :
    (0 : BitVec 5).toNat < 4 * (vecs 7).ctx.ctl.vCount.toNat ∧ holds (vecs 7) 7 1 ∧ holds (vecs 7) 7 2 ∧ holds (vecs 1) 1 3 :=
  ⟨by decide +kernel, holds_of (by decide +kernel), holds_of (by decide +kernel),
    holds_of (by decide +kernel)⟩

/-- An allocation of one group: v3 lies inside, v4 outside. -/
theorem witness_VectorOperands :
    (let s := (vecs 4).setCtl fun c => { c with vCount := 1 }
     (3 : BitVec 5).toNat < 4 * s.ctx.ctl.vCount.toNat ∧ ¬(4 : BitVec 5).toNat < 4 * s.ctx.ctl.vCount.toNat)
    ∧ (let s := (vecs 4).setCtl fun c => { c with fmode := 0x80 }
       s.ctx.ctl.fmode.getLsbD 7 = true ∧ s.vtag 31 = 0x0 ∧ s.vtag 1 ≠ 0x0 ∧ s.vtag 1 ≠ 0x1 ∧ s.vtag 1 ≠ 0xE)
    ∧ (vecs 4).regPoison 3 = true
    ∧ ((vecs 0xE).vtag 1 = 0xE ∧ (vecs 0xE).ctx.ctl.fmode.getLsbD 7 = false) := by decide +kernel

/-! ### Tiles and vector atomics -/

/-- A READY tile of 64 rows of 256 bytes at the start of the scratchpad. -/
def tile0 : Tile := { Tile.invalid with valid := true, state := .ready, rows := 63, pitch := 16, width := 256, fmt := 4 }

/-- Tile 3 of the core is `t`. -/
def tiled (t : Tile) : State := { vecs 4 with core := { (vecs 4).core with tiles := (vecs 4).core.tiles.set 3 t } }

/-- A READY tile of 49 rows of two grains in MX, and the state in which the last row holds zero blocks. -/
def grains : Tile := { tile0 with rows := 48, width := 72, fmt := 9 }
def grained : State := (tiled grains).rowWrite grains 48 0 ((zeroGrain ++ zeroGrain).map fun b => (b, false))

/-- The grain is read. -/
def okGrain (r : Grain) : Bool :=
  match r with
  | .ok _ _ _ => true
  | _ => false

theorem witness_TileTransfers :
    ((0 : BitVec 5).toNat < 4 * (tiled tile0).ctx.ctl.vCount.toNat ∧ ownTile (tiled tile0) 3 3
      ∧ ((tiled tile0).tile 3).state = .ready ∧ ((tiled tile0).tile 3).rdcnt.toNat < 63
      ∧ (List.range 16).any (tileBad (tiled tile0) tile0 3) = false ∧ ((tiled tile0).vreg 1).data.length = 1024
      ∧ ((tiled tile0).vreg 1).tag ≠ 0x0 ∧ (tiled tile0).ctx.ctl.xc.toNat < 16)
    ∧ (let s := tiled tile0
       16 ≤ (s.setCtl fun c => { c with xc := 16 }).ctx.ctl.xc.toNat)
    ∧ (let s := grained
       let t := s.tile 3
       ownTile s 3 3 ∧ t.isMx = true ∧ 72 ≤ t.width.toNat
        ∧ ∀ k h, k < 16 → h < 2 → 16 * (3 : BitVec 7).toNat + k ≤ t.rows.toNat → (tileGrain s t 3 k h).any (·.2) = false
            ∧ okGrain (readGrain ((tileGrain s t 3 k h).map (·.1)) (t.fmt == 10)) = true)
    ∧ (let s := tiled { tile0 with state := .empty }
       (s.tile 3).rdcnt = 0 ∧ (s.vreg 1).tag ≠ 0xE ∧ (s.vreg 1).tag = (s.tile 3).fmt ∧ (s.tile 3).needsFill = false
        ∧ s.core.spad.wf = true ∧ (s.tile 3).sound = true ∧ (s.tile 3).isMx = false)
    ∧ (let s := tiled { Tile.invalid with valid := true, rows := 63, pitch := 16, width := 72, fmt := 9 }
       ownTile s 3 3 ∧ (s.tile 3).state = .empty ∧ s.ctx.ctl.vqfmt.toNat % 8 < 6 ∧ ((vecs 1).vreg 1).tag = 0x1) := by
  unfold ownTile
  refine ⟨by decide +kernel, by decide +kernel, ⟨by decide +kernel, by decide +kernel, by decide +kernel, fun k h hk hh hr => ?_⟩,
    by decide +kernel, by decide +kernel⟩
  have e : k = 0 := by
    have : ((grained.tile 3).rows).toNat = 48 := by decide +kernel
    have : (3 : BitVec 7).toNat = 3 := by decide
    omega
  subst e
  match h, hh with
  | 0, _ => decide +kernel
  | 1, _ => decide +kernel

/-- s8 to s11 hold an image of `tile0`. -/
def imaged (t : Tile) : State :=
  (((tiled t).setReg 8 (0x00000000_01000000 ||| 0xFD00) false).setReg 9 (0x0008000000000000 <<< 8) false)

theorem witness_TileTable :
    ((imaged Tile.invalid).holding = false ∧ ((imaged Tile.invalid).tile 3).valid = false
      ∧ imageOk (imaged Tile.invalid) ((imaged Tile.invalid).tile 3) 2)
    ∧ (let s := imaged tile0
       (s.tile 3).valid = true ∧ (s.tile 3).owner.toNat = s.ctxNum ∧ (s.tile 3).state = .ready ∧ (s.tile 3).rdcnt = 0
        ∧ (s.tile 3).dirty = false ∧ (s.tile 3).rmap = false)
    ∧ imageOk (imaged tile0) ((imaged tile0).tile 3) 2
    ∧ ((tiled { tile0 with state := .filling }).tile 3).state = .filling
    ∧ (let s := tiled { tile0 with owner := 1 }
       (s.tile 3).valid = true ∧ (s.tile 3).owner.toNat ≠ s.ctxNum ∧ s.vtag 1 ≠ 0xE)
    ∧ (looping true).holding = true ∧ (2 : BitVec 3) ≠ 0 :=
  ⟨⟨by decide +kernel, by decide +kernel, (by unfold imageOk; decide +kernel)⟩, by decide +kernel,
    (by unfold imageOk; decide +kernel), by decide +kernel, by decide +kernel, by decide +kernel, by decide⟩

/-- Offsets of 4 bytes from a clean base in the open page; lanes still to send, and all lanes done. -/
def offsets : State :=
  { vecs 4 with core := { (vecs 4).core with vregs := (vecs 4).core.vregs.set 2 { vreg 4 with data := List.replicate 1024 4 } } }

theorem witness_VectorAtomics :
    (offsets.inLoopS = false ∧ offsets.regPoison 4 = false ∧ offsets.ctx.vatom = none ∧ still offsets = true
      ∧ (offsets.vreg 2).tag = 4 ∧ (offsets.vreg 2).data.length = 1024
      ∧ (match offsets.vatomLanes (offsets.reg 4) (offsets.vreg 2).data (offsets.vreg 1).data (List.range 64) with
         | .ok (s2, lanes) => still s2 && s2.ctx.vatom.isNone && decide (lanes.length = 64) && lanes.all fun l => residency l.pa != 3
         | .error _ => false) = true)
    ∧ (let s := offsets.setCtl fun c => { c with vdone := BitVec.allOnes 64 }
       (match s.vatomLanes (s.reg 4) (s.vreg 2).data (s.vreg 1).data (List.range 64) with
        | .ok (_, lanes) => lanes.isEmpty
        | .error _ => false) = true)
    ∧ (let l : VatomLane := { lane := 5, pa := 0x100010, leaf := placedLeaf, va := 0x20010, data := 3, tag := none }
       let m : VatomLane := { l with lane := 6 }
       let v : VatomSt := { op := .add, dst := 1, cls := 0, scope := 0, poisoned := false, out := [l, m], refused := none }
       let s : State := { offsets with ctx := { offsets.ctx with vatom := some v } }
       s.ctx.vatom = some v ∧ v.out = l :: [m] ∧ l.tag = none ∧ residency l.pa ≠ 3 ∧ v.poisoned = false
        ∧ (∀ x ∈ [m], x.lane ≠ l.lane) ∧ (∀ x ∈ [m], x.pa = l.pa → l.lane ≤ x.lane) ∧ v.refused = none) := by decide +kernel


/-! ### The system -/

/-- The running state with s4's page also holding a live-mask table at 0x20400, that names no register. -/
def tabled : State := regs.setCtl fun c => { c with lmtbase := 0x4080 }

theorem witness_ControlRegisterAccess :
    csrAccess (0xFFF : BitVec 12).toNat = .absent ∧ csrAccess (0x008 : BitVec 12).toNat = .absent
    ∧ (run.kernel = false ∧ csrAccess (0x007 : BitVec 12).toNat = .none) ∧ csrAccess (0x014 : BitVec 12).toNat = .read
    ∧ (kern.kernel = true ∧ csrAccess (0x04F : BitVec 12).toNat ≠ .absent ∧ (kern.setReg 3 1 true).regPoison 3 = true
        ∧ kern.regPoison 4 = false ∧ ((0x034 : BitVec 12).toNat, (0x00FFFFFFFFFFFF80 : Word)) ∈ [(0x034, (0x00FFFFFFFFFFFF80 : Word))])
    ∧ kern.ctx.loop.levels = [] := by decide +kernel

/-- LMTLIM is 4: entry 3 is the last, 4 is past it. -/
theorem witness_SafePoints :
    (run.ctx.pendingFault = none ∧ run.ctx.ctl.lmtlim.toNat ≤ (4 : BitVec 12).toNat ∧ (3 : BitVec 12).toNat < run.ctx.ctl.lmtlim.toNat
      ∧ run.inLoopS = false ∧ run.ctx.ctl.preq = false ∧ kern.kernel = true)
    ∧ (let s := run.setCtl fun c => { c with preq := true }
       s.kernel = false ∧ s.ctx.ctl.preq = true ∧ s.ctx.pendingFault = none)
    ∧ (run.updRing .ro fun x => { x with pend := true }).ctx.pendingFault = some .ro
    ∧ (let s : State := { run with ctx := { run.ctx with sinceSafe := 4096 } }
       s.kernel = false ∧ s.ctx.ending = none ∧ 4096 ≤ s.ctx.sinceSafe ∧ s.ctx.status ≠ .free) := by decide +kernel

theorem witness_VectorAllocation :
    (run.inLoopS = false ∧ (8 : BitVec 12).toNat ≤ run.ctx.ctl.vLimit.toNat ∧ run.ctx.ctl.vLimit.toNat < (9 : BitVec 12).toNat)
    ∧ (looping true).inLoopS = true ∧ ((vecs 1).core.vregs.toList.getD 1 VReg.gated).power = .active
    ∧ (let s : State := { run with core := { run.core with vregs := run.core.vregs.set 31 { vreg 1 with power := .drowsy } } }
       (s.core.vregs.toList.getD 31 VReg.gated).power = .drowsy) := by decide +kernel

/-- A checkpoint at the start of a LOOP.S body. -/
def ckpt0 : Checkpoint :=
  { regs := Vector.replicate 32 1, pois := 0, masks := Vector.replicate 8 0, sg := 1, vrb := 0, levels := [level true], fmode := 0,
    vqfmt := 0, enqst := false, riW := 0, roW := 0, mxW := 0, lastLoad := [] }

theorem witness_TasksEndAndResume :
    (run.ctx.pendingFault = none ∧ still run = true ∧ run.ownedTiles = [])
    ∧ (match tabled.waitcChecks 4 3 with
       | .ok (s1, pa, leaf, sm, vm) => still s1 && s1.ownedTiles.isEmpty && residency pa != 3
          && (match s1.storeAll (s1.recordStores (s1.reg 4) sm vm) with
              | .ok s3 => !(s3.atomAt .or pa 3 leaf (2 ^ 32) 0 false false (s3.reg 4)).2.2
              | .error _ => false)
       | .error _ => false) = true
    ∧ (let s : State := { run with ctx := { run.ctx with ending := some .exit, job := some job0 } }
       s.ctx.ending = some .exit ∧ s.ctx.job = some job0 ∧ job0.prologue = false
        ∧ (∀ c ∈ s.ctxs, c.atBarrier = none ∧ c.status ≠ .halted))
    ∧ (let s := run.setStatus .stalled
       s.ctx.status = .stalled ∧ s.ctx.ending = none ∧ s.ctx.loop.rolling = false)
    ∧ (let s := run.setLoop fun l => { l with rolling := true, ckpt := some ckpt0 }
       s.ctx.loop.rolling = true ∧ s.ctx.cmds = [] ∧ s.ctx.loop.ckpt = some ckpt0 ∧ ckpt0.levels = level true :: []
        ∧ s.ctx.loop.taken = [] ∧ (∀ r ∈ [Ring.ri, .ro, .mx], (s.ring r).halt = false ∧ (s.ring r).faulting = none)) := by
  decide +kernel

/-- Selectors at the ends of their ranges: the FIFOs 1 and 10, the semaphores 16 and 47, the pond's 48. -/
theorem witness_TokensSemaphoresAndFences :
    (regs.holding = false ∧ 1 ≤ (1 : BitVec 6).toNat ∧ (10 : BitVec 6).toNat ≤ 10 ∧ 16 ≤ (16 : BitVec 6).toNat
      ∧ (47 : BitVec 6).toNat < 48 ∧ still regs = true)
    ∧ (looping true).holding = true ∧ 48 ≤ (48 : BitVec 6).toNat ∧ regs.ctx.ctl.pondid.extractLsb' 6 6 = 0
    ∧ (regs.setFifo 9 8).fifoCount 9 = 8 ∧ (regs.setSem 31 0xFFFF).semVal 31 = 0xFFFF := by decide +kernel

/-- A context without a launch meets no one at its barriers; one of a group of two waits for the other. -/
theorem witness_Barriers :
    (still run = true ∧ (1 : BitVec 2) ≠ 0 ∧ run.ctx.loop.levels = [] ∧ run.ctx.atBarrier = none
      ∧ (run.arrive 1).barrierOpen 1 (arrivals (run.arrive 1).ctx.barrierCount 1) = true)
    ∧ (let s : State := { run with ctx := { run.ctx with job := some job0 },
                                   ctxs := run.ctxs.set 1 { ctx0 with job := some job0 } }
       still s = true ∧ (s.arrive 1).barrierOpen 1 (arrivals (s.arrive 1).ctx.barrierCount 1) = false
        ∧ s.ctx.pendingFault = none)
    ∧ run.pondDevices = 0
    ∧ (let s := run.setCtl fun c => { c with pondid := BitVec.ofNat 64 (2 * 2 ^ 55) }
       s.pondDevices ≠ 0)
    ∧ (looping false).ctx.loop.levels ≠ []
    ∧ (let s : State := { run with ctx := { run.ctx with job := some job0, status := .stalled, atBarrier := some 1,
                                                         barrierCount := Vector.replicate 3 1 } }
       s.here < s.ctxs.length ∧ s.ctx.job = some job0 ∧ s.ctx.status = .stalled ∧ s.ctx.atBarrier = some 1
        ∧ s.barrierOpen 1 (arrivals s.ctx.barrierCount 1) = true ∧ ∀ c ∈ s.ctxs, c.atBarrier ≠ some 1) := by decide +kernel

/-- Pool module 0 with an extent online, region 0 a BI region and region 1 an SF region with its version word there; s4's page
lies in the SF region, and one cluster is formed, so that there is a block cache. -/
def pooled : State :=
  let m : Module :=
    ⟨[{ start := 2 ^ 50, len := 2 ^ 28, state := .online }], true, true, false⟩
  let bi : Region := ⟨BitVec.ofNat 64 (2 ^ 50 + 1), 1, 0, 0⟩
  let sf : Region := ⟨BitVec.ofNat 64 (2 ^ 50 + 2 ^ 25 + 5), 1, BitVec.ofNat 64 (2 ^ 50), 0⟩
  let g : Cfg := { Cfg.blank with regions := (Cfg.blank.regions.set 0 bi).set 1 sf }
  let leaf : BitVec 64 := BitVec.ofNat 64 (2 ^ 50 + 2 ^ 25 + 0x71)
  { regs with clu := { regs.clu with tlb := [{ page with leaf := leaf }], part := some 0 },
              dev := { regs.dev with modules := regs.dev.modules.set 0 m, cfg := g, mem := [(2 ^ 50, 3)] } }

theorem witness_Snapshots :
    (match pooled.snapRegion 4 with
     | .ok (s1, r, i) =>
       let rd := s1.readPhys r.verpa 8 0
       still s1 && !s1.cap.isEmpty && !s1.snapWaits && !rd.1.dev.epochBlocked && !rd.2.2 && decide (BitVec.ofNat 64 (leNat rd.2.1) = (3 : Word)) && rd.1.dev.lagoonBytes == 0
        && !decide (BitVec.ofNat 64 (leNat rd.2.1) ≤ rd.1.dev.openVersion i)
     | .error _ => false) = true
    ∧ (let s : State := { pooled with dev := { pooled.dev with openVer := [(1, 3)] } }
       (match s.snapRegion 4 with
        | .ok (s1, r, i) =>
          let rd := s1.readPhys r.verpa 8 0
          !rd.2.2 && decide (BitVec.ofNat 64 (leNat rd.2.1) ≤ rd.1.dev.openVersion i)
        | .error _ => false) = true)
    ∧ (let s : State := { pooled with dev := { pooled.dev with poison := [2 ^ 50] } }
       (match s.snapRegion 4 with
        | .ok (s1, r, _) => (s1.readPhys r.verpa 8 0).2.2
        | .error _ => false) = true) := by decide +kernel

/-- RO enabled with 16 slots, empty and full; s8 to s11 hold a clean command. -/
def ringed (n : BitVec 16) : State := regs.updRing .ro fun x => { x with en := true, log := 4, wptr := n }

theorem witness_Enqueues :
    ((1 : BitVec 2) ≠ 3 ∧ (2 : BitVec 3) ≠ 0 ∧ (regs.ring .ro).en = false)
    ∧ (((ringed 15).ring .ro).en = true ∧ (∀ k, k < 4 → (ringed 15).regPoison (BitVec.ofNat 5 (4 * (2 : BitVec 3).toNat + k)) = false)
        ∧ (ringed 15).ringFull .ro = false ∧ (ringed 15).holding = false ∧ (ringed 15).ctx.loop.heldRo = 0
        ∧ (ringed 15).core.spad.wf = true)
    ∧ (ringed 16).ringFull .ro = true
    ∧ (let s := regs.updRing .mx fun x => { x with en := true, log := 4 }
       (s.ring .mx).en = true ∧ s.bankCheck { w0 := 0, w1 := 0, w2 := 0, w3 := 0 } = none ∧ s.ringFull .mx = false) := by decide +kernel


/-! ### Engines -/

/-- A command of a ring, at a stage of its life. -/
def cmdRec (r : Ring) (c : Cmd) (stage : CmdStage) : CmdRec :=
  { ring := r, count := 0, cmd := c, kernel := false, uncommitted := false, dropSignal := false, seq := 0, stage := stage,
    work := CmdWork.none }

/-- The context with this one command, on an enabled ring. -/
def withCmd (s : State) (k : CmdRec) : State :=
  ({ s with ctx := { s.ctx with cmds := [k], cmdSeq := 1 } }).updRing k.ring fun x => { x with en := true, log := 4 }

/-- MARK with a wait for a token that is not there, and FILL of memory at an address that is not mapped. -/
def waiting : Cmd := { cmd 0x13 with w0 := 0x213 }
def unmapped : Cmd := { w0 := 0x08000005, w1 := 0, w2 := 0x40000, w3 := 64 }

/-- The ring runs, nothing of it has issued, and its head is `k`. -/
def idleHead (s : State) (r : Ring) (k : CmdRec) : Bool :=
  !(s.ring r).halt && (s.ring r).faulting.isNone && !s.ringHeld r
    && s.ctx.cmds.all (fun k => !(k.ring == r && k.stage == CmdStage.issued)) && decide (s.head r = some k)

theorem idleHead_idle {s : State} {r : Ring} {k : CmdRec} (h : idleHead s r k = true) : ringIdle s r ∧ s.head r = some k := by
  simp only [idleHead, Bool.and_eq_true, Bool.not_eq_true', List.all_eq_true, decide_eq_true_eq, Option.isNone_iff_eq_none,
    Bool.and_eq_false_iff, beq_eq_false_iff_ne, ne_eq] at h
  exact ⟨⟨h.1.1.1.1, h.1.1.1.2, h.1.1.2, fun x hx e => (h.1.2 x hx).elim (fun n => n e.1) fun n => n e.2⟩, h.2⟩

theorem witness_EngineCommands :
    (let k := cmdRec .ri (cmd 0x13) .queued
     let s := withCmd regs k
     idleHead s .ri k = true
      ∧ (match s.admitHead { k with cmd := cmd 0x13 } (markJob (cmd 0x13)) with
         | .ok (s1, k1) => (match (markJob (cmd 0x13)).body s1 k1 with | .ok _ => true | .error _ => false)
         | .error _ => false) = true
      ∧ (markJob (cmd 0x13)).bad = [])
    ∧ (let k := cmdRec .ri waiting .queued
       let s := withCmd regs k
       idleHead s .ri k = true
        ∧ (match s.admitHead { k with cmd := waiting } (markJob waiting) with | .error (.wait _) => true | _ => false) = true)
    ∧ (let k := cmdRec .ri unmapped .issued
       let s := withCmd regs k
       (s.ring .ri).halt = false ∧ (s.ring .ri).faulting = none
        ∧ s.ctx.cmds.find? (fun k => k.ring == .ri && k.stage == .issued) = some k
        ∧ (match (fillMemoryJob unmapped).body s { k with cmd := unmapped } with | .error (.fault _ _) => true | _ => false) = true)
    ∧ (let k := cmdRec .ri (cmd 0x13) .issued
       let s := withCmd regs k
       (match (markJob (cmd 0x13)).body s { k with cmd := cmd 0x13 } with | .ok _ => true | _ => false) = true
        ∧ s.head .ri = none)
    ∧ (regs.updRing .ri fun x => { x with halt := true }).ctx.ri.halt = true
    ∧ (let c : Cmd := { cmd 0x13 with w1 := 0xA0 }
       5 + 64 ∈ (markJob c).bad ∧ ∀ b' ∈ (markJob c).bad, 5 + 64 ≤ b')
    ∧ regs.selectorOk (mayWait .ri) 3 = false ∧ regs.selectorOk (mayWait .ri) 2 = true
    ∧ regs.selectorOk (maySignal .ri) 2 = false := by decide +kernel

/-- The premise of `rakeCommandsRun` names a row and its job. -/
theorem witness_EngineCommands_row (r : Ring) (c : Cmd) : (Instr.mark r c, markJob c) ∈ rakeForms r c ++ kvForms r c := by
  simp [rakeForms]

theorem witness_PrefixCommands_transitions :
    (dirClaim 3 5 0x2000 0 1 0).isSome = true ∧ (dirShare 4 ((dirClaim 3 5 0x2000 0 1 0).getD 0)).isSome = true
    ∧ (dirDrop 3 ((dirClaim 3 5 0x2000 0 1 0).getD 0)).isSome = true := by decide +kernel

/-- What `readyHead` says of a command that waits for nothing, as a test. -/
def isReady (s : State) (r : Ring) (c : Cmd) (bad : List Nat) (k : CmdRec) : Bool :=
  idleHead s r k && decide (k.cmd = c) && !k.uncommitted && bad.isEmpty && !(s.ring r).headPast2
    && s.selectorOk (mayWait r) (wordBits c.w0 8 6) && s.selectorOk (maySignal r) (wordBits c.w0 14 6)
    && decide (s.ctx.cmds = [k]) && s.ctx.posted.isEmpty && s.ctx.peer.isEmpty
    && decide (selectorOf (wordBits c.w0 8 6) = .none)

/-- Such a head after steps 1 and 2. -/
def past2 (s : State) (r : Ring) : State := s.updRing r fun y => { y with popped := none, headPast2 := true }

theorem ready_of {s : State} {r : Ring} {c : Cmd} {bad : List Nat} {k : CmdRec} (h : isReady s r c bad k = true) :
    readyHead s r c bad k (past2 s r) := by
  simp only [isReady, Bool.and_eq_true, Bool.not_eq_true', decide_eq_true_eq, List.isEmpty_iff] at h
  obtain ⟨⟨⟨⟨⟨⟨⟨⟨⟨⟨h1, h2⟩, h3⟩, h4⟩, h5⟩, h6⟩, h7⟩, h8⟩, h9⟩, h10⟩, h11⟩ := h
  refine ⟨(idleHead_idle h1).1, (idleHead_idle h1).2, h2, h3, h4, h5, h6, h7, h8, h9, h10, s, none, ?_, rfl⟩
  rw [h11]; rfl

/-- What a line access needs, as a test: what `va` translates to is in memory of this device, and nothing older touches it. -/
def oneLine (x : State) (k : CmdRec) (rv : Resolver) (kd : Kind) (va n : Nat) : Option (State × Nat × BitVec 64) :=
  match rv x va kd with
  | (z, .ok pa leaf) =>
    if decide (0 < n) && decide (va % 128 + n ≤ 128) && decide (va < 2 ^ 64) && decide (residency pa ≠ 3)
        && !z.pieceHeld k ⟨va, pa, n, leaf, false⟩ then some (z, pa, leaf) else none
  | _ => none

theorem oneLine_of {x z : State} {k : CmdRec} {rv : Resolver} {kd : Kind} {va n pa : Nat} {leaf : BitVec 64}
    (h : oneLine x k rv kd va n = some (z, pa, leaf)) :
    0 < n ∧ va % 128 + n ≤ 128 ∧ va < 2 ^ 64 ∧ rv x va kd = (z, .ok pa leaf) ∧ residency pa ≠ 3
      ∧ z.pieceHeld k ⟨va, pa, n, leaf, false⟩ = false := by
  unfold oneLine at h
  split at h
  · next z' pa' leaf' e =>
    split at h
    · next c =>
      simp only [Option.some.injEq, Prod.mk.injEq] at h
      obtain ⟨rfl, rfl, rfl⟩ := h
      simp only [Bool.and_eq_true, decide_eq_true_eq, Bool.not_eq_true'] at c
      exact ⟨c.1.1.1.1, c.1.1.1.2, c.1.1.2, e, c.1.2, c.2⟩
    · cases h
  · cases h

/-- The line read, and the state after it. -/
def reading (x : State) (k : CmdRec) (rv : Resolver) (va n : Nat) : Option (List Marked × State) :=
  (oneLine x k rv .read va n).map fun o =>
    let got := o.1.dev.readLine (if k.na then [] else o.1.cap) o.2.1 n o.2.2
    (got.2.1.map (fun b => (b, got.2.2)),
      (State.dropAnswers { o.1 with dev := got.1 } (ringCode k.ring) [⟨va, o.2.1, n, o.2.2, k.na⟩]).bump)

theorem reading_of {x y : State} {k : CmdRec} {rv : Resolver} {va n : Nat} {bs : List Marked}
    (h : reading x k rv va n = some (bs, y)) : lineRead x k rv va n bs y := by
  unfold reading at h
  rw [Option.map_eq_some_iff] at h
  obtain ⟨⟨z, pa, leaf⟩, h1, h2⟩ := h
  simp only [Prod.mk.injEq] at h2
  have hh := oneLine_of h1
  exact ⟨z, pa, leaf, hh.1, hh.2.1, hh.2.2.1, hh.2.2.2.1, hh.2.2.2.2.1, hh.2.2.2.2.2, h2.1.symm, h2.2.symm⟩

theorem writing_of {x : State} {k : CmdRec} {rv : Resolver} {va : Nat} {bs : List Marked}
    (h : (oneLine x k rv .write va bs.length).isSome = true) : ∃ y, lineWritten x k rv va bs y := by
  obtain ⟨⟨z, pa, leaf⟩, h1⟩ := Option.isSome_iff_exists.mp h
  have hh := oneLine_of h1
  exact ⟨_, z, pa, leaf, hh.1, hh.2.1, hh.2.2.1, hh.2.2.2.1, hh.2.2.2.2.1, hh.2.2.2.2.2, rfl⟩

/-- The command is a head that may be taken up in a state like `s`, and the state after steps 1 and 2 satisfies `f`. -/
def taken (s : State) (r : Ring) (c : Cmd) (j : EngJob) (f : State → CmdRec → Bool) : Bool :=
  let k := cmdRec r c .queued
  let x := withCmd s k
  isReady x r c j.bad k && f (past2 x r) k

/-- The command as it issues, holding these tiles. -/
def issued (x : State) (k : CmdRec) (g : Gated) (f : State → CmdRec → Bool) : Bool := f (x.issue k g).1 (x.issue k g).2

/-- What `mineNow` says, as a test. -/
def isMine (x : State) (i : Nat) : Bool :=
  (x.tile i).valid && decide ((x.tile i).owner.toNat = x.ctxNum) && !(x.tile i).needsFill

/-- A write of `n` bytes of one line. -/
def wrote (x : State) (k : CmdRec) (rv : Resolver) (va n : Nat) : Bool := (oneLine x k rv .write va n).isSome

/-- A block of one line, of this state of its fill, declared at 0x20000. -/
def blocked (done : Bool) : State :=
  { regs with dev := { regs.dev with blocks := [{ slice := 0, va := 0x20000, asid := 0, lines := [0x100000], nl := 1, done := done }] } }

/-- UNBIND of handle 0, BWAIT, BDISC, MIGRATE. -/
theorem witness_EngineCommands_simple :
    taken (regs.setCtl fun c => { c with htlim := 1 }) .ri (cmd 0x09) (unbindJob (cmd 0x09)) (fun x _ =>
      decide (0 < x.ctx.ctl.htlim.toNat)) = true
    ∧ taken regs .ri (cmd 0x13) (markJob (cmd 0x13)) (fun _ _ => true) = true
    ∧ (let c : Cmd := { cmd 0x0B with w1 := 0x20000 }
       taken (blocked true) .ri c (bwaitJob c) (fun x k => issued x k noTiles fun y _ =>
         (y.dev.blocksAt y.ctx.asid 0x20000).all (·.done)) = true
       ∧ taken (blocked false) .ri c (bwaitJob c) (fun x k => issued x k noTiles fun y _ =>
         (y.dev.blocksAt y.ctx.asid 0x20000).any fun b => !b.done) = true)
    ∧ (let c : Cmd := { cmd 0x0C with w1 := 0x20000 }
       taken (blocked true) .ri c (bdiscJob c) (fun _ _ => true) = true)
    ∧ (let c : Cmd := { cmd 0x100000010 with w1 := 0x20000 }
       taken regs .ri c (migrateJob .ri c) (fun _ _ => true) = true) := by decide +kernel

/-- FILL of a tile, of a tile of grains, and of 64 bytes of memory. -/
theorem witness_EngineCommands_fills :
    (let c : Cmd := { cmd 0x05 with w1 := 3 }
     taken (tiled tile0) .ri c (fillTileJob c) (fun x _ => isMine x 3 && (x.tile 3).mayWrite && !(x.tile 3).isMx) = true
     ∧ taken (tiled grains) .ri c (fillTileJob c) (fun x _ => isMine x 3 && (x.tile 3).mayWrite && (x.tile 3).isMx
        && decide ((x.tile 3).width.toNat % 36 = 0)) = true)
    ∧ (let c : Cmd := { cmd 0x08000005 with w2 := 0x20000, w3 := 64 }
       taken regs .ri c (fillMemoryJob c) (fun x k => issued x k noTiles fun y k1 =>
         wrote y k1 k1.plain 0x20000 64) = true) := by decide +kernel

/-- Two tiles of integers; the second's first entry is `e`. -/
def indexed (e : List Byte) : State :=
  let s := tiled tile0
  let u : Tile := { tile0 with base := 4096 }
  let c := { s.core with tiles := s.core.tiles.set 5 u }
  ({ s with core := c } : State).rowWrite u 0 0 (e.map fun b => (b, false))

/-- GATHER and SCATTER of 64 bytes of the row that entry 0 names. -/
theorem witness_RakeTransfers_indexed :
    ∀ store ∈ [false, true],
      let c : Cmd := { w0 := if store then 0x07 else 0x06, w1 := BitVec.ofNat 64 (3 + 5 * 2 ^ 8 + 63 * 2 ^ 26), w2 := 0x20000, w3 := 64 }
      let m := indexMove c
      let r : Ring := if store then .ro else .ri
      let ok (x : State) : Bool := isMine x 3 && isMine x 5 && (if store then (x.tile 3).mayStore else (x.tile 3).mayWrite)
        && (x.tile 5).mayRead && (match m.check x (x.tile 3) (x.tile 5) with | .ok _ => true | .error _ => false) && decide (m.rows = 1)
      let g : Gated := { targets := [(3, if store then .draining else .filling)], readers := [5], words := [] }
      taken (indexed [0, 0, 0, 0x80]) r c (indexJob c store) (fun x k => ok x && issued x k g fun y _ =>
        decide ((m.entry y 0).1 = 2 ^ 31)) = true
      ∧ taken (indexed [1]) r c (indexJob c store) (fun x k => ok x && issued x k g fun y k1 =>
        decide ((m.entry y 0).1 = 1)
          && if store then wrote y k1 k1.plain 0x20040 64
             else (reading y k1 k1.plain 0x20040 64).isSome) = true := by decide +kernel

/-- The image of an unpacked handle over 16 elements of I32 at `base`, side by side, whose residence is `res`. -/
def handleAt (base res : Nat) : List Byte :=
  leBytes 8 base ++ leBytes 8 (1 + res * 16 + 4 * 256) ++ leBytes 4 16 ++ List.replicate 28 0 ++ leBytes 6 4 ++ List.replicate 74 0

/-- The handles 0 and 1 are bound. -/
def bound (s : State) : State :=
  { s with ctx := { s.ctx with ctl := { s.ctx.ctl with htlim := 2 },
                               binds := [⟨0, handleAt 0x20000 1, []⟩, ⟨1, handleAt 0x20100 1, []⟩] } }

/-- One row of 16 elements, by TLOAD and TSTORE; one element by the transposing forms. -/
theorem witness_RakeTransfers_tiles :
    ∀ f ∈ [(0x00, false, false, 15), (0x01, true, false, 0), (0x02, false, true, 15), (0x03, true, true, 0)],
      let flip := f.2.1
      let store := f.2.2.1
      let c : Cmd := { w0 := BitVec.ofNat 64 f.1, w1 := BitVec.ofNat 64 (3 * 2 ^ 10 + f.2.2.2 * 2 ^ 18), w2 := 0, w3 := 0 }
      let m := tileMove c flip
      let b : Binding := ⟨0, handleAt 0x20000 1, []⟩
      let h := Handle.ofWords (packWords 16 b.image)
      taken (bound (tiled tile0)) (if store then .ro else .ri) c (tileJob c flip store) (fun x k =>
        decide (m.hnd < x.ctx.ctl.htlim.toNat) && decide (x.ctx.binds.find? (fun b => b.handle == m.hnd) = some b)
        && isMine x m.tile && (if store then (x.tile m.tile).mayStore else (x.tile m.tile).mayWrite)
        && (match m.check x (Handle.ofBytes b.image) (x.tile m.tile) with | .ok _ => true | .error _ => false)
        && !h.packed && decide (m.rows = 1) && decide (m.inside h 0 = m.cols)
        && (decide (m.cols = 1) || decide (h.stride.getD (if flip then 1 else 0) 0 = (h.esize : Int)))
        && issued x k { targets := [(m.tile, if store then .draining else .filling)], readers := [],
                        words := packWords 16 b.image, handles := [m.hnd] } fun y k1 =>
          let va := wrapVa (h.addrFrom h.base (m.coords h 0 0))
          if store then wrote y k1 (viaHandle k1 m.hnd h) va (m.cols * h.esize)
          else (reading y k1 (viaHandle k1 m.hnd h) va (m.cols * h.esize)).isSome) = true := by decide +kernel

/-- COPY of 16 elements from handle 0 to handle 1. -/
theorem witness_RakeTransfers_copy :
    let c : Cmd := { w0 := 0x04, w1 := 0, w2 := 0, w3 := 0x10000 }
    let a : Binding := ⟨0, handleAt 0x20000 1, []⟩
    let b : Binding := ⟨1, handleAt 0x20100 1, []⟩
    let ws := packWords 16 a.image ++ packWords 16 b.image
    let m := copyMove c ws
    let at0 := (mixedRadix m.src.size 0).1
    taken (bound regs) .ri c (copyJob .ri c) (fun x k =>
      decide (wordBits c.w3 0 10 = 0) && decide (wordBits c.w3 16 10 = 1) && decide (1 < x.ctx.ctl.htlim.toNat)
      && decide (x.ctx.binds.find? (fun b => b.handle == 0) = some a) && decide (x.ctx.binds.find? (fun b => b.handle == 1) = some b)
      && decide ((Handle.ofBytes a.image).fmt = (Handle.ofBytes b.image).fmt) && !(Handle.ofBytes a.image).packed
      && decide (m.src.size.foldl (· * ·) 1 = 16) && decide (m.src.size.getD 0 1 = 16) && !m.overlap
      && decide (m.src.stride.getD 0 0 = (m.src.esize : Int)) && decide (m.dst.stride.getD 0 0 = (m.src.esize : Int))
      && issued x k { targets := [], readers := [], words := ws, handles := [0, 1] } fun y k1 =>
        match reading y k1 (viaHandle k1 0 m.src) (wrapVa (m.src.addrFrom m.sbase at0)) 64 with
        | some (_, z) => wrote z k1 (viaHandle k1 1 m.dst) (wrapVa (m.dst.addrFrom m.dbase at0)) 64
        | none => false) = true := by decide +kernel

/-- The handle table at 0x20000, whose entry 0 is a handle over 0x20100 of this residence. -/
def shelf (res : Nat) : State :=
  let s := regs.setCtl fun c => { c with htbase := 0x400, htlim := 1 }
  let cells := ((handleAt 0x20100 res).zipIdx.map fun x => (0x100000 + x.2, x.1)).filter fun x => x.2 != 0
  { s with dev := { s.dev with mem := cells } }

/-- BIND of handle 0: of a tensor translated at each access, and of one in a page of HBM. -/
theorem witness_RakeTransfers_bind :
    ∀ res ∈ [0, 1],
      taken (shelf res) .ri (cmd 0x08) (bindJob (cmd 0x08)) (fun x k =>
        decide (0 < x.ctx.ctl.htlim.toNat) && decide (x.ctx.binds.length < 64) && issued x k noTiles fun y k1 =>
          match reading y k1 k1.plain (y.ctx.ctl.htbase.toNat * 128) 128 with
          | some (bs, z) =>
            let ws := packWords 16 (bs.map (·.1))
            let h := Handle.ofWords ws
            let u := z.updWork k.seq fun w => { w with words := ws }
            !h.fieldBad && !h.layoutBad && decide (h.res = res) && !h.packed
              && match u.translate k.kernel (wrapVa h.span.1) .read with
                | (u1, .ok _ _) =>
                  (match u1.pageAt u1.ctx.asid u1.ctx.root (wrapVa h.span.1) with
                   | some (lvl, _) => decide (lvl = 0) && decide (wrapVa h.span.1 + (h.span.2 - h.span.1).toNat < 0x30000)
                   | none => false)
                | _ => false
          | none => false) = true := by decide +kernel

/-- A block cache: the cluster is formed. -/
def sliced (s : State) : State := { s with clu := { s.clu with part := some 0 } }

/-- BLOAD and BFLUSH of the line at 0x20000: without a block cache, with the block declared, and anew. -/
theorem witness_RakeTransfers_blocks :
    (let c : Cmd := { cmd 0x0A with w1 := 0x20000 }
     taken regs .ri c (bloadJob c) (fun x k => issued x k noTiles fun y _ => y.cap.isEmpty) = true
     ∧ taken (sliced (blocked true)) .ri c (bloadJob c) (fun x k => issued x k noTiles fun y _ =>
        (y.dev.blocksAt y.ctx.asid 0x20000).any fun b => b.nl == 1) = true
     ∧ taken (sliced regs) .ri c (bloadJob c) (fun x k => issued x k noTiles fun y _ =>
        !y.cap.isEmpty && (y.dev.blocksAt y.ctx.asid 0x20000).isEmpty
          && match y.translate k.kernel 0x20000 .read with
            | (z, .ok pa leaf) => z.dev.cacheable pa leaf && decide (pa < 2 ^ 64)
            | _ => false) = true)
    ∧ (let c : Cmd := { cmd 0x0800000D with w1 := 0x20000 }
       taken regs .ro c (bflushJob c) (fun x k => issued x k noTiles fun y _ => (y.dev.blocksAt y.ctx.asid 0x20000).isEmpty) = true
       ∧ taken (sliced (blocked true)) .ro c (bflushJob c) (fun x k => issued x k noTiles fun y _ =>
        (match y.dev.blocksAt y.ctx.asid 0x20000 with | b :: _ => b.nl == 1 | [] => false)
          && match y.translate k.kernel 0x20000 .read with
            | (z, .ok _ _) => (z.dev.blockLines y.ctx.asid 0x20000).all fun l => !z.dev.spanWaits l 128
            | _ => false) = true) := by decide +kernel

/-- A page of the pool at 0x20000, in a BI region of a module that is there, and a page of HBM at 0x30000. -/
def farther : State :=
  let leaf : BitVec 64 := BitVec.ofNat 64 (2 ^ 50 + 0x71)
  let m : Module := ⟨[{ start := 2 ^ 50, len := 2 ^ 28, state := .online }], true, true, false⟩
  { regs with clu := { regs.clu with tlb := [{ page with leaf := leaf }, { page with vpage := 3 }] },
              dev := { regs.dev with modules := regs.dev.modules.set 0 m,
                                     cfg := { Cfg.blank with regions := Cfg.blank.regions.set 0 ⟨BitVec.ofNat 64 (2 ^ 50 + 1), 1, 0, 0⟩ } } }

/-- RFETCH of a line of the pool into HBM, and RSEND of it back. -/
theorem witness_RakeTransfers_far :
    ∀ fetch ∈ [false, true],
      let sva := if fetch then 0x20000 else 0x30000
      let dva := if fetch then 0x30000 else 0x20000
      let c : Cmd := { w0 := if fetch then 0x0E else 0x0F, w1 := BitVec.ofNat 64 sva, w2 := BitVec.ofNat 64 dva, w3 := 128 }
      taken farther (if fetch then .ri else .ro) c (farJob c fetch) (fun x k => issued x k noTiles fun y k1 =>
        match y.translate k.kernel sva .read with
        | (z1, .ok pa _) =>
          (match z1.translate k.kernel dva .write with
           | (z2, .ok pb _) =>
             (if fetch then farEnd pa && nearEnd pb else nearEnd pa && farEnd pb)
             && match reading z2 k1 k1.plain sva 128 with
               | some (_, z) => wrote z k1 k1.plain dva 128
               | none => false
           | _ => false)
        | _ => false) = true := by decide +kernel

/-- TWBACK of a clean tile and of a dirty one of one row, and CINV of a line. -/
theorem witness_RakeTransfers_backs :
    (∀ dirty ∈ [false, true],
      let t : Tile := { tile0 with rmap := true, touched := true, dirty := dirty, rows := 0, width := 64, rva := 0x20000 }
      let c : Cmd := { cmd 0x11 with w1 := 3 }
      taken (tiled t) .ro c (twbackJob c) (fun x k => isMine x 3 && (x.tile 3).rmap && (x.tile 3).mayStore
        && issued x k { targets := [(3, .draining)], readers := [], words := [] } fun y _ => (y.tile 3).dirty == dirty
          && match y.translate k.kernel 0x20000 .write with
            | (_, .ok pa _) => decide (residency pa ≠ 3)
            | _ => false) = true)
    ∧ (let c : Cmd := { cmd 0x12 with w1 := 0x20000, w2 := 128 }
       taken regs .ro c (cinvJob c) (fun x k => issued x k noTiles fun y _ =>
        match y.translate k.kernel 0x20000 .read with
        | (z, .ok pa leaf) => !z.pieceHeld k ⟨0x20000, pa, 128, leaf, false⟩ && !z.dev.spanWaits pa 128
        | _ => false) = true) := by decide +kernel

theorem witness_EngineCompletion :
    (let f : EngFault := { cause := 0x211, info := 8, va := 0, cursor := List.replicate 8 0 }
     ((regs.updRing .mx fun x => { x with faulting := some f }).ring .mx).faulting = some f)
    ∧ (let k := { cmdRec .ri (cmd 0x00) .moved with work := { CmdWork.none with targets := [(3, .ready)] } }
       let s := withCmd (tiled { tile0 with state := .filling }) k
       s.ctx.cmds.find? (fun k => k.ring == .ri && k.stage == .moved) = some k ∧ s.ctx.unacked (oneClass k.cls) s.ctx.postSeq = false
        ∧ k.work.readers = [] ∧ k.work.targets = [(3, .ready)] ∧ (s.tile 3).state = .filling)
    ∧ (let c : Cmd := { cmd 0x00 with w0 := 0x4000 }
       let k := cmdRec .ri c .signalling
       let s := withCmd regs k
       s.oldest .ri = some k ∧ k.stage = .signalling ∧ selectorOf (wordBits k.cmd.w0 14 6) = .fifo 0 ∧ s.fifoCount 0 < 8
        ∧ 8 ≤ (s.setFifo 0 8).fifoCount 0 ∧ k.dropSignal = false ∧ k.uncommitted = false)
    ∧ (let c : Cmd := { cmd 0x00 with w0 := 0x40000 }
       let k := cmdRec .ri c .signalling
       let s := withCmd regs k
       s.oldest .ri = some k ∧ selectorOf (wordBits k.cmd.w0 14 6) = .sem 0 ∧ s.semVal 0 ≠ 0xFFFF
        ∧ (s.setSem 0 0xFFFF).semVal 0 = 0xFFFF ∧ (s.ring .ri).halt = false ∧ (s.ring .ri).faulting = none)
    ∧ selectorOf 0 = .none
    ∧ (let e := { tile0 with rmap := true, state := .filling }
       ((tiled e).tile 3).valid = true ∧ ((tiled e).tile 3).rmap = true ∧ ((tiled e).tile 3).touched = false
        ∧ ((tiled e).tile 3).state = .filling)
    ∧ (let b : Block := { slice := 0, va := 0x20000, asid := 0, lines := [0x100000], nl := 1, done := false }
       let s : State := { regs with dev := { regs.dev with blocks := [b] } }
       s.dev.blocks[0]? = some b ∧ b.nl ≠ 0 ∧ b.asid = s.ctx.asid ∧ b.va = 0x20000) := by decide +kernel

/-! ### The matrix engine -/

/-- Tiles 4, 5, 8 and 9 are BF16 operands, 6, 7, 10 and 11 are F32; each stands in a bank group of its own. -/
def matrix : State :=
  let t (g : Nat) (fmt : BitVec 4) : Tile :=
    { tile0 with fmt := fmt, base := BitVec.ofNat 13 (1024 * g), group := BitVec.ofNat 3 g }
  let ts := (((regs.core.tiles.set 4 (t 0 2)).set 5 (t 1 2)).set 6 (t 2 1)).set 7 (t 3 1)
  { regs with core := { regs.core with tiles := (((ts.set 8 (t 4 2)).set 9 (t 5 2)).set 10 (t 6 1)).set 11 (t 7 1) } }

/-- MMUL with Z of one element; ATTN of one query and one key; SINIT and ATTNR of one row. -/
def mmul1 : Cmd := { w0 := 0x08000060, w1 := 0x060504, w2 := 0, w3 := 0 }
def attn1 : Cmd := { w0 := 0x62, w1 := 0x400706080504, w2 := 0, w3 := 0 }
def sinit1 : Cmd := { w0 := 0x65, w1 := 6, w2 := 0, w3 := 0 }
def attnr1 : Cmd := { w0 := 0x04000048, w1 := 0x070604, w2 := 0x20000, w3 := 0 }

/-- The matrix tiles, with a directory entry for the claim of device 3 in a BI region at s4's page. -/
def directed : State :=
  let e := (dirClaim 3 5 0x2000 0 1 0).getD 0
  let cells := ((leBytes 32 e).zipIdx.map fun x => (2 ^ 50 + x.2, x.1)).filter fun x => x.2 != 0
  let leaf : BitVec 64 := BitVec.ofNat 64 (2 ^ 50 + 0x71)
  { matrix with clu := { pooled.clu with tlb := [{ page with leaf := leaf }] }, dev := { pooled.dev with mem := cells } }

/-- The head command of MX is admitted. -/
def admitted (c : Cmd) (j : EngJob) (f : State → CmdRec → Bool) : Bool :=
  let k := cmdRec .mx c .queued
  let s := withCmd matrix k
  idleHead s .mx k && match s.admitHead { k with cmd := c } j with
    | .ok (s1, k1) => f s1 k1
    | .error _ => false

theorem witness_MatrixCommands :
    admitted sinit1 (sinitJob sinit1) (fun s1 k1 => match (sinitJob sinit1).body s1 k1 with | .ok _ => true | .error _ => false) = true
    ∧ admitted mmul1 (mmulJob mmul1) (fun _ _ => true) = true
    ∧ (let k := cmdRec .mx attnr1 .queued
       let s := withCmd directed k
       idleHead s .mx k && (match s.admitHead { k with cmd := attnr1 } (attnrJob attnr1) with
         | .ok (s1, k1) => (match (attnrOf attnr1).send s1 k1 with | .ok _ => true | .error _ => false)
         | .error _ => false)) = true
    ∧ (let k := cmdRec .mx mmul1 .queued
       let s : State := { withCmd matrix k with core := { matrix.core with frozen := true } }
       idleHead s .mx k && (match s.admitHead k (mmulJob mmul1) with | .error (.wait _) => true | _ => false)) = true
    ∧ sinit1.w0.getLsbD 27 = false ∧ (match matrix.f32Row 6 0 2 63 with | .ok xs => decide (xs = [0, 0]) | .error _ => false) = true := by
  decide +kernel

/-- An issued MMUL that holds the score array, an ATTN whose scores wait, and an ATTNR that has asked device 3. -/
def passing : CmdRec := { cmdRec .mx mmul1 .issued with work := { CmdWork.none with words := [0, 0, 1, 0] } }
def scored : CmdRec :=
  { cmdRec .mx attn1 .issued with work := { CmdWork.none with words := [1, 0, 0, 0], progress := 1, elems := List.replicate 64 0 } }
def asking : CmdRec := { cmdRec .mx attnr1 .issued with work := { CmdWork.none with progress := 1 } }
def ask (d : Option (List Byte)) : PeerWait :=
  { tag := 7, dst := 3, kind := 2, cls := 0, key := 0, va := 0x20000, seq := 0, data := d, status := 0 }
def asked (d : Option (List Byte)) : State :=
  let s := withCmd matrix asking
  { s with ctx := { s.ctx with peer := [ask d] } }

theorem witness_MatrixEngineSteps_passes :
    (let p := productOf mmul1.w1 true
     (match matrix.opRows p.a p.kb 0 1, matrix.opRows p.b p.kb 0 1 with | .ok _, .ok _ => true | _, _ => false) = true
      ∧ (match matrix.f32Row p.c 0 1 0 with | .ok _ => true | .error _ => false) = true)
    ∧ (let s := withCmd matrix passing
       s.ctx.holder false = some passing ∧ s.core.frozen = false ∧ passing.cmd.w0.toNat % 256 ≠ 0x63
        ∧ (match s.passWork passing false with | .ok _ => true | .error _ => false) = true
        ∧ (s.ring .mx).halt = false ∧ (s.ring .mx).faulting = none)
    ∧ (let s := withCmd { matrix with core := { matrix.core with ue := [1024 * 16, 0] } } passing
       s.ctx.holder false = some passing ∧ (match s.passWork passing false with | .ok _ => false | .error _ => true) = true) := by
  decide +kernel

theorem witness_MatrixEngineSteps_softmax :
    (let s := withCmd matrix scored
     s.ctx.softWaiting = some scored ∧ scored.work.progress = 1 ∧ s.core.frozen = false ∧ (s.ring .mx).halt = false
      ∧ (match (chunkOf scored.cmd).gateSoft s scored with
         | .ok s1 => (match (chunkOf scored.cmd).softStep s1 (scoresOf (chunkOf scored.cmd).qn scored.work.elems) with
           | .ok _ => true
           | .error _ => false)
         | .error _ => false) = true) := by decide +kernel

theorem witness_MatrixEngineSteps_attnr :
    (∀ r ∈ [AttnReply.moved, .geometry, .poisoned, .partials []], (asked (some (replyImage r))).ctx.attnrWait r = some (ask (some (replyImage r))))
    ∧ (asked none).ctx.asking 0 = some asking ∧ ((asked none).ring .mx).halt = false ∧ ((asked none).ring .mx).faulting = none
    ∧ (match (attnrOf attnr1).merge (asked none) [] with | .ok _ => true | .error _ => false) = true
    ∧ (let s : State := { asked none with dev := { (asked none).dev with
           peers := (asked none).dev.peers.set 3 { Peer.fresh with failA := true, failB := true } } }
       s.dev.peers.toList[3]? = some { Peer.fresh with failA := true, failB := true } ∧ s.ctx.peer = [ask none]) := by
  decide +kernel

theorem witness_MatrixEngineSteps_care :
    (let b : Bittern := { Bittern.fresh with rowCnt := Bittern.fresh.rowCnt.set 64 16 }
     let s : State := { matrix with core := { matrix.core with value := { matrix.core.value with bittern := b } } }
     64 < 65 ∧ b.thr.toNat ≤ (b.rowCnt.getD 64 0).toNat ∧ b.spare = 0xFF ∧ s.arrayFree true = true)
    ∧ ({ Bittern.fresh with spare := 64 } : Bittern).spare ≠ 0xFF := by decide +kernel

/-- What `mxReady` says, as a test. -/
def isMxReady (x : State) (c : Cmd) (needs : List Need) (uses : List TileUse) : Bool :=
  needs.all (fun n => (x.tile n.tile).valid && decide ((x.tile n.tile).owner.toNat = x.ctxNum)
      && match n.check x with | .ok () => true | .error _ => false)
    && (x.bankCheck c).isNone
    && uses.all (fun u => !(x.tile u.tile).needsFill && match u with
      | .reads i => decide ((x.tile i).state = .ready) && decide ((x.tile i).rdcnt.toNat + readsOf uses i ≤ 63)
      | .writes i => (x.tile i).mayWrite
      | .changes i => (x.tile i).mayStore)
    && (firstArrays c).all fun a => x.arrayFree a && !x.core.frozen

theorem mxReady_of {x : State} {c : Cmd} {needs : List Need} {uses : List TileUse} (h : isMxReady x c needs uses = true) :
    mxReady x c needs uses := by
  simp only [isMxReady, Bool.and_eq_true, List.all_eq_true, Bool.not_eq_true', decide_eq_true_eq, Option.isNone_iff_eq_none] at h
  obtain ⟨⟨⟨h1, h2⟩, h3⟩, h4⟩ := h
  refine ⟨fun n hn => ⟨(h1 n hn).1.1, (h1 n hn).1.2, ?_⟩, h2, fun u hu => (h3 u hu).1, fun i hi => ?_,
    fun i hi => (h3 _ hi).2, fun i hi => (h3 _ hi).2, h4⟩
  · have e := (h1 n hn).2
    split at e
    · assumption
    · cases e
  · have e := (h3 _ hi).2
    simpa using e

/-- The rows of F32 can be read. -/
def rowsRead (y : State) (t len n : Nat) : Bool :=
  (List.range n).all fun q => match y.f32Row t 0 len q with | .ok _ => true | .error _ => false

def mmul2c : Cmd := { w0 := 0x18000061, w1 := 0x060504, w2 := 0x070908, w3 := 0 }
def mxv1 : Cmd := { w0 := 0x08000063, w1 := 0x060504, w2 := 0, w3 := 0 }

theorem witness_MatrixCommands_passes :
    (let p := productOf mmul1.w1 true
     taken matrix .mx mmul1 (mmulJob mmul1) (fun x _ => isMxReady x mmul1 p.needs p.uses) = true)
    ∧ (let p := productOf mmul2c.w1 true
       let q := productOf mmul2c.w2 true
       taken matrix .mx mmul2c (mmul2Job mmul2c) (fun x _ => isMxReady x mmul2c (p.needs ++ q.needs) (p.uses ++ q.uses)) = true)
    ∧ (let a := chunkOf attn1
       taken matrix .mx attn1 (attnJob attn1) (fun x _ => isMxReady x attn1 [.operand a.q a.qn (a.d / 32),
        .operand a.k a.klen (a.d / 32), .operand a.v a.d 2, .f32 a.o a.qn (4 * a.d), .f32 a.s a.qn 8]
        [.reads a.q, .reads a.k, .reads a.v]) = true)
    ∧ (let v := matVecOf mxv1
       taken matrix .mx mxv1 (mxvJob mxv1) (fun x _ => isMxReady x mxv1
        [.operand v.w v.n v.kb, .operand v.x 1 v.kb, .f32 v.y 1 (4 * v.n)] [.reads v.w, .reads v.x, .writes v.y]) = true) := by
  decide +kernel

theorem witness_MatrixCommands_helpers :
    (let c : Cmd := { cmd 0x64 with w1 := 6 }
     taken matrix .mx c (mzeroJob c) (fun x _ => isMxReady x c [.any 6] [.writes 6]) = true)
    ∧ (let c : Cmd := { cmd 0x08000065 with w1 := 0x0706 }
       taken matrix .mx c (sinitJob c) (fun x _ => isMxReady x c [.f32 6 1 8, .f32 7 1 256] [.writes 6, .writes 7]) = true
       ∧ taken matrix .mx sinit1 (sinitJob sinit1) (fun x _ => isMxReady x sinit1 [.f32 6 1 8] [.writes 6]) = true)
    ∧ (let c : Cmd := { cmd 0x66 with w1 := 0x0706 }
       taken matrix .mx c (sfinJob c) (fun x k => isMxReady x c [.f32 6 1 8, .f32 7 1 256] [.reads 6, .changes 7]
        && rowsRead (mxIssued x k c [.reads 6, .changes 7]).1 6 2 1 && rowsRead (mxIssued x k c [.reads 6, .changes 7]).1 7 64 1) = true)
    ∧ (let c : Cmd := { cmd 0x67 with w1 := 0x0B0A0706 }
       let us := [TileUse.changes 6, .changes 7, .reads 10, .reads 11]
       taken matrix .mx c (smergeJob c) (fun x k => isMxReady x c [.f32 6 1 8, .f32 7 1 256, .f32 10 1 8, .f32 11 1 256] us
        && (let y := (mxIssued x k c us).1
            rowsRead y 6 2 1 && rowsRead y 7 64 1 && rowsRead y 10 2 1 && rowsRead y 11 64 1)) = true)
    ∧ (let c : Cmd := { cmd 0x68 with w1 := 0x0706 }
       taken matrix .mx c (scopyJob c) (fun x k => isMxReady x c [.f32 6 1 8, .f32 7 1 8] [.reads 6, .writes 7]
        && rowsRead (mxIssued x k c [.reads 6, .writes 7]).1 6 2 1) = true) := by decide +kernel

theorem witness_MatrixCommands_requests :
    (let a := attnrOf attnr1
     taken directed .mx attnr1 (attnrJob attnr1) (fun x k => isMxReady x attnr1 a.needs a.uses
      && (let y := mxIssued x k attnr1 a.uses
          match y.1.rangeBy y.2.plain .read a.deva 32 with
          | (z, .ok (p :: _)) => decide (residency p.pa = 2) && z.atomicHome p.pa p.leaf
            && (match reading z y.2 y.2.plain a.deva 32 with
              | some (bs, w) =>
                let e := leNat (bs.map (·.1))
                let dst := dirHolder e
                let ask := a.ask attnr1 ((w.tile a.q).fmt == 2) p.pa
                let payload := ask.image ++ (List.range a.qn).flatMap fun q => (w.rowRead (w.tile a.q) q 0 ask.rowBytes).map (·.1)
                bs.all (fun b => !b.2) && decide (dirState e ≠ 0) && decide (dst ≠ w.dev.num.toNat) && !w.dev.peerGone dst
                  && w.dev.mayAll dst k.cls (attnrParts w k.cls payload)
                  && (match w.opRows a.q (2 * 2 ^ a.dc) 0 a.qn with | .ok _ => true | .error _ => false)
              | none => false)
          | _ => false)) = true) := by decide +kernel

/-- The arrays free and frozen; a request that waits for a pass; a format byte that fails, told by the holder. -/
theorem witness_MatrixEngineSteps_more :
    (let p := productOf mmul1.w1 true
     let s := withCmd matrix passing
     s.ctx.holder false = some passing ∧ mmul1.w0.toNat % 256 = 0x60 ∧ mmul1.w0.getLsbD 27 = true ∧ s.core.frozen = false
      ∧ (match s.opRows p.a p.kb 0 1, s.opRows p.b p.kb 0 1 with | .ok _, .ok _ => true | _, _ => false) = true
      ∧ passing.work.pos false = 0)
    ∧ matrix.ctx.holder true = none
    ∧ (asked (some (replyImage .format))).ctx.attnrWait .format = some (ask (some (replyImage .format)))
    ∧ (let r : AttnRow := { m := 0, l := 0, o := List.replicate 64 0 }
       (asked (some (replyImage (.partials [r])))).ctx.attnrWait (.partials [r]) = some (ask (some (replyImage (.partials [r]))))
        ∧ rowsRead ((asked (some (replyImage (.partials [r])))).dropWait 7) (attnrOf attnr1).s 2 1 = true
        ∧ rowsRead ((asked (some (replyImage (.partials [r])))).dropWait 7) (attnrOf attnr1).o 64 1 = true) := by decide +kernel


/-! ### KV and prefix commands -/

/-- An access of a course, that a test can make. -/
inductive Act where
  | homedSpan (va n : Nat)
  | fetched (va n : Nat) (bs : List Byte)
  | fetchedNat (va n v : Nat)
  | put (va : Nat) (bs : List Marked)
  | touched (va n : Nat)
  | acked
  | changed (va n : Nat) (f : Nat → Option Nat) (old : Nat)
  | copied (src dst n i : Nat)
  | pointed (n : Nat) (ws : List Word)
  | seen (f : State → Prop) (d : State → Bool) (h : ∀ x, d x = true → f x)
  | sets (f : Ctl → Ctl)
  | checked (va n lo len v : Nat) (bs : List Marked)
  | placed (va n : Nat)

/-- A structure in one line. -/
def Act.homed (va : Nat) : Act := .homedSpan va 1

/-- The leg that it is a test of. -/
def Act.leg (k : CmdRec) : Act → Leg
  | .homedSpan va n => Claims.homedSpan k va n
  | .fetched va n bs => Claims.fetched k va n bs
  | .fetchedNat va n v => Claims.fetchedNat k va n v
  | .put va bs => Claims.put k va bs
  | .touched va n => Claims.touched k va n
  | .acked => Claims.allAcked k
  | .changed va n f old => Claims.changed k va n f old
  | .copied src dst n i => fun x y => ∃ z u bs,
    x.engFetch k (cursorNow x k) ((src + 2048 * i) % 2 ^ 64) (min 2048 (n - 2048 * i)) = .ok (z, bs)
      ∧ z.engPut k (cursorNow x k) ((dst + 2048 * i) % 2 ^ 64) bs = .ok u ∧ y = noted u k true []
  | .pointed n ws => Claims.pointed k n ws
  | .seen f _ _ => Claims.seen f
  | .sets f => Claims.sets f
  | .checked va n lo len v out => fun x y => ∃ z u bs, x.engFetch k (cursorNow x k) (va % 2 ^ 64) n = .ok (z, clean bs)
      ∧ fieldLE bs lo len = v ∧ z.engPut k (cursorNow x k) (va % 2 ^ 64) out = .ok u ∧ y = noted u k true []
  | .placed va n => fun x y => ∃ p ps, x.rangeBy k.plain .read va n = (y, .ok (p :: ps)) ∧ residency p.pa = 2
      ∧ y.atomicHome p.pa p.leaf = true ∧ y.servesEntry k va = false

/-- Bytes none of which is marked. -/
def unmarked (bs : List Marked) : Bool := bs.all fun b => !b.2

theorem clean_of {bs : List Marked} (h : unmarked bs = true) : clean (bs.map (·.1)) = bs := by
  have : ∀ b ∈ bs, b.2 = false := by simpa [unmarked, List.all_eq_true] using h
  unfold clean
  rw [List.map_map, List.map_congr_left (g := id) fun b hb => by simp [Prod.ext_iff, this b hb], List.map_id]

/-- Pieces written one by one: where that goes on they are written as one. The memory is looked at after each, so that the
kernel evaluates it there. -/
def putLines (cls : BitVec 4) (scope : BitVec 3) : List Piece → List Marked → State → Option State
  | [], _, s => some s
  | p :: ps, bs, s =>
    match s.writePiece cls scope p (bs.take p.n) with
    | none => none
    | some s1 => if s1.dev.mem.length < 2 ^ 20 then putLines cls scope ps (bs.drop p.n) s1 else none

theorem putLines_writes {cls : BitVec 4} {scope : BitVec 3} {ps : List Piece} {bs : List Marked} {s u : State}
    (h : putLines cls scope ps bs s = some u) : s.writePieces cls scope ps bs = some u := by
  induction ps generalizing bs s with
  | nil => exact h
  | cons p ps ih =>
    simp only [putLines] at h
    simp only [State.writePieces]
    split at h
    · cases h
    · next s1 e =>
      split at h
      · first
        | exact ih h
        | simpa only [e] using ih h
      · cases h

/-- Bytes put line by line. -/
def linePut (z : State) (k : CmdRec) (va : Nat) (bs : List Marked) : Option State :=
  match z.rangeBy k.plain .write va bs.length with
  | (z1, .ok ps) => if ps.any (z1.pieceHeld k) then none else putLines k.cls k.scope (ps.map fun p => { p with past := k.na }) bs z1
  | _ => none

theorem linePut_puts {z u : State} {k : CmdRec} {c : List (BitVec 32)} {va : Nat} {bs : List Marked} (h : linePut z k va bs = some u) :
    z.engPut k c va bs = .ok u := by
  unfold linePut at h
  unfold State.engPut State.engWrite
  split at h
  · next z1 ps e =>
    split at h
    · cases h
    · next c1 => simp only [e, c1, State.writeAll, putLines_writes h]; rfl
  · cases h

/-- The access made. -/
def Act.run (k : CmdRec) (a : Act) (x : State) : Option State :=
  match a with
  | .homedSpan va n =>
    match x.rangeBy k.plain .read (va % 2 ^ 64) n with
    | (z, .ok (p :: ps)) =>
      if ((p :: ps).all fun q => z.atomicHome q.pa q.leaf) && decide (residency p.pa ≠ 3) then some (noted z k false [residency p.pa])
      else none
    | _ => none
  | .fetched va n bs =>
    match x.engFetch k (cursorNow x k) (va % 2 ^ 64) n with
    | .ok (z, got) => if decide (got = clean bs) then some (noted z k false (answerBytes (clean bs))) else none
    | _ => none
  | .fetchedNat va n v =>
    match x.engFetch k (cursorNow x k) (va % 2 ^ 64) n with
    | .ok (z, got) =>
      if unmarked got && decide (leNat (got.map (·.1)) = v) then some (noted z k false (answerBytes (clean (got.map (·.1))))) else none
    | _ => none
  | .put va bs => match x.engPut k (cursorNow x k) (va % 2 ^ 64) bs with | .ok z => some (noted z k true []) | _ => none
  | .touched va n =>
    match x.rangeBy k.plain .write (va % 2 ^ 64) n with | (z, .ok _) => some (noted z k false []) | _ => none
  | .acked => if x.ctx.unacked (oneClass k.cls) x.ctx.postSeq then none else some (noted x k false [])
  | .changed va n f old =>
    match x.rangeBy k.plain .atomic va n with
    | (z, .ok ps) =>
      let got := z.readPieces (ringCode k.ring) ps
      if !ps.any (z.pieceHeld k) && unmarked got.2 && decide (leNat (got.2.map (·.1)) = old) then
        match f old with
        | none => some (noted got.1 k false [old])
        | some v => (got.1.writePieces k.cls k.scope ps (clean (leBytes n v))).map fun u => noted u k true [old]
      else none
    | _ => none
  | .copied src dst n i =>
    match x.engFetch k (cursorNow x k) ((src + 2048 * i) % 2 ^ 64) (min 2048 (n - 2048 * i)) with
    | .ok (z, bs) =>
      (linePut z k ((dst + 2048 * i) % 2 ^ 64) bs).map fun u => noted u k true []
    | _ => none
  | .pointed n ws => some (x.updWork k.seq fun w => { w with progress := n, words := ws, log := [] })
  | .seen _ d _ => if d x then some x else none
  | .sets f => some (x.setCtl f)
  | .checked va n lo len v out =>
    match x.engFetch k (cursorNow x k) (va % 2 ^ 64) n with
    | .ok (z, got) =>
      if unmarked got && decide (fieldLE (got.map (·.1)) lo len = v) then
        match z.engPut k (cursorNow x k) (va % 2 ^ 64) out with | .ok u => some (noted u k true []) | _ => none
      else none
    | _ => none
  | .placed va n =>
    match x.rangeBy k.plain .read va n with
    | (z, .ok (p :: _)) => if decide (residency p.pa = 2) && z.atomicHome p.pa p.leaf && !z.servesEntry k va then some z else none
    | _ => none

theorem Act.run_leg {k : CmdRec} {a : Act} {x y : State} (h : a.run k x = some y) : a.leg k x y := by
  cases a <;> simp only [Act.run] at h <;> simp only [Act.leg]
  case homedSpan va n =>
    split at h
    · next z p ps e =>
      split at h
      · next c =>
        simp only [Bool.and_eq_true, decide_eq_true_eq, List.all_eq_true] at c
        cases h
        exact ⟨z, p, ps, e, c.1, c.2, rfl⟩
      · cases h
    · cases h
  case fetched va n bs =>
    split at h
    · next z got e =>
      split at h
      · next c => cases h; rw [of_decide_eq_true c] at e; exact ⟨z, e, rfl⟩
      · cases h
    · cases h
  case fetchedNat va n v =>
    split at h
    · next z got e =>
      split at h
      · next c =>
        simp only [Bool.and_eq_true, decide_eq_true_eq] at c
        cases h
        refine ⟨got.map (·.1), c.2, z, ?_, rfl⟩
        rw [clean_of c.1]; exact e
      · cases h
    · cases h
  case put va bs =>
    split at h
    · next z e => cases h; exact ⟨z, e, rfl⟩
    · cases h
  case touched va n =>
    split at h
    · next z ps e => cases h; exact ⟨z, ps, e, rfl⟩
    · cases h
  case acked =>
    split at h
    · cases h
    · next c => cases h; exact ⟨by simpa using c, rfl⟩
  case changed va n f old =>
    split at h
    · next z ps e =>
      split at h
      · next c =>
        simp only [Bool.and_eq_true, decide_eq_true_eq, Bool.not_eq_true'] at c
        refine ⟨z, ps, (z.readPieces (ringCode k.ring) ps).1, (z.readPieces (ringCode k.ring) ps).2.map (·.1), e, c.1.1, ?_, c.2,
          ?_, ?_⟩
        · rw [clean_of c.1.2]
        · intro hf; rw [hf] at h; cases h; rfl
        · intro v hf
          rw [hf] at h
          simp only [Option.map_eq_some_iff] at h
          obtain ⟨u, h1, h2⟩ := h
          exact ⟨u, h1, h2.symm⟩
      · cases h
    · cases h
  case copied src dst n i =>
    split at h
    · next z bs e =>
      simp only [Option.map_eq_some_iff] at h
      obtain ⟨u, e2, rfl⟩ := h
      exact ⟨z, u, bs, e, linePut_puts e2, rfl⟩
    · cases h
  case pointed n ws => cases h; rfl
  case seen f d hd =>
    split at h
    · next c => cases h; exact ⟨hd x c, rfl⟩
    · cases h
  case sets f => cases h; rfl
  case checked va n lo len v out =>
    split at h
    · next z got e =>
      split at h
      · next c =>
        simp only [Bool.and_eq_true, decide_eq_true_eq] at c
        split at h
        · next u e2 =>
          cases h
          refine ⟨z, u, got.map (·.1), ?_, c.2, e2, rfl⟩
          rw [clean_of c.1]; exact e
        · cases h
      · cases h
    · cases h
  case placed va n =>
    split at h
    · next z p ps e =>
      split at h
      · next c =>
        simp only [Bool.and_eq_true, decide_eq_true_eq, Bool.not_eq_true'] at c
        cases h
        exact ⟨p, ps, e, c.1.1, c.1.2, c.2⟩
      · cases h
    · cases h

/-- Accesses made one after another. -/
def runs (k : CmdRec) : List Act → State → Option State
  | [], x => some x
  | a :: as, x => (a.run k x).bind (runs k as)

theorem course_of {k : CmdRec} {x : State} {as : List Act} (h : (runs k as x).isSome = true) :
    ∃ z, course (as.map (Act.leg k)) x z := by
  induction as generalizing x with
  | nil => exact ⟨x, rfl⟩
  | cons a as ih =>
    simp only [runs] at h
    match e : a.run k x with
    | none => rw [e] at h; cases h
    | some y =>
      rw [e] at h
      obtain ⟨z, hz⟩ := ih (x := y) h
      exact ⟨z, y, Act.run_leg e, hz⟩

theorem course_by {k : CmdRec} {x : State} {ls : List Leg} (as : List Act) (e : as.map (Act.leg k) = ls)
    (h : (runs k as x).isSome = true) : ∃ z, course ls x z := e ▸ course_of h

/-- A KV space at 0x20000, of one layer and one head of 64 channels, with two page slots at 0x22000. -/
def spaceBytes : List Byte :=
  leBytes 8 (18 * 2 ^ 16 + 4 * 2 ^ 24 + 8192 * 2 ^ 32) ++ leBytes 8 0x22000 ++ leBytes 8 2 ++ leBytes 8 0x20200 ++ leBytes 8 0x20300
    ++ leBytes 8 0x2C000 ++ List.replicate 16 0
def space1 : KvSpace := (KvSpace.ofBytes spaceBytes).getD ⟨0, 0, 0, 0, 0, 0, 0, 0, 0, 0, 0⟩

/-- A head with its slab at 0x26000 and its segment at 0x20100, of these LEN, PLEN, NPFX and VER. -/
def headBytes (len plen npfx ver : Nat) : List Byte :=
  leBytes 4 len ++ leBytes 4 plen ++ leBytes 2 npfx ++ leBytes 2 ver ++ leBytes 4 0 ++ leBytes 8 noSlot ++ leBytes 8 0x26000
    ++ leBytes 8 0x20000 ++ leBytes 8 0x20100 ++ List.replicate 16 0
def empty1 : KvHead := KvHead.ofBytes (headBytes 0 0 0 0)

/-- The state with the KV space, with an empty head at 0x20040 and these bytes at these addresses. -/
def kv (s : State) (more : List (Nat × List Byte)) : State :=
  let m := ((0x20000, spaceBytes) :: (0x20040, headBytes 0 0 0 0) :: more).foldl
    (fun (m : Memory) x => m.writeBytes (x.1 + 0xE0000) x.2) []
  { s with dev := { s.dev with mem := m } }

/-- The head in the state after steps 1 and 2, and the command as it issues there. -/
def headOf (s : State) (r : Ring) (c : Cmd) : State := past2 (withCmd s (cmdRec r c .queued)) r
def issuedAt (s : State) (r : Ring) (c : Cmd) (g : Gated) : State × CmdRec := (headOf s r c).issue (cmdRec r c .queued) g

/-- The accesses that open a layer, commit a head, and give up a slot that is not yet free. -/
def opening (hb : List Byte) : List Act := [.homed 0x20040, .fetched 0x20040 64 hb, .fetched 0x20000 64 spaceBytes]
def committing (old new : KvHead) : List Act :=
  [.acked, .homed 0x20040, .checked 0x20040 32 10 2 old.ver (clean (nextVer old new).image), .acked]

/-- KVCOW of an empty head: it has no partly filled page. -/
def cow1 : Cmd := { cmd 0x42 with w1 := 0x20040 }

theorem witness_KvCommands_cow :
    let y := issuedAt (kv regs []) .ro cow1 noTiles
    readyHead (withCmd (kv regs []) (cmdRec .ro cow1 .queued)) .ro cow1 (kvcowJob cow1).bad (cmdRec .ro cow1 .queued)
        (headOf (kv regs []) .ro cow1)
      ∧ layerOpen 0 (headBytes 0 0 0 0) spaceBytes empty1 space1 ∧ needsCow empty1 = false
      ∧ ∃ z, course ((List.range 1).flatMap fun l => layerRead y.2 (0x20040 + 64 * l) (headBytes 0 0 0 0) spaceBytes
          ++ cows y.2 space1 (0x20040 + 64 * l) empty1 0 0 [] 0 ++ [pointed y.2 (l + 1) []]) y.1 z :=
  ⟨ready_of (by decide +kernel), ⟨by decide +kernel, rfl, by decide +kernel, by decide +kernel, by decide +kernel, by decide +kernel⟩,
    by decide +kernel, course_by (opening (headBytes 0 0 0 0) ++ [.pointed 1 []]) rfl (by decide +kernel)⟩

/-- KVGROW of an empty head to a slab at 0x28000. -/
def grow1 : Cmd := { cmd 0x41 with w1 := 0x20040, w2 := 0x28000 }

theorem witness_KvCommands_grow :
    let y := issuedAt (kv regs []) .ro grow1 noTiles
    let h := empty1
    let ks := space1
    let h1 := nextVer h { h with move := true }
    let used := (h.len - h.plen + 63) / 64 * ks.pslot
    readyHead (withCmd (kv regs []) (cmdRec .ro grow1 .queued)) .ro grow1 (kvgrowJob grow1).bad (cmdRec .ro grow1 .queued)
        (headOf (kv regs []) .ro grow1)
      ∧ h.slog ≠ 15
      ∧ ∃ z, course (layerRead y.2 0x20040 (headBytes 0 0 0 0) spaceBytes ++ [put y.2 (0x20040 + 48) (clean (leBytes 8 0x28000))]
          ++ commits y.2 0x20040 h { h with move := true }
          ++ [Claims.sets fun c => { c with fwdOld := BitVec.ofNat 56 h.slab, fwdNew := BitVec.ofNat 56 0x28000, fwdAct := true, fwdOff := 0,
                                            fwdSpan := 64 * 2 ^ h.slog * ks.pslot, fwdUsed := used },
              pointed y.2 0 (1 :: h1.words)]
          ++ [put y.2 (0x20040 + 48) (clean (leBytes 8 0))]
          ++ commits y.2 0x20040 h1 { h1 with slab := 0x28000, slog := h1.slog + 1, move := false }
          ++ [Claims.sets fun c => { c with fwdOld := 0, fwdNew := 0, fwdAct := false, fwdOff := 0, fwdSpan := 0, fwdUsed := 0 }]) y.1 z :=
  ⟨ready_of (by decide +kernel), by decide +kernel, course_by (opening (headBytes 0 0 0 0) ++ [.put (0x20040 + 48) (clean (leBytes 8 0x28000))]
    ++ committing empty1 { empty1 with move := true }
    ++ [.sets fun c => { c with fwdOld := BitVec.ofNat 56 empty1.slab, fwdNew := BitVec.ofNat 56 0x28000, fwdAct := true, fwdOff := 0,
                                fwdSpan := 64 * 2 ^ empty1.slog * space1.pslot,
                                fwdUsed := (empty1.len - empty1.plen + 63) / 64 * space1.pslot },
        .pointed 0 (1 :: (nextVer empty1 { empty1 with move := true }).words), .put (0x20040 + 48) (clean (leBytes 8 0))]
    ++ committing (nextVer empty1 { empty1 with move := true }) { nextVer empty1 { empty1 with move := true } with
         slab := 0x28000, slog := (nextVer empty1 { empty1 with move := true }).slog + 1, move := false }
    ++ [.sets fun c => { c with fwdOld := 0, fwdNew := 0, fwdAct := false, fwdOff := 0, fwdSpan := 0, fwdUsed := 0 }])
    rfl (by decide +kernel)⟩

/-- KVREMAP from the empty head at 0x20080 to that at 0x20040. -/
def remap1 : Cmd := { cmd 0x43 with w1 := 0x20040, w2 := 0x20080 }
def twoHeads : State := kv regs [(0x20080, headBytes 0 0 0 0)]

theorem witness_KvCommands_remap :
    let y := issuedAt twoHeads .ro remap1 noTiles
    let eb := headBytes 0 0 0 0
    readyHead (withCmd twoHeads (cmdRec .ro remap1 .queued)) .ro remap1 (kvremapJob remap1).bad (cmdRec .ro remap1 .queued)
        (headOf twoHeads .ro remap1)
      ∧ (headBad eb = false ∧ (KvHead.ofBytes eb).len = 0 ∧ (KvHead.ofBytes eb).npfx = 0 ∧ (KvHead.ofBytes eb).move = false
        ∧ empty1.prel = noSlot ∧ remap1.w0.getLsbD 27 = false)
      ∧ ∃ z, course ((List.range 1).flatMap (fun l => headRead y.2 (0x20040 + 64 * l) eb) ++ [pointed y.2 0 [1]]
          ++ (List.range 1).flatMap fun l => layerRead y.2 (0x20040 + 64 * l) eb spaceBytes ++ headRead y.2 (0x20080 + 64 * l) eb
            ++ [pointed y.2 l (1 :: empty1.words ++ space1.words ++ empty1.words)]
            ++ (remapSlotLegs y.2 (0x20040 + 64 * l) l space1 empty1 (fun _ => 0) (fun _ => 0) empty1.npfx
                (empty1.npfx - empty1.npfx) empty1).1
            ++ headRead y.2 (0x20080 + 64 * l) eb ++ [pointed y.2 (l + 1) [1]]) y.1 z :=
  ⟨ready_of (by decide +kernel), by decide +kernel,
    course_by ([.homed 0x20040, .fetched 0x20040 64 (headBytes 0 0 0 0), .pointed 0 [1]] ++ opening (headBytes 0 0 0 0)
      ++ [.homed 0x20080, .fetched 0x20080 64 (headBytes 0 0 0 0), .pointed 0 (1 :: empty1.words ++ space1.words ++ empty1.words),
          .homed 0x20080, .fetched 0x20080 64 (headBytes 0 0 0 0), .pointed 1 [1]]) rfl (by decide +kernel)⟩

/-- The root at 0x2C000, whose table has one entry; a child of one token at 0x2C400, with the page of slot 1. -/
def rootBytes : List Byte := leBytes 8 64 ++ List.replicate 56 0
def childBytes : List Byte := leBytes 8 1 ++ leBytes 8 0x2C000 ++ List.replicate 48 0
def edgeBytes : List Byte := leBytes 4 77 ++ List.replicate 252 0 ++ leBytes 4 1
def freeBytes : List Byte := leBytes 8 0 ++ leBytes 8 0 ++ leBytes 4 2 ++ leBytes 4 0 ++ leBytes 8 0x20340
def treed (child : Nat) : State :=
  kv regs [(0x20400, leBytes 4 77), (0x2C000, rootBytes), (0x2C000 + 384, leBytes 8 child), (0x2C400, childBytes),
    (0x2C440, edgeBytes), (0x20204, leBytes 4 2), (0x20300, freeBytes)]

/-- PFXWALK of one token at 0x20400 from the head at 0x20040, its result to 0x20410. -/
def walk1 : Cmd := { w0 := 0x100000044, w1 := 0x20400, w2 := 0x20040, w3 := 0x20410 }
def walkOpens : List Act :=
  [.homed 0x20040, .fetched 0x20040 64 (headBytes 0 0 0 0), .fetched 0x20000 64 spaceBytes, .homed 0x20040,
   .fetched 0x20040 64 (headBytes 0 0 0 0), .pointed 0 ((Walk.mk 0 0x2C000 0 [empty1]).words space1),
   .homed 0x2C000, .fetched 0x2C000 64 rootBytes, .homedSpan 0x2C180 8]

theorem witness_PrefixCommands_walk :
    let y := issuedAt (treed 0) .ri walk1 noTiles
    readyHead (withCmd (treed 0) (cmdRec .ri walk1 .queued)) .ri walk1 (pfxwalkJob walk1).bad (cmdRec .ri walk1 .queued)
        (headOf (treed 0) .ri walk1)
      ∧ headBad (headBytes 0 0 0 0) = false ∧ KvSpace.ofBytes spaceBytes = some space1 ∧ empty1.ksva = 0x20000 ∧ empty1.move = false
      ∧ nodeFits space1 rootBytes (leBytes 8 0) ∧ firstEntry rootBytes (leBytes 8 0) 77 = 0
      ∧ ∃ z, course (headRead y.2 0x20040 (headBytes 0 0 0 0) ++ [Claims.fetched y.2 0x20000 64 spaceBytes]
          ++ headRead y.2 (layerVa 0x20040 0) (headBytes 0 0 0 0)
          ++ [pointed y.2 0 ((Walk.mk 0 0x2C000 0 [empty1]).words space1)] ++ topRead y.2 space1 0x2C000 rootBytes (leBytes 8 0)
          ++ [Claims.fetchedNat y.2 0x20400 4 77, Claims.put y.2 0x20410 (clean (leBytes 8 0 ++ leBytes 8 0x2C000))]) y.1 z :=
  ⟨ready_of (by decide +kernel), by decide +kernel, by decide +kernel, by decide +kernel, by decide +kernel,
    by unfold nodeFits; decide +kernel, by decide +kernel,
    course_by (walkOpens ++ [.fetched 0x2C180 8 (leBytes 8 0), .fetchedNat 0x20400 4 77,
      .put 0x20410 (clean (leBytes 8 0 ++ leBytes 8 0x2C000))]) rfl (by decide +kernel)⟩

/-- The same where the child's edge is that token, and the count of its page is 2. -/
theorem witness_PrefixCommands_walk_child :
    let y := issuedAt (treed 0x2C400) .ri walk1 noTiles
    let nb := rootBytes
    let tb := leBytes 8 0x2C400
    let cb := childBytes
    let ctb := leBytes 8 0
    let next : KvHead := { empty1 with plen := 1, len := 1, npfx := 1 }
    readyHead (withCmd (treed 0x2C400) (cmdRec .ri walk1 .queued)) .ri walk1 (pfxwalkJob walk1).bad (cmdRec .ri walk1 .queued)
        (headOf (treed 0x2C400) .ri walk1)
      ∧ nodeFits space1 nb tb ∧ 1 < firstEntry nb tb 77 ∧ nodeFits space1 cb ctb ∧ nodeElen cb = 1 ∧ 1 ≤ wordBits walk1.w0 32 32
      ∧ numbers 4 1 (leBytes 4 77) = numbers 4 1 edgeBytes ∧ (numbers 4 1 (edgeBytes.drop 256)).getD 0 0 = 1 ∧ 1 < space1.nslots
      ∧ fieldLE freeBytes 16 4 ≠ 0 ∧ fieldLE freeBytes 24 8 % 2 ^ 56 % 4 = 0
      ∧ ∃ z, course (headRead y.2 0x20040 (headBytes 0 0 0 0) ++ [Claims.fetched y.2 0x20000 64 spaceBytes]
          ++ headRead y.2 (layerVa 0x20040 0) (headBytes 0 0 0 0)
          ++ [pointed y.2 0 ((Walk.mk 0 0x2C000 0 [empty1]).words space1)] ++ topRead y.2 space1 0x2C000 nb tb
          ++ [Claims.fetchedNat y.2 0x20400 4 77] ++ [Claims.homedSpan y.2 0x2C400 68, Claims.fetchedNat y.2 (0x2C400 + 64) 4 77]
          ++ nodeRead y.2 space1 0x2C400 cb edgeBytes ctb ++ [Claims.fetched y.2 0x20400 (4 * nodeElen cb) (leBytes 4 77)]
          ++ [Claims.homed y.2 (space1.rcnt + 4 * 1), Claims.touched y.2 (space1.rcnt + 4 * 1) 4]
          ++ [Claims.touched y.2 (empty1.pseg + 4 * empty1.npfx) 4, Claims.touched y.2 (layerVa 0x20040 0) 32]
          ++ queueRead y.2 space1 freeBytes ++ [Claims.touched y.2 space1.freeq 8]
          ++ [Claims.homed y.2 (space1.rcnt + 4 * 1), Claims.changed y.2 ((space1.rcnt + 4 * 1) % 2 ^ 64) 4 (raisedCount true) 2]
          ++ Claims.put y.2 (empty1.pseg + 4 * empty1.npfx) (clean (leBytes 4 1)) :: commits y.2 (layerVa 0x20040 0) empty1 next
          ++ [pointed y.2 1 ((Walk.mk 1 0x2C400 1 [nextVer empty1 next]).words space1),
              Claims.put y.2 0x20410 (clean (leBytes 8 1 ++ leBytes 8 0x2C400))]) y.1 z :=
  ⟨ready_of (by decide +kernel), by unfold nodeFits; decide +kernel, by decide +kernel, by unfold nodeFits; decide +kernel,
    by decide +kernel, by decide +kernel, by decide +kernel, by decide +kernel, by decide +kernel, by decide +kernel, by decide +kernel,
    course_by (walkOpens ++ [.fetched 0x2C180 8 (leBytes 8 0x2C400), .fetchedNat 0x20400 4 77, .homedSpan 0x2C400 68,
      .fetchedNat 0x2C440 4 77, .homed 0x2C400, .fetched 0x2C400 64 childBytes, .homedSpan 0x2C440 260, .fetched 0x2C440 260 edgeBytes,
      .homedSpan 0x2C580 8, .fetched 0x2C580 8 (leBytes 8 0), .fetched 0x20400 4 (leBytes 4 77), .homed 0x20204, .touched 0x20204 4,
      .touched 0x20100 4, .touched 0x20040 32, .homed 0x20300, .fetched 0x20300 32 freeBytes, .touched 0x20300 8,
      .homed 0x20204, .changed 0x20204 4 (raisedCount true) 2, .put 0x20100 (clean (leBytes 4 1))]
      ++ committing empty1 { empty1 with plen := 1, len := 1, npfx := 1 }
      ++ [.pointed 1 ((Walk.mk 1 0x2C400 1 [nextVer empty1 { empty1 with plen := 1, len := 1, npfx := 1 }]).words space1),
          .put 0x20410 (clean (leBytes 8 1 ++ leBytes 8 0x2C400))]) rfl (by decide +kernel)⟩

/-- KVAPPEND of row 48 of tile 3, in MX, and of tile 4, in BF16, which holds +0. -/
def append1 : Cmd := { cmd 0x40 with w1 := 0x20040, w2 := 0xC000403 }
def appending : State :=
  let s := kv grained []
  { s with core := { s.core with tiles := s.core.tiles.set 4 { tile0 with base := 4096, fmt := 2 } } }
/-- The parts of a K cell of two ZERO records. -/
def cell1 : List (List Marked) := [clean [6, 0x7F], clean [6, 0x7F], clean (List.replicate 60 0)]
def token1 : TokenData :=
  { cell := fun _ => cell1, value := fun _ _ => (fmtBf16.decode 0, false), format := fun _ _ => .zero,
    record := fun _ _ => [] }

/-- The K cell that a state's tile holds, as a test. -/
def cellIs (a : Append) (ks : KvSpace) (row : Nat) (cell : List (List Marked)) (x : State) : Bool :=
  match kRecords ((x.tile a.kt).fmt == 10) ks.krec ((List.range (ks.d / 32)).map fun b => x.rowRead (x.tile a.kt) row (36 * b) 36) with
  | .ok rs => decide (cell = rs ++ [clean (List.replicate (ks.kcell - rs.flatten.length) 0)])
  | .error _ => false

theorem cellIs_sound {a : Append} {ks : KvSpace} {row : Nat} {cell : List (List Marked)} {x : State} (h : cellIs a ks row cell x = true) :
    ∃ rs, kRecords ((x.tile a.kt).fmt == 10) ks.krec
        ((List.range (ks.d / 32)).map fun b => x.rowRead (x.tile a.kt) row (36 * b) 36) = .ok rs
      ∧ cell = rs ++ [clean (List.replicate (ks.kcell - rs.flatten.length) 0)] := by
  unfold cellIs at h
  split at h
  · next rs e => exact ⟨rs, e, of_decide_eq_true h⟩
  · cases h

/-- The accesses of that KVAPPEND. -/
def appendActs : List Act :=
  opening (headBytes 0 0 0 0)
      ++ [.seen (fun v => 48 ≤ (v.tile 3).rows.toNat ∧ 72 ≤ (v.tile 3).width.toNat
            ∧ 48 ≤ (v.tile 4).rows.toNat ∧ 64 * (if (v.tile 4).fmt = 1 then 4 else 2) ≤ (v.tile 4).width.toNat)
            (fun v => decide (48 ≤ (v.tile 3).rows.toNat ∧ 72 ≤ (v.tile 3).width.toNat
              ∧ 48 ≤ (v.tile 4).rows.toNat ∧ 64 * (if (v.tile 4).fmt = 1 then 4 else 2) ≤ (v.tile 4).width.toNat))
            (fun _ h => of_decide_eq_true h),
          .pointed 0 [], .pointed 0 (empty1.words ++ space1.words), .touched 0x26000 64]
      ++ (List.range 64).map (fun c => .touched (0x27000 + 2 * c * 18) 18)
      ++ [.seen (fun x => ∀ j, j < 1 → ∃ rs, kRecords ((x.tile 3).fmt == 10) 18
              ((List.range 2).map fun b => x.rowRead (x.tile 3) (48 + j) (36 * b) 36) = .ok rs
            ∧ cell1 = rs ++ [clean (List.replicate (64 - rs.flatten.length) 0)])
            (cellIs (appendOf append1) space1 48 cell1)
            (fun _ h j hj => by obtain rfl : j = 0 := by omega
                                exact cellIs_sound h),
          .put 0x26000 (clean [6, 0x7F]), .put 0x26002 (clean [6, 0x7F]), .put 0x26004 (clean (List.replicate 60 0))]
      ++ (List.range 64).flatMap (fun c =>
           [.seen (fun x => vtAt x (appendOf append1) 48 c = (fmtBf16.decode 0, false))
              (fun x => decide (vtAt x (appendOf append1) 48 c = (fmtBf16.decode 0, false))) (fun _ h => of_decide_eq_true h),
            .put (0x27000 + 2 * c * 18) ((VBlock.opened space1.vf 0 (fmtBf16.decode 0)).record.map fun z => (z, false))])
      ++ [.pointed 1 (empty1.words ++ space1.words)]
      ++ committing empty1 { empty1 with len := 1 }

theorem witness_KvCommands_append :
    let a := appendOf append1
    let y := issuedAt appending .ro append1 { targets := [], readers := [a.kt, a.vt], words := [] }
    let h := empty1
    let ks := space1
    let hb := headBytes 0 0 0 0
    let last := a.row0 + ks.heads * a.ntok - 1
    let fits (v : State) : Prop := last ≤ (v.tile a.kt).rows.toNat ∧ 36 * ks.d / 32 ≤ (v.tile a.kt).width.toNat
      ∧ last ≤ (v.tile a.vt).rows.toNat ∧ ks.d * (if (v.tile a.vt).fmt = 1 then 4 else 2) ≤ (v.tile a.vt).width.toNat
    readyHead (withCmd appending (cmdRec .ro append1 .queued)) .ro append1 (kvappendJob append1).bad (cmdRec .ro append1 .queued)
        (headOf appending .ro append1)
      ∧ mineNow (headOf appending .ro append1) a.kt ∧ mineNow (headOf appending .ro append1) a.vt
      ∧ ((headOf appending .ro append1).tile a.kt).isMx = true ∧ ((headOf appending .ro append1).tile a.vt).fmt = 2
      ∧ ((headOf appending .ro append1).tile a.kt).mayRead = true ∧ ((headOf appending .ro append1).tile a.vt).mayRead = true
      ∧ h.len + a.ntok - h.plen ≤ 64 * 2 ^ h.slog
      ∧ ∃ z, course (layerRead y.2 a.dva hb spaceBytes ++ [seen fits] ++ cows y.2 ks a.dva h 0 0 [] 0
          ++ [pointed y.2 0 [], pointed y.2 0 (h.words ++ ks.words)]
          ++ (List.range a.ntok).flatMap (fun i => tokenLegs y.2 a h ks i token1 ++ [pointed y.2 (i + 1) (h.words ++ ks.words)])
          ++ commits y.2 a.dva h { h with len := h.len + a.ntok }) y.1 z :=
  ⟨ready_of (by decide +kernel), by unfold mineNow; decide +kernel, by unfold mineNow; decide +kernel, by decide +kernel, by decide +kernel, by decide +kernel,
    by decide +kernel, by decide +kernel,
    course_by appendActs rfl (by decide +kernel)⟩

/-- A KV space whose pages and slab lie below every other structure: the pool at 0x20000, the slab at 0x24000. -/
def lowSpace : List Byte :=
  leBytes 8 (18 * 2 ^ 16 + 4 * 2 ^ 24 + 8192 * 2 ^ 32) ++ leBytes 8 0x20000 ++ leBytes 8 2 ++ leBytes 8 0x2E200 ++ leBytes 8 0x2E300
    ++ leBytes 8 0x2C000 ++ List.replicate 16 0
def low1 : KvSpace := (KvSpace.ofBytes lowSpace).getD ⟨0, 0, 0, 0, 0, 0, 0, 0, 0, 0, 0⟩
def lowHead : List Byte :=
  leBytes 4 1 ++ leBytes 12 0 ++ leBytes 8 noSlot ++ leBytes 8 0x24000 ++ leBytes 8 0x2E000 ++ leBytes 8 0x2E100
    ++ List.replicate 16 0

/-- PFXINS of one node at 0x2C400 for the token at 0x2E400, with slot 1, below the root; its record lies at 0x2E440. -/
def insert1 : Cmd := { cmd 0x45 with w1 := 0x2E440, w2 := 0x2E040 }
def insertionBytes : List Byte :=
  leBytes 8 0x2C000 ++ leBytes 4 0 ++ leBytes 2 1 ++ leBytes 2 1 ++ leBytes 8 0x2E400 ++ leBytes 8 0x2E500 ++ leBytes 8 0x2E508
    ++ List.replicate 24 0
def inserting : State :=
  let m := [(0x2E000, lowSpace), (0x2E040, lowHead), (0x2E400, leBytes 4 77), (0x2C000, rootBytes), (0x2E440, insertionBytes),
    (0x2E500, leBytes 8 0x2C400), (0x2E508, leBytes 4 1)].foldl
    (fun (m : Memory) x => m.writeBytes (x.1 + 0xE0000) x.2) []
  { regs with dev := { regs.dev with mem := m } }
def rootRead : List Act := [.homed 0x2C000, .fetched 0x2C000 64 rootBytes, .fetched 0x2C180 8 (leBytes 8 0)]
def insertActs : List Act :=
  [.fetched 0x2E440 64 insertionBytes, .fetched 0x2E500 8 (leBytes 8 0x2C400), .homed 0x2E040, .fetched 0x2E040 64 lowHead,
   .fetched 0x2E000 64 lowSpace, .homed 0x2E040, .fetched 0x2E040 64 lowHead] ++ rootRead
    ++ [.homed 0x2C400, .fetched 0x2E508 4 (leBytes 4 1), .homed 0x2E204]
    ++ (List.range 4).map (.copied 0x24000 0x22000 6400)
    ++ [.fetched 0x2E400 4 (leBytes 4 77), .put 0x2C400 (clean (nodeImage low1 1 0x2C000 [77] [1] none)),
        .put 0x2E204 (clean (leBytes 4 1)), .fetchedNat 0x2E400 4 77] ++ rootRead
    ++ [.homed 0x2C180, .touched 0x2C180 8, .acked, .homed 0x2C180,
        .changed 0x2C180 8 (fun v => if v = 0 then some 0x2C400 else none) 0]

theorem insertActs_run : (let y := issuedAt inserting .ro insert1 noTiles; (runs y.2 insertActs y.1).isSome) = true := by decide +kernel
theorem insertActs_legs (k : CmdRec) : insertActs.map (Act.leg k) = [Claims.fetched k 0x2E440 64 insertionBytes, Claims.fetched k 0x2E500 8 (leBytes 8 0x2C400)]
          ++ headRead k 0x2E040 lowHead ++ [Claims.fetched k 0x2E000 64 lowSpace] ++ headRead k 0x2E040 lowHead
          ++ [Claims.homed k 0x2C000, Claims.fetched k 0x2C000 64 rootBytes, Claims.fetched k 0x2C180 8 (leBytes 8 0)]
          ++ [Claims.homed k 0x2C400, Claims.fetched k 0x2E508 4 (leBytes 4 1)] ++ [Claims.homed k 0x2E204]
          ++ Claims.copied k 0x24000 0x22000 6400
          ++ [Claims.fetched k 0x2E400 4 (leBytes 4 77), Claims.put k 0x2C400 (clean (nodeImage low1 1 0x2C000 [77] [1] none))]
          ++ [Claims.put k 0x2E204 (clean (leBytes 4 1))] ++ [Claims.fetchedNat k 0x2E400 4 77]
          ++ [Claims.homed k 0x2C000, Claims.fetched k 0x2C000 64 rootBytes, Claims.fetched k 0x2C180 8 (leBytes 8 0)]
          ++ [Claims.homed k 0x2C180, Claims.touched k 0x2C180 8, allAcked k, Claims.homed k 0x2C180,
              Claims.changed k 0x2C180 8 (fun v => if v = 0 then some 0x2C400 else none) 0] := rfl

theorem witness_PrefixCommands_insert :
    let y := issuedAt inserting .ro insert1 noTiles
    let i := Insertion.ofBytes insertionBytes
    let hb := lowHead
    let h := KvHead.ofBytes hb
    let tb := leBytes 8 0
    readyHead (withCmd inserting (cmdRec .ro insert1 .queued)) .ro insert1 (pfxinsJob insert1).bad (cmdRec .ro insert1 .queued)
        (headOf inserting .ro insert1)
      ∧ insertionBad insertionBytes = [] ∧ i.ne = 1 ∧ headBad hb = false ∧ nodeFits low1 rootBytes tb ∧ nodeElen rootBytes = 64
      ∧ firstEntry rootBytes tb 77 = 0 ∧ i.tok0 + i.tail ≤ h.len ∧ h.prel = noSlot
      ∧ (i.nodeva = 0x2E500 ∧ i.slotva = 0x2E508 ∧ i.parent = 0x2C000 ∧ i.tokva + 4 * i.tok0 = 0x2E400 ∧ i.tail = 1 ∧ h.ksva = 0x2E000
        ∧ h.slab + (i.tok0 - h.plen) / 64 * low1.pslot = 0x24000 ∧ low1.pool + 1 * low1.pslot = 0x22000 ∧ low1.page = 6400
        ∧ low1.rcnt + 4 * 1 = 0x2E204 ∧ i.parent + childOffset low1.layers + 8 * firstProbe (nodeClog rootBytes) 77 = 0x2C180)
      ∧ ∃ z, course ([Claims.fetched y.2 0x2E440 64 insertionBytes, Claims.fetched y.2 0x2E500 8 (leBytes 8 0x2C400)]
          ++ headRead y.2 0x2E040 hb ++ [Claims.fetched y.2 0x2E000 64 lowSpace] ++ headRead y.2 0x2E040 hb
          ++ [Claims.homed y.2 0x2C000, Claims.fetched y.2 0x2C000 64 rootBytes, Claims.fetched y.2 0x2C180 8 tb]
          ++ [Claims.homed y.2 0x2C400, Claims.fetched y.2 0x2E508 4 (leBytes 4 1)] ++ [Claims.homed y.2 0x2E204]
          ++ Claims.copied y.2 0x24000 0x22000 6400
          ++ [Claims.fetched y.2 0x2E400 4 (leBytes 4 77), Claims.put y.2 0x2C400 (clean (nodeImage low1 1 0x2C000 [77] [1] none))]
          ++ [Claims.put y.2 0x2E204 (clean (leBytes 4 1))] ++ [Claims.fetchedNat y.2 0x2E400 4 77]
          ++ [Claims.homed y.2 0x2C000, Claims.fetched y.2 0x2C000 64 rootBytes, Claims.fetched y.2 0x2C180 8 tb]
          ++ [Claims.homed y.2 0x2C180, Claims.touched y.2 0x2C180 8, allAcked y.2, Claims.homed y.2 0x2C180,
              Claims.changed y.2 0x2C180 8 (fun v => if v = 0 then some 0x2C400 else none) 0]) y.1 z :=
  ⟨ready_of (by decide +kernel), by decide +kernel, by decide +kernel, by decide +kernel, by unfold nodeFits; decide +kernel,
    by decide +kernel, by decide +kernel, by decide +kernel, by decide +kernel, by decide +kernel,
    course_by insertActs (insertActs_legs _) insertActs_run⟩

/-- PFXREL of the head at 0x20040, whose one token lies in the page of slot 1, and of a list of that slot; its count is 2. -/
def release1 : Cmd := { cmd 0x46 with w1 := 0x20040 }
def release2 : Cmd := { w0 := 0x108000046, w1 := 0x20100, w2 := 0x20000, w3 := 0 }
def prefixed : State := kv regs [(0x20040, headBytes 1 1 1 0), (0x20100, leBytes 4 1), (0x20204, leBytes 4 2)]
def one1 : KvHead := KvHead.ofBytes (headBytes 1 1 1 0)
def released1 : KvHead := nextVer one1 { one1 with len := 0, plen := 0 }
def lowering : List Act :=
  [.homed 0x20204, .fetchedNat 0x20204 4 2, .homed 0x20204, .changed 0x20204 4 (fun v => if v = 0 then none else some (v - 1)) 2]

theorem witness_PrefixCommands_release :
    let y := issuedAt prefixed .ro release1 noTiles
    let hb := headBytes 1 1 1 0
    readyHead (withCmd prefixed (cmdRec .ro release1 .queued)) .ro release1 (pfxrelSequenceJob release1).bad
        (cmdRec .ro release1 .queued) (headOf prefixed .ro release1)
      ∧ headBad hb = false ∧ one1.prel = noSlot ∧ one1.move = false ∧ one1.npfx = 1 ∧ (1 : Nat) < space1.nslots
      ∧ ∃ z, course (layerRead y.2 (layerVa 0x20040 0) hb spaceBytes
          ++ commits y.2 (layerVa 0x20040 0) one1 { one1 with len := 0, plen := 0 }
          ++ [Claims.pointed y.2 0 (1 :: released1.words ++ space1.words)]
          ++ releaseLegs y.2 (layerVa 0x20040 0) 0 space1 (fun _ => 1) (fun _ => 2) (fun _ => 0) (fun _ => []) one1.npfx released1
          ++ [Claims.pointed y.2 1 []]) y.1 z :=
  ⟨ready_of (by decide +kernel), by decide +kernel, by decide +kernel, by decide +kernel, by decide +kernel, by decide +kernel,
    course_by (opening (headBytes 1 1 1 0) ++ committing one1 { one1 with len := 0, plen := 0 }
      ++ [.pointed 0 (1 :: released1.words ++ space1.words), .fetchedNat 0x20100 4 1, .touched 0x20040 32] ++ lowering
      ++ committing released1 { released1 with npfx := 0 }
      ++ [.pointed 0 (1 :: (nextVer released1 { released1 with npfx := 0 }).words ++ space1.words), .pointed 1 []])
      rfl (by decide +kernel)⟩

theorem witness_PrefixCommands_release_list :
    let y := issuedAt prefixed .ro release2 noTiles
    readyHead (withCmd prefixed (cmdRec .ro release2 .queued)) .ro release2 (pfxrelListJob release2).bad
        (cmdRec .ro release2 .queued) (headOf prefixed .ro release2)
      ∧ wordBits release2.w0 32 32 = 1
      ∧ ∃ z, course ([Claims.fetched y.2 0x20000 64 spaceBytes, Claims.pointed y.2 0 space1.words]
          ++ [Claims.fetchedNat y.2 0x20100 4 1] ++ lowers y.2 space1 1 2 [] 0 ++ [Claims.pointed y.2 1 space1.words]) y.1 z :=
  ⟨ready_of (by decide +kernel), by decide +kernel,
    course_by ([.fetched 0x20000 64 spaceBytes, .pointed 0 space1.words, .fetchedNat 0x20100 4 1] ++ lowering
      ++ [.pointed 1 space1.words]) rfl (by decide +kernel)⟩

/-- PFXDIR of an entry at 0x20000, in a BI page of the pool, which holds `e`. -/
def listed (e : Nat) : State :=
  let s := pooled
  let leaf : BitVec 64 := BitVec.ofNat 64 (2 ^ 50 + 0x71)
  { s with clu := { s.clu with tlb := [{ page with leaf := leaf }] },
           dev := { s.dev with mem := (s.dev.mem.writeBytes (2 ^ 50) (leBytes 32 e)) } }
def claimed (s : State) : Nat := (dirClaim s.pondDev 5 0x2000 0 1 0).getD 0
def dirClaim1 : Cmd := { cmd 0x4000047 with w1 := 0x20000, w2 := 0x2000, w3 := 0x100000000 }
def dirShare1 : Cmd := { w0 := 0x104000047, w1 := 0x20000, w2 := 0, w3 := 0 }
def dirDrop1 : Cmd := { w0 := 0x204000047, w1 := 0x20000, w2 := 0, w3 := 0 }

theorem witness_PrefixCommands_directory :
    (let s := listed 0
     let y := issuedAt s .ro dirClaim1 noTiles
     let f := dirClaim y.1.pondDev y.1.ctx.asid.toNat 0x2000 0 1
     readyHead (withCmd s (cmdRec .ro dirClaim1 .queued)) .ro dirClaim1 (pfxdirClaimJob dirClaim1).bad (cmdRec .ro dirClaim1 .queued)
         (headOf s .ro dirClaim1)
       ∧ (f 0).isSome = true ∧ ∃ z, course [Act.leg y.2 (.placed 0x20000 32), Claims.changed y.2 0x20000 32 f 0] y.1 z)
    ∧ (let s := listed (claimed pooled)
       let y := issuedAt s .ro dirShare1 noTiles
       let f := dirShare y.1.pondDev
       readyHead (withCmd s (cmdRec .ro dirShare1 .queued)) .ro dirShare1 (pfxdirShareJob dirShare1).bad
           (cmdRec .ro dirShare1 .queued) (headOf s .ro dirShare1)
         ∧ (f (claimed pooled)).isSome = true
         ∧ ∃ z, course [Act.leg y.2 (.placed 0x20000 32), Claims.changed y.2 0x20000 32 f (claimed pooled)] y.1 z)
    ∧ (let s := listed (claimed pooled)
       let y := issuedAt s .ro dirDrop1 noTiles
       let f := dirDrop y.1.pondDev
       readyHead (withCmd s (cmdRec .ro dirDrop1 .queued)) .ro dirDrop1 (pfxdirDropJob dirDrop1).bad
           (cmdRec .ro dirDrop1 .queued) (headOf s .ro dirDrop1)
         ∧ (f (claimed pooled)).isSome = true
         ∧ ∃ z, course [Act.leg y.2 (.placed 0x20000 32), Claims.changed y.2 0x20000 32 f (claimed pooled)] y.1 z) :=
  ⟨⟨ready_of (by decide +kernel), by decide +kernel, course_by [.placed 0x20000 32, .changed 0x20000 32 _ _] rfl (by decide +kernel)⟩,
   ⟨ready_of (by decide +kernel), by decide +kernel, course_by [.placed 0x20000 32, .changed 0x20000 32 _ _] rfl (by decide +kernel)⟩,
   ⟨ready_of (by decide +kernel), by decide +kernel, course_by [.placed 0x20000 32, .changed 0x20000 32 _ _] rfl (by decide +kernel)⟩⟩

/-! ### The sluice -/

/-- A memory that holds these doublewords. -/
def wordsAt (ws : List (Nat × Nat)) : Memory := ws.foldl (fun m x => m.writeLE x.1 8 x.2) []

/-- An address space rooted at 0x300000 whose page at 0x20000 is the frame at 0x100000. -/
def space : List (Nat × Nat) :=
  [(0x300000, 0x301001), (0x301000, 0x302001), (0x302000, 0x303001), (0x303000, 0x304001), (0x304010, 0x100071)]

/-- Queue 3, enabled, with 16 slots at 0x20000. -/
def queue3 (kick : Nat) : List (Nat × Nat) := [(0x2000C0, kick), (0x2000D0, 0x20000), (0x2000D8, 0x84), (0x2000E0, 0x300000)]

/-- A cluster in partition 0; queue 3 is in this state, and its first slot starts with these doublewords. -/
def sluiced (st : QState) (kick : Nat) (slot : List Nat) : State :=
  let sl := { Sluice.empty with queues := if st = .disabled then [] else [{ q := 3, state := st, next := 0, held := [], done := [] }] }
  let ws := (slot.zipIdx.map fun x => (0x100000 + 8 * x.2, x.1)).filter fun x => x.1 != 0
  { regs with clu := { regs.clu with part := some 0 },
              dev := { regs.dev with formed := true, cfg := { Cfg.blank with qtbase := 0x200000 }, sluice := sl,
                                     mem := wordsAt (queue3 kick ++ space ++ ws ++ [(0x100100, 0x10000)]) } }

/-- A LAUNCH of one task, with its kernel descriptor at 0x20100. -/
def aLaunch : List Nat := [1, 0, 1, 0x20100]

/-- The packet at queue 3's next slot, with its member, satisfies `f`. -/
def parsed (s : State) (f : State → Member → QDesc → List Byte → Bool) : Bool :=
  match s.slot 3 with
  | .packet s1 d bs => let x := s1.newMember 3 d bs; f x.1 x.2 d bs
  | _ => false

theorem witness_QueuesPacketsAndLaunches_queues :
    ((sluiced .bound 0 aLaunch).dev.state = .ready ∧ (4095 : Nat) < 4096)
    ∧ (let s := sluiced .bound 1 aLaunch
       let d := s.queueDesc 3
       (s.dev.sluice.queue 3).state = .bound ∧ (s.dev.sluice.queue 3).next < d.kick ∧ s.dev.sluice.heapCount < 256 ∧ d.valid = true
        ∧ d.en = true
        ∧ (match s.sluiceRead d.asid d.root (d.ring + 128 * 0) 128 with | (_, .ok (_, p)) => !p | _ => false) = true)
    ∧ (State.reset.dev.sluice.queue 3).state = .disabled ∧ (State.reset.queueDesc 3).en = false
    ∧ ((sluiced .disabled 1 aLaunch).queueDesc 3).en = true ∧ ((sluiced .disabled 1 aLaunch).dev.sluice.queue 3).state = .disabled
    ∧ ((sluiced .broken 1 aLaunch).dev.sluice.queue 3).state = .broken
    ∧ (let s := sluiced .idle 1 aLaunch
       let d := s.queueDesc 3
       (s.dev.sluice.queue 3).state = .idle ∧ d.en = true ∧ d.ridx < d.kick ∧ s.dev.sluice.boundCount < 64
        ∧ s.dev.sluice.bindList = [])
    ∧ ((sluiced .idle 0 aLaunch).queueDesc 3).kick ≤ ((sluiced .idle 0 aLaunch).queueDesc 3).ridx
    ∧ (let qs := { q := 3, state := .idle, next := 0, held := [], done := [] } ::
         (List.range 64).map fun k => { q := 10 + k, state := .bound, next := 0, held := [], done := [] }
       let s := (sluiced .idle 1 aLaunch).sluice fun sl => { sl with queues := qs }
       s.dev.sluice.boundCount = 64 ∧ (s.dev.sluice.queue 3).state = .idle ∧ 3 ∉ s.dev.sluice.bindList)
    ∧ (let s : State := { sluiced .bound 0 aLaunch with dev := { (sluiced .bound 0 aLaunch).dev with mem := [] } }
       (s.dev.sluice.queue 3).state = .bound ∧ (s.queueDesc 3).en = false) := by decide +kernel

/-- A LAUNCH at a queue of a ready device: outcomes at its parse, in the order of R385, and the launch that runs. -/
theorem witness_QueuesPacketsAndLaunches_launches :
    parsed (sluiced .bound 1 [1, 0, 1, 0x20101]) (fun s m d bs => s.badPacket d bs && m.lid == 0) = true
    ∧ parsed (sluiced .bound 1 [1, 0, 1, 0x40000]) (fun s m d bs => !s.badPacket d bs
        && (match s.readKernel d.asid d.root m.pkt.kdva with | (_, .error _) => true | _ => false)) = true
    ∧ parsed (sluiced .bound 1 [1, 0, 0, 0x20100]) (fun s m d bs => !s.badPacket d bs && m.pkt.n == 0
        && (match s.readKernel d.asid d.root m.pkt.kdva with | (_, .ok _) => true | _ => false)) = true
    ∧ parsed (sluiced .bound 1 [1, 0, 0x1000001, 0x20100]) (fun s m d bs => !s.badPacket d bs
        && decide (2 ^ 24 < m.pkt.n.toNat)) = true
    ∧ parsed (sluiced .bound 1 [0x8FC00001, 0, 64, 0x20100]) (fun s m d bs => !s.badPacket d bs && !s.canHold d.part m.pkt) = true
    ∧ parsed (sluiced .bound 1 [0x100000001, 1, 1, 0x20100]) (fun s m d bs => !s.badPacket d bs && s.canHold d.part m.pkt
        && !s.admits d.part m.pkt.scls m.pkt.due m.pkt.estim) = true
    ∧ parsed (sluiced .bound 1 aLaunch) (fun s m d bs => !s.badPacket d bs && s.canHold d.part m.pkt
        && s.admits d.part m.pkt.scls m.pkt.due m.pkt.estim
        && (match s.readKernel d.asid d.root m.pkt.kdva with | (_, .ok _) => true | _ => false)) = true := by decide +kernel

/-- The other packets: a RESUME whose record cannot and can be reached, a SHOOTDOWN of one page from a queue without and with
its privilege, a NOP; an empty slot and a poisoned one; a shoot-down under way. -/
theorem witness_QueuesPacketsAndLaunches_packets :
    (match (sluiced .bound 1 [0]).slot 3 with | .nothing _ => true | _ => false) = true
    ∧ (let s := sluiced .bound 1 aLaunch
       match ({ s with dev := { s.dev with poison := [0x100000] } }).slot 3 with | .poisoned _ => true | _ => false) = true
    ∧ parsed (sluiced .bound 1 [2, 0, 0, 1]) (fun s _ d bs => s.badPacket d bs) = true
    ∧ parsed (sluiced .bound 1 [3, 0, 0, 1]) (fun s _ d bs => s.badPacket d bs) = true
    ∧ parsed (sluiced .bound 1 [4, 0, 0, 1]) (fun s _ d bs => s.badPacket d bs) = true
    ∧ parsed (sluiced .bound 1 [2, 0, 0, 0x20100]) (fun s m d bs => !s.badPacket d bs
        && (s.signalRecord d.asid d.root (m.pkt.kdva.setWidth 64)).2.isNone) = true
    ∧ parsed (sluiced .bound 1 [2, 0, 0, 0x20180]) (fun s m d bs => !s.badPacket d bs
        && (s.signalRecord d.asid d.root (m.pkt.kdva.setWidth 64)).2 == some (.fault 0 0)) = true
    ∧ parsed (sluiced .bound 1 [3, 0, 0, 0x30000, 1, 0]) (fun s _ d bs => !s.badPacket d bs && !d.kpriv) = true
    ∧ (let s := sluiced .bound 1 [3, 0, 0, 0x30000, 1, 0]
       parsed { s with dev := { s.dev with mem := s.dev.mem.writeLE 0x2000D8 8 0xC4 } }
         (fun s _ d bs => !s.badPacket d bs && d.kpriv) = true)
    ∧ parsed (sluiced .bound 1 [4]) (fun s m d bs => !s.badPacket d bs && m.nop) = true
    ∧ (let x : Shootdown := { q := 3, lid := 0, cmpi := false, msiv := 0, qasid := 0, root := 0x300000, crva := 0, deadline := 0,
                              asid := 0, va := 0x30000, npg := 1, psz := 0, all := false }
       ∀ c ∈ regs.drain.allCtxs ++ regs.drain.storedCtxs, c.translated x.span = false) := by decide +kernel

/-- One launch of one task, in this phase. -/
def launched (ph : Phase) (pro : Bool) (scls : Nat) : State :=
  let s := sluiced .bound 1 aLaunch
  let m := (s.newMember 3 (s.queueDesc 3) [1]).2
  let m1 := ({ m with pkt := { m.pkt with pro := pro, scls := scls, n := 1 } } : Member)
  s.sluice fun sl => sl.addLaunch (sl.launchOf m1 0 0 0x300000 0 ph)

theorem witness_QueuesPacketsAndLaunches_runs :
    ((launched (.window 2) false 0).dev.sluice.launches.find? (fun l => l.window? == some 2)).isSome = true
    ∧ (let s := launched .heap false 0
       s.dev.state = .ready ∧ s.dev.sluice.stopped = false ∧ s.dev.sluice.outOfService = false ∧ s.returnPond.isNone = true
        ∧ (s.tryEntries true s.ready).isSome = true)
    ∧ (let s0 := launched .heap false 0
       let s : State := { s0 with clu := { s0.clu with part := none } }
       s.returnPond.isNone = true ∧ (s.tryEntries true s.ready).isNone = true ∧ (s.ready.find? (fun e => e.scls == 0)).isSome = true)
    ∧ (launched .running false 0).ready.isEmpty = true
    ∧ (let s := launched .heap true 0
       (match s.ready with | .launch l :: _ => decide (l.members.length = 1) && !l.proDone && l.members.all (!·.nop) | _ => false) = true
        ∧ s.freeWorker none = some 0)
    ∧ (let s0 := run.focus 668
       let s : State := { s0 with ctx := { ctx0 with job := some { job0 with prologue := true, issued := 65536 } } }
       s.here = 640 + 4 * 7 ∧ s.ctx.job = some { job0 with prologue := true, issued := 65536 } ∧ s.ctx.ending = none)
    ∧ (let s0 := launched .running false 0
       let s := s0.sluice fun sl => sl.updMember 0 0 fun m => { m with ended := 1 }
       (match s.dev.sluice.byLid 0 with | some (l, i, m) => s.mayComplete l i m | none => false) = true
        ∧ s.dev.sluice.stopped = false) := by decide +kernel

/-- A group that left at a barrier which is complete. -/
def gone : State :=
  let sv : Saved := { ctx := { ctx0 with job := some job0 }, core := 0, tiles := [], bytes := [], ue := [], vregs := [],
                      sems := none, pond := some 1, save := 0 }
  (launched .running false 0).sluice fun sl => { sl with saved := [sv] }

theorem witness_QueuesPacketsAndLaunches_pond : gone.returnPond.isSome = true := by decide +kernel

/-- The same memory with a page at 0x30000 that is migrating, and a page-table node above 0x2000000 that is. -/
def shifting (s : State) : State :=
  { s with dev := { s.dev with mem := (s.dev.mem.writeLE 0x304018 8 (2 ^ 55 + 0x110071)).writeLE 0x303008 8 (2 ^ 55 + 0x305001) } }

/-- The pair restarts; queue 3 has finished with its oldest slot; a slot whose completion waits for its page to move, and one
whose kernel descriptor waits for its node. -/
theorem witness_QueuesPacketsAndLaunches_waits :
    (let s := (sluiced .bound 1 aLaunch).sluice fun sl => { sl with stopped := true }
     s.dev.sluice.stopped = true ∧ s.dev.state = .ready)
    ∧ (let s := (sluiced .bound 1 aLaunch).sluice fun sl => sl.setQueue { sl.queue 3 with done := [0] }
       let d := s.queueDesc 3
       d.ridx ∈ (s.dev.sluice.queue 3).done ∧ s.sluiceStalls d.asid d.root (d.ring + 128 * (d.ridx.toNat % 2 ^ d.log)) .write = false)
    ∧ (let s := sluiced .bound 1 aLaunch
       let d := s.queueDesc 3
       s.dev.sluice.stopped = false ∧ d.ridx ∉ (s.dev.sluice.queue 3).done ∧ d.kick > (s.dev.sluice.queue 3).next
        ∧ (match s.readSlotAt d.asid d.root (d.ring + 128 * ((s.dev.sluice.queue 3).next.toNat % 2 ^ d.log)) 128 with
           | (s1, .ok (bs, false)) => bs.getD 0 0 != 0 && !s1.packetStalls d bs | _ => false) = true)
    ∧ (let s := shifting (sluiced .bound 1 [2, 0, 0, 0x30000])
       let d := s.queueDesc 3
       (match s.readSlotAt d.asid d.root (d.ring + 128 * 0) 128 with
        | (s1, .ok (bs, false)) => bs.getD 0 0 != 0 && s1.packetStalls d bs | _ => false) = true)
    ∧ parsed (shifting (sluiced .bound 1 [1, 0, 1, 0x2000000])) (fun s m d bs => !s.badPacket d bs
        && (match s.readKernel d.asid d.root m.pkt.kdva with | (_, .error none) => true | _ => false)) = true := by
  decide +kernel

/-- A continuation whose record lies at `va`, with a cluster for it or none. -/
def continued (va : Nat) (room : Bool) : State :=
  let s0 := launched .running false 0
  let s := shifting (if room then s0 else { s0 with clu := { s0.clu with part := none } })
  s.sluice fun sl => { sl with conts := [{ record := BitVec.ofNat 64 va, launch := 0, mem := 0, group := 0, barrierCount := Vector.replicate 3 0,
                                           order := 1, handed := true, inHeap := true }] }

theorem witness_QueuesPacketsAndLaunches_dispatch :
    (let s := launched .heap false 0
     s.dev.sluice.saved = []
      ∧ (match s.ready with
         | .launch l :: _ => l.members.all (!·.nop) && l.proDone
             && (match groupAt l.members l.nextGroup 0 with
                 | some (_, k, m) => (s.fits l.part (m.groupTasks k) m.pkt.vgrp l.key m.pkt.xcore).isSome
                 | none => false)
         | _ => false) = true)
    ∧ (let s := continued 0x20000 false
       s.dev.state = .ready ∧ s.dev.sluice.stopped = false ∧ s.dev.sluice.outOfService = false ∧ s.returnPond.isNone = true
        ∧ (s.tryEntries true s.ready).isNone = true ∧ s.ready.isEmpty = false ∧ ((s.preemptFor s.ready).askAll s.ready).2 = false)
    ∧ (let s := continued 0x2000000 true
       s.returnPond.isNone = true ∧ (s.tryEntries true s.ready).isNone = true
        ∧ ((s.preemptFor s.ready).askAll s.ready).2 = true)
    ∧ (let s0 := launched .running false 0
       let s := s0.sluice fun sl => sl.updMember 0 0 fun m => { m with ended := 1 }
       (match s.dev.sluice.byLid 0 with | some (l, _, m) => !s.completionStalls l.asid l.root m.pkt | none => false) = true)
    ∧ (let x : Shootdown := { q := 3, lid := 0, cmpi := false, msiv := 0, qasid := 0, root := 0x300000, crva := 0, deadline := 0,
                              asid := 0, va := 0x30000, npg := 1, psz := 0, all := false }
       let s := (sluiced .bound 1 aLaunch).sluice fun sl => { sl with shootdowns := [x] }
       (∀ c ∈ s.drain.allCtxs ++ s.drain.storedCtxs, c.translated x.span = false)
        ∧ (s.drain.ctx.translated x.span = false ∧ s.dev.sluice.stopped = false)) := by decide +kernel

theorem witness_QueuesPacketsAndLaunches_no_stall (s : State) (asid : BitVec 16) (root : Nat) (p : Packet) (h1 : p.crva = 0)
    (h2 : p.wcva = 0) (h3 : p.bufs = []) : s.completionStalls asid root p = false := by
  simp [State.completionStalls, State.afterWaits, h1, h2, h3]

/-- A store translated through a page that a shoot-down names. -/
theorem witness_QueuesPacketsAndLaunches_translated :
    let c : Ctx := { ctx0 with posted := [{ pa := 0x110000, leaf := 0, va := 0x30000, size := 8, op := none, data := 0, poison := false, cls := 0,
                                            scope := 0, vlane := false, rel := false, before := 0, seq := 0 }] }
    c.translated ⟨0, 0x30000, 2 ^ 16, false⟩ = true := by decide +kernel

/-! ### Pre-emption, swaps, shedding -/

/-- The context has halted, as a task of a launch. -/
def haltedTask : State := { run with ctx := { ctx0 with status := .halted, job := some job0 } }

/-- Therm 2 on the sluice. -/
def hot (s : State) : State := s.sluice fun sl => { sl with therm := 2 }

/-- Room for four contexts in the save area. -/
def saving (s : State) : State := { s with dev := { s.dev with cfg := { s.dev.cfg with savesize := 4 * 2 ^ 21 } } }

theorem witness_PreemptionSwapsAndShedding_halts :
    (let s := withCmd haltedTask (cmdRec .ri (cmd 0x13) .issued)
     s.ctx.status = .halted ∧ s.ctx.quiesced = false ∧ s.ctx.peer.any (·.data.isNone) = false)
    ∧ (let s : State := { haltedTask with ctxs := haltedTask.ctxs.set 1 { ctx0 with job := some job0 } }
       s.ctx.quiesced = true ∧ s.dev.swaps = [] ∧ s.victims s.here = [0, 1] ∧ (s.allCtxs.getD 1 Ctx.vacant).halted = false)
    ∧ (haltedTask.victims 0) = [0] ∧ (haltedTask.allCtxs.getD 0 Ctx.vacant).halted = true
    ∧ (haltedTask.ctx.leftPond = none ∧ haltedTask.freeBlocks < 1 ∧ haltedTask.dev.sluice.therm < 2)
    ∧ (let s0 := launched .running false 2
       let s := hot { s0 with ctx := haltedTask.ctx }
       s.freeBlocks < (s.victims 0).length ∧ 2 ≤ s.dev.sluice.therm ∧ s.classOf s.ctx = some 2)
    ∧ ((saving haltedTask).victims 0).length ≤ (saving haltedTask).freeBlocks ∧ (saving haltedTask).ctx.job = some job0
    ∧ run.ownedTiles = [] := by decide +kernel

theorem witness_PreemptionSwapsAndShedding_live : run.liveOf = (run, BitVec.allOnes 32, BitVec.allOnes 8) := rfl

theorem witness_PreemptionSwapsAndShedding_swaps :
    run.partFormed 0 = false
    ∧ (let s := sluiced .bound 1 aLaunch
       s.partFormed 0 = true ∧ 0 ∉ s.dev.swaps ∧ s.partHalted 0 = false)
    ∧ (let s0 := sluiced .bound 1 aLaunch
       let s : State := { s0 with ctx := { s0.ctx with status := .halted }, dev := { s0.dev with swaps := [0] } }
       0 ∈ s.dev.swaps ∧ s.partHalted 0 = true)
    ∧ (let s : State := { run with dev := { run.dev with swaps := [9] } }
       9 ∈ s.dev.swaps ∧ s.partHalted 9 = true ∧ s.partClusters 9 = [])
    ∧ (let s := run.sluice fun sl => { sl with mismatches := [0, 0] }
       2 ≤ (s.dev.sluice.mismatches.filter fun t => decide (s.dev.time.toNat - t.toNat < 10 ^ 9)).length)
    ∧ (let s := run.sluice fun sl => { sl with stopped := true }
       s.dev.sluice.outOfService = false ∧ s.dev.sluice.stopped = true ∧ s.dev.sluice.queues = [] ∧ s.dev.sluice.launches = []) := by
  decide +kernel

/-! ### Memory units and the pool -/

/-- A request to move the page at 0x20000 to the vault, whose ring of free frames has one; the leaf holds these further bits. -/
def moving (act : Option (Nat × Nat × Nat)) (more : Nat) : State :=
  let s := sluiced .bound 1 aLaunch
  let r : MigReq := { asid := 0, root := 0x300000, va := 0x20000, tres := 1, deadline := 5, active := act }
  { s with clu := { s.clu with vdsize := 12 },
           dev := { s.dev with mig := { s.dev.mig with reqs := [r], freeVault := [2 ^ 40] },
                               mem := s.dev.mem.writeLE 0x304010 8 (0x100071 + more) } }

/-- The walk to 0x20000 ends at its leaf. -/
def walks (s : State) (f : Nat → BitVec 64 → Nat → Bool) : Bool :=
  match s.dev.walk s.allClus 0x20000 0x300000 [4, 3, 2, 1, 0] with
  | .leaf lvl e epa => f lvl e epa
  | _ => false

/-- A request whose deadline has passed; one that starts; one whose page lies there already; one in progress, with no access
through the page outstanding, and with one. -/
theorem witness_MemoryUnits_migrations :
    run.dev.mig.reqs = []
    ∧ (let s : State := { moving none 0 with dev := { (moving none 0).dev with time := 6 } }
       (∀ x ∈ s.dev.mig.reqs, x.active = none) ∧ (earliest s.dev.mig.reqs).any (fun r => decide (r.deadline < s.dev.time)) = true
        ∧ (s.dev.mig.reqs.find? (fun r => r.active.isNone && decide (r.deadline < s.dev.time))).isSome = true)
    ∧ ((earliest (moving none 0).dev.mig.reqs).any (fun r => !decide (r.deadline < (moving none 0).dev.time)) = true
        ∧ walks (moving none 0) (fun lvl e epa => lvl == 0 && !leafMig e && residency (leafFrame e lvl) == 0
            && (moving none 0).dev.mig.frames 1 == [2 ^ 40] && (moving none 0).frameFits e lvl (2 ^ 40) && epa == 0x304010) = true)
    ∧ (let s := moving none (2 ^ 40 - 0x100000)
       walks s (fun lvl e _ => lvl == 0 && !leafMig e && residency (leafFrame e lvl) == 1) = true)
    ∧ (let s := moving (some (0x304010, 0x100000, 2 ^ 40)) (2 ^ 55)
       walks s.drain (fun lvl e _ => leafMig e && leafFrame e lvl == 0x100000 && s.drain.frameFits e lvl (2 ^ 40)) = true
        ∧ (∀ c ∈ s.drain.allCtxs ++ s.drain.storedCtxs, c.translated (pageSpan 0 0x20000 0) = false))
    ∧ (let s0 := moving (some (0x304010, 0x100000, 2 ^ 40)) (2 ^ 55)
       let w : PeerWait := { tag := 7, dst := 3, kind := 3, cls := 0, key := 0, va := 0x20000, seq := 0, data := none, status := 0 }
       let s : State := { s0 with ctx := { s0.ctx with peer := [w] } }
       ∃ c ∈ s.drain.allCtxs ++ s.drain.storedCtxs, c.translated (pageSpan 0 0x20000 0) = true) := by decide +kernel

theorem witness_MemoryUnits_walks :
    (let b : BusyWait := { ring := none, va := 0x30000, kind := 0, kernel := false, cmd := 0, fa := 0, cursor := [], lane := none }
     let s0 := sluiced .bound 1 aLaunch
     let s : State := { s0 with clu := { s0.clu with tlb := [] }, ctx := { s0.ctx with root := 0x300000, busy := some b },
                                dev := { s0.dev with mem := s0.dev.mem.writeLE 0x303000 8 (0x304001 + 2 ^ 55) } }
     s.ctx.busy = some b ∧ b.ring = none
      ∧ (match s.translate b.kernel b.va.toNat (kindOf b.kind) with | (_, .busy _) => true | _ => false) = true)
    ∧ (let b : BusyWait := { ring := none, va := 0x20000, kind := 0, kernel := false, cmd := 0, fa := 0, cursor := [], lane := none }
       let s0 := sluiced .bound 1 aLaunch
       let s : State := { s0 with clu := { s0.clu with tlb := [] }, ctx := { s0.ctx with root := 0x300000, busy := some b } }
       (match s.translate b.kernel b.va.toNat (kindOf b.kind) with | (_, .ok _ _) => true | _ => false) = true)
    ∧ run.ctx.busy = none ∧ run.dev.lagoonBytes < 2048
    ∧ (let s : State := { run with dev := { run.dev with cfg := { Cfg.blank with lgsizeSweep := 0x100000000 } } }
       2048 ≤ s.dev.lagoonBytes ∧ s.dev.scrub.visited + 1 < s.dev.lagoonBytes / 2048)
    ∧ (let s : State := { run with dev := { run.dev with cfg := { Cfg.blank with lgsizeSweep := 0x100000000 },
                                                         scrub := { run.dev.scrub with visited := 2 ^ 30 / 2048 - 1 } } }
       s.dev.lagoonBytes / 2048 ≤ s.dev.scrub.visited + 1)
    ∧ run.dev.switching.Nodup := by decide +kernel

/-- The device with one extent of pool module 0 in this state. -/
def extended (e : ExtState) : State :=
  let m : Module := ⟨[{ start := 2 ^ 50, len := 2 ^ 28, state := e }], true, true, false⟩
  { regs with dev := { regs.dev with modules := regs.dev.modules.set 0 m } }

theorem witness_PoolAndPorts_extents :
    (run.dev.offerFits 3 (2 ^ 50 + 3 * 2 ^ 48) (2 ^ 28) = true ∧ run.dev.extentAt (2 ^ 50 + 3 * 2 ^ 48) = none
      ∧ moduleOf (2 ^ 50 + 3 * 2 ^ 48) = 3)
    ∧ run.dev.offerFits 4 (2 ^ 50) (2 ^ 28) = false ∧ moduleOf (2 ^ 50) < 4
    ∧ (∀ e ∈ [ExtState.offered, .online, .releasing], ((extended e).dev.extentAt (2 ^ 50)).map (·.state) = some e)
    ∧ (∀ c ∈ (extended .releasing).drain.allCtxs ++ (extended .releasing).drain.storedCtxs, c.reaching (2 ^ 50) (2 ^ 28) = false)
    ∧ (let l : VatomLane := { lane := 0, pa := 2 ^ 50, leaf := 0, va := 0x20000, data := 0, tag := none }
       let v : VatomSt := { op := .add, dst := 0, cls := 0, scope := 0, poisoned := false, out := [l], refused := none }
       let s : State := { extended .releasing with ctx := { (extended .releasing).ctx with vatom := some v } }
       ∃ c ∈ s.drain.allCtxs ++ s.drain.storedCtxs, c.reaching (2 ^ 50) (2 ^ 28) = true) := by decide +kernel

theorem witness_PoolAndPorts_ports :
    (let l : CLine := { pa := 2 ^ 50, data := List.replicate 128 0, dirty := true, poison := false, excl := true, mode := 0, stale := false }
     let s : State := { run with dev := { run.dev with lines := [l] } }
     s.dev.lineAt (2 ^ 50) = some l ∧ residency l.pa = 2 ∧ l.mode = 0 ∧ s.dev.lineAt 0 = none)
    ∧ (run.dev.port 7).up = false ∧ (run.dev.port 7).spares < 3 ∧ (run.dev.port 11).spares < 3
    ∧ (let s : State := { run with dev := { run.dev with ports := run.dev.ports.set 7 { run.dev.port 7 with up := true } } }
       (s.dev.port 7).up = true)
    ∧ (let s : State := { run with dev := { run.dev with ports := run.dev.ports.set 11 { run.dev.port 11 with retraining := true } } }
       (s.dev.port 11).retraining = true)
    ∧ (let s : State := { run with dev := { run.dev with ports := run.dev.ports.set 11 { run.dev.port 11 with spares := 3 } } }
       3 ≤ (s.dev.port 11).spares)
    ∧ (let m : Module := ⟨[], false, false, false⟩
       let s : State := { run with dev := { run.dev with modules := run.dev.modules.set 3 m } }
       s.dev.modules.toList.getD 3 Module.absent = m)
    ∧ ((extended .online).dev.modules.toList.getD 0 Module.absent).headA = true
    ∧ (let m : Module := ⟨[], false, false, true⟩
       let s : State := { run with dev := { run.dev with modules := run.dev.modules.set 3 m } }
       (s.dev.modules.toList.getD 3 Module.absent).unreachable = true) := by decide +kernel

/-- A halted task whose partition is to swap, and a partition that no task starts in meanwhile. -/
theorem witness_PreemptionSwapsAndShedding_pending :
    (let s : State := { haltedTask with clu := { haltedTask.clu with part := some 0 }, dev := { haltedTask.dev with swaps := [0] } }
     s.ctx.status = .halted ∧ s.ctx.quiesced = true ∧ s.clu.part = some 0 ∧ 0 ∈ s.dev.swaps ∧ s.here < 640)
    ∧ (haltedTask.ctx.quiesced = true ∧ ∀ p, haltedTask.clu.part = some p → p ∉ haltedTask.dev.swaps) := by
  refine ⟨by decide +kernel, by decide +kernel, ?_⟩
  intro p h; cases h

/-- A command whose walk waits at a node that is still moving, and one whose node is not; steps of the sluice that wait. -/
theorem witness_MemoryUnits_rings :
    (let b : BusyWait := { ring := some .ri, va := 0x30000, kind := 0, kernel := false, cmd := 0, fa := 0, cursor := [], lane := none }
     let s0 := sluiced .bound 1 aLaunch
     let s : State := { s0 with clu := { s0.clu with tlb := [] }, ctx := { s0.ctx with root := 0x300000, busy := none },
                                dev := { s0.dev with mem := s0.dev.mem.writeLE 0x303000 8 (0x304001 + 2 ^ 55) } }
     b.ring = some .ri ∧ (match s.translate b.kernel b.va.toNat (kindOf b.kind) with | (_, .busy _) => true | _ => false) = true)
    ∧ (let b : BusyWait := { ring := some .ri, va := 0x20000, kind := 0, kernel := false, cmd := 0, fa := 0, cursor := [], lane := none }
       let s0 := sluiced .bound 1 aLaunch
       let s : State := { s0 with clu := { s0.clu with tlb := [] }, ctx := { s0.ctx with root := 0x300000, busy := none } }
       (match s.translate b.kernel b.va.toNat (kindOf b.kind) with | (_, .ok _ _) => true | _ => false) = true)
    ∧ (let s := run.sluice fun sl => { sl with waiting := [.kickReport 3] }
       s.ctx.busy = none ∧ s.dev.sluice.waiting ≠ []) := by decide +kernel

theorem witness_PoolAndPorts_failures :
    (let s : State := { run with dev := { run.dev with ports := run.dev.ports.set 11 { run.dev.port 11 with up := true } } }
     (11 : Nat) < 12 ∧ (s.dev.port 11).up = true)
    ∧ (let m : Module := ⟨[], false, false, false⟩
       let s : State := { run with dev := { run.dev with modules := run.dev.modules.set 3 m } }
       let x := s.dev.modules.toList.getD 3 Module.absent
       x.headA = false ∧ x.headB = false ∧ x.unreachable = false) := by decide +kernel

/-! ### The links -/

/-- A well-formed packet of device 3 of this TYPE, SEQ and payload. -/
def pkt (type : BitVec 4) (seq : BitVec 16) (payload : List Byte) : GPacket :=
  { gBlank with src := 3, type := type, seq := seq, len := BitVec.ofNat 9 payload.length, payload := payload }

/-- The state with this lane 0 from device 3. -/
def lane (f : RxLane → RxLane) : State := { run with dev := run.dev.updRx 3 0 f }

/-- A packet ahead by 1 and by 1023; behind by 1 and by 1024; between; with an apply buffer that is full; a lane in retry. -/
theorem witness_GaretorLinks_arrivals :
    (wellFormed 0 (pkt 0 0 [1]) ∧ ((heard run (pkt 0 0 [1])).dev.rxLane 3 0).expect = 0
      ∧ ((heard run (pkt 0 0 [1])).dev.rxLane 3 0).retrying = none)
    ∧ ¬wellFormed 0 { pkt 0 0 [1] with ver := 2 }
    ∧ ((heard (lane fun x => { x with retrying := some (pkt 3 0 []) }) (pkt 0 0 [1])).dev.rxLane 3 0).retrying ≠ none
    ∧ (let s1 := heard run (pkt 0 1023 [1])
       0 < (1023 - (s1.dev.rxLane 3 0).expect : BitVec 16).toNat ∧ (1023 - (s1.dev.rxLane 3 0).expect : BitVec 16).toNat < 1024
        ∧ (∀ g ∈ (s1.dev.rxLane 3 0).buffer, g.seq ≠ 1023) ∧ s1.dev.applyBytes + 24 + 1 ≤ 2 ^ 22)
    ∧ (let s1 := heard (lane fun x => { x with buffer := [pkt 0 1 [1]] }) (pkt 0 1 [1])
       ∃ g ∈ (s1.dev.rxLane 3 0).buffer, g.seq = 1)
    ∧ (let s1 := heard (lane fun x => { x with expect := 1 }) (pkt 0 0 [1])
       64512 ≤ (0 - (s1.dev.rxLane 3 0).expect : BitVec 16).toNat)
    ∧ (let d : BitVec 16 := 1024 - (run.dev.rxLane 3 0).expect
       1024 ≤ d.toNat ∧ d.toNat < 64512) := by
  refine ⟨?_, ?_, ?_, ?_, ?_, ?_, ?_⟩ <;> first | (unfold wellFormed; decide +kernel) | decide +kernel

/-- A packet that the apply buffer of 4 MiB has no room for. -/
theorem witness_GaretorLinks_full :
    2 ^ 22 < (heard run (pkt 0 1 [])).dev.applyBytes + 24 + (List.replicate (2 ^ 22) (0 : Byte)).length := by
  rw [List.length_replicate]; omega

/-- Device 3 may reach the first 16 GiB. -/
def mapped : State := { run with dev := { run.dev with accessMap := run.dev.accessMap.set 3 1 } }

theorem witness_GaretorLinks_applied :
    (∀ t ∈ [(0 : BitVec 4), 1, 3, 4], run.dev.unitBusy (pkt t 0 []) = false ∧ run.dev.refuses (pkt t 0 []) = true
      ∧ mapped.dev.refuses (pkt t 0 []) = false)
    ∧ (let p := { pkt 3 0 [0, 0, 0, 0, 1, 0, 0, 0] with ret := true, op := 2, size := 2 }
       p.type = 3 ∧ p.ret = true ∧ p.op = 2 ∧ p.size = 2 ∧ mapped.dev.refuses p = false ∧ mapped.dev.unitBusy p = false)
    ∧ (pkt 0 0 []).src.toNat < 16 ∧ (pkt 0 0 []).lane.toNat < 4 := by decide +kernel

/-- A READ of this device, tag 9, still to be answered by device 3. -/
def awaiting : State :=
  let g := { gBlank with dst := 3, type := 1, tag := 9, rlen := 8 }
  let t : TxLane := { next := 1, sent := [g], wait := [] }
  { run with dev := { run.dev with peers := run.dev.peers.set 3 { Peer.fresh with tx := Peer.fresh.tx.set 0 t } } }

theorem witness_GaretorLinks_answers :
    wellFormed 6 (pkt 6 0 []) ∧ ¬wellFormed 6 { pkt 6 0 [] with rsv := 1 } ∧ ¬wellFormed 5 { pkt 5 0 [] with rsv := 1 }
    ∧ (wellFormed 5 (pkt 5 0 []) ∧ (heard run (pkt 5 0 [])).dev.asked 3 0 = none)
    ∧ (let p := { pkt 5 0 [] with tag := 9 }
       wellFormed 5 p ∧ p.status.toNat < 4 ∧ (heard awaiting p).dev.asked 3 9 = some { gBlank with dst := 3, type := 1, tag := 9, rlen := 8 })
    ∧ (awaiting.dev.peer 3).tx.toList[0]? = some { next := 1, sent := [{ gBlank with dst := 3, type := 1, tag := 9, rlen := 8 }], wait := [] }
    ∧ (run.dev.rxLane 3 0).retrying = none
    ∧ ((lane fun x => { x with retrying := some (pkt 3 0 []) }).dev.rxLane 3 0).retrying = some (pkt 3 0 []) := by
  unfold wellFormed; decide +kernel

/-- Both planes to device 3 have failed. -/
def cutOff (u : Bool) : State :=
  { run with dev := { run.dev with peers := run.dev.peers.set 3 { Peer.fresh with failA := true, failB := true, unreachable := u } } }

theorem witness_GaretorLinks_planes :
    (∀ g ∈ (run.dev.peer 15).tx.toList.flatMap (·.sent), g.planeB ≠ false)
    ∧ ((∃ g ∈ (awaiting.dev.peer 3).tx.toList.flatMap (·.sent), g.planeB = false) ∧ (awaiting.dev.peer 3).failed false = false
        ∧ (awaiting.dev.peer 3).failed true = false)
    ∧ (let s : State := { cutOff false with dev := { (cutOff false).dev with
         ports := ((cutOff false).dev.ports.set 10 { (cutOff false).dev.port 10 with up := true }).set 11
           { (cutOff false).dev.port 11 with up := true } } }
       (s.dev.peer 3).failed true = true ∧ ∀ n ∈ [10, 11], (s.dev.port n).up = true)
    ∧ (((cutOff false).dev.peer 3).failA = true ∧ ((cutOff false).dev.peer 3).failB = true
        ∧ ((cutOff false).dev.peer 3).unreachable = false)
    ∧ ((cutOff true).dev.peer 3).unreachable = true ∧ State.reset.dev.state ≠ .ready ∧ run.dev.state = .ready
    ∧ (wellFormed 9 (pkt 9 0 (leBytes 8 5)) ∧ (pkt 9 0 (leBytes 8 5)).av = false)
    ∧ (let s : State := { run with dev := { run.dev with state := .boot } }
       s.dev.timeSet = false ∧ s.dev.state = .boot)
    ∧ (let s : State := { run with dev := { run.dev with timeSet := true, num := 5 } }
       s.dev.timeSet = true ∧ (pkt 9 0 []).src < s.dev.num)
    ∧ ¬(pkt 9 0 []).src < run.dev.num := by
  unfold wellFormed; decide +kernel

/-- An ATOM to a channel that is being switched. -/
theorem witness_GaretorLinks_busy :
    let p := { pkt 3 0 [0, 0, 0, 0, 1, 0, 0, 0] with ret := true, op := 2, size := 2 }
    let d : Device := { mapped.dev with switching := [homeChannel p.off.toNat] }
    d.unitBusy p = true ∧ d.refuses p = false :=
  ⟨by simp only [Device.unitBusy, List.contains_cons, beq_self_eq_true, Bool.true_or, Bool.and_true]; decide +kernel, by decide +kernel⟩

/-- The answer to a READ; a LEN of 16; a device that leads the exchange of TIME, and one that follows. -/
theorem witness_GaretorLinks_more :
    (awaiting.dev.askedAll 3 9).filter (fun g => g.type == 1) = [{ gBlank with dst := 3, type := 1, tag := 9, rlen := 8 }]
    ∧ (wellFormed 9 (pkt 9 0 (leBytes 16 5)) ∧ (pkt 9 0 (leBytes 16 5)).len ≠ 8)
    ∧ (pkt 9 0 (leBytes 8 5)).len = 8 ∧ run.dev.state ≠ .reset ∧ run.dev.follows = false
    ∧ (let s : State := { run with dev := { run.dev with follows := true } }
       s.dev.state = .ready ∧ s.dev.follows = true)
    ∧ (cutOff false).dev.serves = [] := by
  unfold wellFormed; decide +kernel

/-! ### Errors, the host's windows, reset -/

/-- One cache line, of HBM, in this state. -/
def lineHeld (dirty : Bool) : State :=
  { run with dev := { run.dev with lines := [{ pa := 0, data := List.replicate 128 0, dirty := dirty, poison := false, excl := true, mode := 0, stale := false }] } }

theorem witness_ErrorsAndHostWindows_errors :
    (0 < 31 ∧ 31 < 32) ∧ (((vecs 1).core.vregs.toList.getD 3 VReg.gated).power ≠ .gated)
    ∧ (∃ l, (lineHeld false).dev.lineAt 0 = some l ∧ l.dirty = false) ∧ (∃ l, (lineHeld true).dev.lineAt 0 = some l ∧ l.dirty = true)
    ∧ (let f : Frame := { idx := 5, dirty := false, stamp := 0, tag := 0 }
       let s : State := { run with dev := { run.dev with lagoon := [f] } }
       s.dev.lagoon.find? (fun f => f.idx == 5) = some f ∧ f.dirty = false)
    ∧ run.dev.bizil.repairLog.length < 256 ∧ residency (2 ^ 50) = 2
    ∧ (run.here < run.ctxs.length ∧ run.ctx.status ≠ .free ∧ run.ctx.ending = none)
    ∧ (run.core.sparesUsed = [] ∧ run.core.copying = [] ∧ run.clu.vaultSpares = [] ∧ run.clu.vaultCopying = [])
    ∧ (let s : State := { run with core := { run.core with sparesUsed := [(3, 0), (3, 1), (3, 2), (3, 3)] } }
       4 ≤ (s.core.sparesUsed.filter fun y => y.1 == 3).length) := by
  refine ⟨by decide, by decide +kernel, ⟨_, rfl, rfl⟩, ⟨_, rfl, rfl⟩, by decide +kernel, by decide +kernel, by decide +kernel,
    by decide +kernel, by decide +kernel, by decide +kernel⟩

theorem witness_ErrorsAndHostWindows_windows :
    (State.reset.dev.state ≠ .ready ∧ (0 : Nat) ≠ 8 ∧ ¬(0x3000 ≤ 0 ∧ 0 < 0x4000)) ∧ (run.dev.state = .ready ∧ run.dev.formed = false)
    ∧ (sluiced .bound 0 []).dev.formed = true
    ∧ (let s := sluiced .bound 0 []
       ∃ x ∈ s.dev.sluice.queues, x.state ≠ .disabled ∧ s.partFormed (s.queueDesc x.q).part = true)
    ∧ (∀ x ∈ run.dev.sluice.queues, x.state = .disabled ∨ run.partFormed (run.queueDesc x.q).part = false)
    ∧ run.dev.lagoonBase < (run.dev.lagoonBase - 7) + 8 ∧ (run.dev.lagoonBase - 8) + 8 ≤ run.dev.lagoonBase ∧ run.dev.mem.wf = true
    ∧ run.dev.bizil.life ≠ .retired ∧ (List.replicate 48 (0 : Byte)).length = 48
    ∧ (let s : State := { run with dev := { run.dev with bizil := { run.dev.bizil with life := .retired } } }
       s.dev.bizil.life = .retired) := by decide +kernel

/-- A worker that runs a prologue; rows in which an error has been corrected, and none yet; lines of HBM to be logged. -/
theorem witness_ErrorsAndHostWindows_more :
    (let s := run.focus 640
     let t : State := { s with ctx := { ctx0 with job := some { job0 with prologue := true } } }
     640 ≤ t.here ∧ t.ctx.job = some { job0 with prologue := true })
    ∧ ((3, 5) ∉ run.core.corrected ∧ (3, 5) ∉ run.clu.vaultCorrected)
    ∧ (let s : State := { run with core := { run.core with corrected := [(3, 5)] }, clu := { run.clu with vaultCorrected := [(3, 5)] } }
       (3, 5) ∈ s.core.corrected ∧ (3, 5) ∈ s.clu.vaultCorrected)
    ∧ (residency 0 = 0 ∧ Config.hbmRow (lineOf 0) ∉ run.dev.hbmCorrected)
    ∧ (let s : State := { run with dev := { run.dev with unlogged := [0] } }
       s.dev.lost = [] ∧ s.dev.unlogged = [0])
    ∧ (let x : Sparing := { bank := 3, row := 5, vault := false }
       let y : Sparing := { bank := 3, row := 5, vault := true }
       let s : State := { run with core := { run.core with copying := [x] }, clu := { run.clu with vaultCopying := [y] } }
       x ∈ s.core.copying ∧ x ∉ run.core.copying ∧ y ∈ s.clu.vaultCopying ∧ y ∉ run.clu.vaultCopying) := by
  refine ⟨by decide +kernel, by decide +kernel, by decide +kernel, ⟨by decide +kernel, List.not_mem_nil⟩, by decide +kernel,
    by decide +kernel⟩

theorem witness_ErrorsAndHostWindows_corrected :
    let s : State := { run with dev := { run.dev with hbmCorrected := [Config.hbmRow (lineOf 0)] } }
    residency 0 = 0 ∧ Config.hbmRow (lineOf 0) ∈ s.dev.hbmCorrected := ⟨by decide +kernel, List.mem_singleton.2 rfl⟩

theorem witness_ErrorsAndHostWindows_host :
    (run.dev.bootEvents = [] ∧ ∀ l ∈ run.dev.lines, run.dev.noHead l.pa = false)
    ∧ (run.dev.lagoonBase - 3 + [(1 : Byte), 2, 3].length ≤ run.dev.lagoonBase ∧ [(1 : Byte), 2, 3] ≠ [])
    ∧ (let s : State := { run with dev := { run.dev with state := .outOfService } }
       s.dev.state = .outOfService ∧ s.dev.mem.wf = true)
    ∧ run.dev.bizil.secret = true
    ∧ (let s : State := { run with dev := { run.dev with bizil := { run.dev.bizil with secret := false } } }
       s.dev.bizil.secret = false) := by decide +kernel

/-- The device in this state and stage of its life. -/
def living (st : DevState) (l : Life) : State :=
  { State.reset with dev := { State.reset.dev with state := st, bizil := { State.reset.dev.bizil with life := l } } }

/-- A stage whose header holds its digest, signed by Mofort; four of them, and a report that has them. -/
noncomputable def stage (k : Signed) : StageImage := { image := [1], digest := Config.sha384 [1], version := 0, signed := k }
noncomputable def report (flash : Bool) (k : Signed) : BootReport :=
  { flashOk := flash, stages := List.replicate 4 (stage k), hbmOk := true, portsUp := [0], portsX4 := [], portsSpare := [],
    timeEstimate := none, repaired := [], num := 0, accessMap := [] }

/-- The device with the digest of this key fused as Mofort's and as the owner's. -/
noncomputable def keyed (st : DevState) (l : Life) (k : Signed) : State :=
  let s := living st l
  { s with dev := { s.dev with bizil := { s.dev.bizil with mofortDigest := Config.sha384 k.key,
                                                           ownerDigest := some (Config.sha384 k.key) } } }

theorem witness_ResetBootAndLifeCycle :
    ((Instr.coldReset, ResetKind.cold) ∈ [(Instr.coldReset, ResetKind.cold), (.warmResetRequest, .warm), (.maintResetRequest, .maint)])
    ∧ State.reset.dev.state = .reset ∧ (living .boot .retired).dev.bizil.life = .retired
    ∧ ((living .boot .deployed).dev.bizil.hostImage = none ∧ (living .boot .deployed).dev.bizil.life ≠ .retired
        ∧ ∀ k, (report false k).flashOk = false ∧ (report true k).flashOk = true ∧ (report true k).hbmOk = true)
    ∧ (living .wipe .deployed).dev.state = .wipe ∧ (living .wipe .deployed).dev.mem.wf = true
    ∧ (living .recovery .owned).dev.state = .recovery
    ∧ (∀ l ∈ [Life.manufacture, .deployed, .owned, .retired], (living .ready l).dev.bizil.life = l)
    ∧ (∀ d ∈ [(107 : Int), 108, 114, 115], ({ State.reset with dev := { State.reset.dev with celsius := d } } : State).dev.celsius = d) := by
  refine ⟨by simp, by decide +kernel, by decide +kernel, ⟨by decide +kernel, by decide +kernel, fun k => ⟨rfl, rfl, rfl⟩⟩, ?_⟩
  decide +kernel

/-- A signature that verifies under a key meets the premises of the changes, in each stage of the life, and of a stage in
order: ECDSA itself is no part of the model (log entry 71), so that the premise names the signature. -/
theorem witness_ResetBootAndLifeCycle_signed (k : Signed) (m : List Byte) (l : Life)
    (h : Config.ecdsaVerify k.key (Config.sha384 m) k.sig = true) :
    (keyed .ready l k).dev.bizil.byMofort k m = true ∧ (keyed .ready .owned k).dev.bizil.byOwner k m = true
      ∧ (keyed .ready l k).dev.bizil.verifies k m = true ∧ (keyed .ready l k).dev.bizil.life = l
      ∧ (m = stageHeader (stage k) → (keyed .boot .deployed k).dev.bizil.stageError (stage k) 0 = 0) := by
  have a : (keyed .ready l k).dev.bizil.mofortDigest = Config.sha384 k.key := rfl
  have b : (keyed .ready .owned k).dev.bizil.ownerDigest = some (Config.sha384 k.key) := rfl
  have c : (keyed .ready .owned k).dev.bizil.life = .owned := rfl
  have d : (keyed .boot .deployed k).dev.bizil.mofortDigest = Config.sha384 k.key := rfl
  refine ⟨?_, ?_, ?_, rfl, ?_⟩
  · simp [Bizil.byMofort, Bizil.mofortKey, signedOk, a, h]
  · simp [Bizil.byOwner, Bizil.ownerKey, signedOk, b, c, h]
  · simp [Bizil.verifies, Bizil.mofortKey, signedOk, a, h]
  · rintro rfl
    have e : (stage k).digest = Config.sha384 (stage k).image := rfl
    have f : (stage k).version = 0 := rfl
    have g : (stage k).signed = k := rfl
    simp [Bizil.stageError, Bizil.verifies, Bizil.mofortKey, signedOk, d, e, f, g, h]

/-! ### Further premises of the claims on the scalar and vector pipes -/

/-- A VATOM with lanes 5 and 6 out, to this device's memory. -/
def flying : State :=
  let l : VatomLane := { lane := 5, pa := 0x100010, leaf := placedLeaf, va := 0x20010, data := 3, tag := none }
  let v : VatomSt := { op := .add, dst := 1, cls := 0, scope := 0, poisoned := false, out := [l, { l with lane := 6 }], refused := none }
  { offsets with ctx := { offsets.ctx with vatom := some v } }

/-- ADD can issue; TOKW cannot while its FIFO is empty. Lane 5 of a VATOM is the next to come back. -/
theorem witness_StepRunsTheFetchedInstruction_lanes :
    run.cannotIssue (.add 13 22 11 2 1 0) = false
    ∧ run.cannotIssue (.tokw 1) = true
    ∧ run.ctx.vatom = none ∧ flying.nextLane = some (5, true) := by decide +kernel

/-- In task mode a load's line known and not known; an iteration that can be recovered; kernel mode. -/
theorem witness_TrapsAreTaken_poison :
    (kern.onWorker = false ∧ kern.kernel = true)
    ∧ (let s : State := { regs with ctx := { regs.ctx with lastLoad := [(3, 0x100000)] } }
       s.onWorker = false ∧ s.kernel = false ∧ s.inLoopS = false
        ∧ s.ctx.lastLoad.find? (fun y => y.1 == (3 : BitVec 22).toNat) = some (3, 0x100000)
        ∧ s.ctx.lastLoad.find? (fun y => y.1 == (5 : BitVec 22).toNat) = none)
    ∧ (let s := (looping true).setLoop fun l => { l with ckpt := some ckpt0 }
       s.onWorker = false ∧ s.kernel = false ∧ s.inLoopS = true ∧ s.ctx.loop.unrecoverable = false ∧ s.ctx.loop.retried = false
        ∧ s.ctx.loop.ckpt = some ckpt0) := by decide +kernel

/-- A task whose iteration holds a store of these four bytes at 0x20000 and a RED behind them, in the open page. -/
def forwarding (poison : Bool) : State :=
  let r : Posted := { pa := 0x100000, leaf := placedLeaf, va := 0x20000, size := 2, op := none, data := 0x55, poison := poison,
                      cls := 0, scope := 0, vlane := false, rel := false, before := 0, seq := 0 }
  (looping true).setLoop fun l => { l with held := [.post r, .post { r with pa := 0x100004, op := some .add, seq := 1 }] }

/-- Loads of eight bytes over such a store, whose data is clean and whose data is poisoned. -/
theorem witness_HeldStores_forwarding :
    (∀ p ∈ [false, true], (forwarding p).kernel = false ∧ (forwarding p).regPoison 4 = false ∧ (forwarding p).regPoison 1 = false
      ∧ (memVa (forwarding p) 4 3 0).toNat % 2 ^ 3 = 0 ∧ (memXVa (forwarding p) 4 1 3).toNat % 2 ^ 3 = 0
      ∧ goesOn ((forwarding p).access (memVa (forwarding p) 4 3 0) .read) (fun s1 pa _ => decide (pa = 0x100000) && s1.ctx.posted.isEmpty
          && s1.ctx.cmds.isEmpty && s1.ctx.peer.isEmpty && decide (s1.ctx.loop.held = (forwarding p).ctx.loop.held)) = true)
    ∧ ¬heldPoison (forwarding false).ctx.loop.held 0x100000 8 ∧ heldPoison (forwarding true).ctx.loop.held 0x100000 8 := by
  refine ⟨by decide +kernel, ?_, _, List.mem_cons_self .., rfl, rfl, by decide, by decide⟩
  rintro ⟨r, h, h1, h2, -⟩
  have : ∀ x ∈ (forwarding false).ctx.loop.held, (match x with | .post r => r.poison | _ => false) = false := by decide +kernel
  exact absurd (this _ h) (by simp [h2])

/-- v1 is POISON, v0, v2 and v3 hold tag `t`, and TAGTRAP is 1. -/
def poisoned (t : BitVec 4) : State :=
  let s := (vecs t).setCtl fun c => { c with fmode := 0x80 }
  { s with core := { s.core with vregs := s.core.vregs.set 1 (vreg 0xE) } }

/-- Under TAGTRAP = 1: the source v1 is POISON and v0 and v2 have the tag `t` that the instruction expects, or none of the
destinations is; a pack whose other source has fewer lanes than its result. -/
theorem witness_VectorOperands_poison :
    (∀ t ∈ [(1 : BitVec 4), 2, 3, 4, 5, 6, 7, 8], let s := poisoned t
      s.ctx.ctl.fmode.getLsbD 7 = true ∧ s.vtag 1 = 0xE ∧ s.vtag 0 = t ∧ s.vtag 2 = t ∧ t ≠ 0x0 ∧ t ≠ 0xE)
    ∧ (∀ n ∈ [(0 : BitVec 5), 1, 2], n.toNat < 4 * (poisoned 1).ctx.ctl.vCount.toNat ∧ ((poisoned 1).vreg n).data.length = 1024)
    ∧ tagLanes ((poisoned 1).vtag 2) < tagLanes 6
    ∧ ((1 : BitVec 2) = 1 ∨ (1 : BitVec 2) = 2) ∧ (poisoned 1).regPoison 4 = false := by decide +kernel

/-! ### Further premises of the claims on the system and the engines -/

/-- RO as a ring of 16 slots at the start of the scratchpad, enabled or not, and what s8 gives its register. -/
def roSet (en : Bool) (v : Word) : State := (regs.updRing .ro fun x => { x with en := en, log := 4 }).setReg 8 v false

/-- RO halted at this command, and a value of its fault status register. -/
def roHalted (k : CmdRec) (v : Word) : State := ((withCmd kern k).updRing .ro fun x => { x with halt := true, pend := true }).setReg 8 v false

theorem witness_ControlRegisterAccess_writes :
    (run.kernel = false ∧ csrAccess (0x014 : BitVec 12).toNat = .read)
    ∧ (csrAccess (0x020 : BitVec 12).toNat = .write ∧ regs.regPoison 3 = true ∧ regs.regPoison 4 = false)
    ∧ (kern.kernel = true ∧ csrAccess (0x013 : BitVec 12).toNat ≠ .absent ∧ ¬(0x030 ≤ (0x013 : BitVec 12).toNat)) := by decide +kernel

theorem witness_ControlRegisterAccess_rings :
    (let s := roSet false 0x40000000
     s.regPoison 8 = false ∧ (s.ring .ro).en = false ∧ (s.reg 8).getLsbD 0 = false)
    ∧ (let v : Word := 0x40000001
       (roSet false v).reg 8 = v ∧ v.getLsbD 0 = true ∧ 4 ≤ (v.extractLsb' 28 4).toNat ∧ (v.extractLsb' 28 4).toNat ≤ 12
        ∧ 32 * (v.extractLsb' 5 15).toNat + 32 * 2 ^ (v.extractLsb' 28 4).toNat ≤ 2 ^ 20)
    ∧ (let v : Word := 0x30000001
       (roSet false v).reg 8 = v ∧ v.getLsbD 0 = true ∧ ¬4 ≤ (v.extractLsb' 28 4).toNat)
    ∧ (let s := roSet true 0x50000001
       (s.ring .ro).en = true ∧ (s.reg 8).extractLsb' 28 4 ≠ (s.ring .ro).log)
    ∧ (∀ en ∈ [false, true], let s := roSet true (if en then 0x40000001 else 0x40000000)
       (s.ring .ro).en = true ∧ (s.reg 8).extractLsb' 28 4 = (s.ring .ro).log ∧ (s.reg 8).extractLsb' 5 15 = (s.ring .ro).base
        ∧ (s.ring .ro).halt = false ∧ (s.ring .ro).faulting = none ∧ (s.ring .ro).deferred = []) := by decide +kernel

/-- RESTART and SKIP of a halted command, of one that has issued and of one that has not; neither bit; a ring that runs. -/
theorem witness_ControlRegisterAccess_faults :
    (∀ st ∈ [CmdStage.halted, .queued], ∀ n ∈ [4, 8, 12], let v : Word := BitVec.ofNat 64 n
      let k := cmdRec .ro (cmd 0x13) st
      let s := roHalted k v
      s.kernel = true ∧ s.regPoison 8 = false ∧ s.reg 8 = v ∧ (s.ring .ro).halt = true ∧ (s.ring .ro).deferred = []
        ∧ s.ctx.haltedCmd .ro = some k)
    ∧ ((4 : Word).getLsbD 2 = true ∧ (4 : Word).getLsbD 3 = false ∧ (12 : Word).getLsbD 3 = true
        ∧ (3 : Word).getLsbD 2 = false ∧ (3 : Word).getLsbD 3 = false)
    ∧ (kern.ring .ro).halt = false := by decide +kernel

/-- SAFEPT inside LOOP.S; a task that is overdue and about to issue another instruction. -/
theorem witness_SafePoints_more :
    (let s := looping true
     s.ctx.pendingFault = none ∧ (3 : BitVec 12).toNat < s.ctx.ctl.lmtlim.toNat ∧ s.inLoopS = true ∧ s.atBodyEnd = false)
    ∧ (let s0 := run.placeWord 0x01B65D00
       let s : State := { s0 with ctx := { s0.ctx with sinceSafe := 4096 } }
       s.kernel = false ∧ s.ctx.ending = none ∧ 4096 ≤ s.ctx.sinceSafe ∧ s.ctx.status = .active ∧ s.safeptNext = false) := by
  decide +kernel

/-- A task in WAITC whose continuation is there, armed, while the pair runs; one that is killed and has nothing out. -/
theorem witness_TasksEndAndResume_ends :
    (let k : Cont := { record := 0x20000, launch := 0, mem := 0, group := 0, barrierCount := Vector.replicate 3 0, order := 1,
                       handed := false, inHeap := false }
     let s0 : State := { run with ctx := { run.ctx with ending := some (.waitc 0x20000 0), job := some job0 } }
     let s := s0.sluice fun sl => { sl with conts := [k] }
     s.ctx.ending = some (.waitc 0x20000 0) ∧ s.ctx.job = some job0 ∧ s.dev.sluice.stopped = false
      ∧ s.dev.sluice.conts.find? (fun c => !c.handed && c.record == 0x20000 && c.launch == job0.launch) = some k)
    ∧ (let s : State := { run with ctx := { run.ctx with ending := some (.killed 0x07 0x380 0 0x10000), job := some job0 } }
       s.ctx.ending = some (.killed 0x07 0x380 0 0x10000) ∧ s.ctx.job = some job0 ∧ s.ctx.cmds = [] ∧ s.ctx.posted = []
        ∧ s.ctx.peer = [] ∧ (∀ r ∈ [Ring.ri, .ro, .mx], (s.ring r).deferred = []))
    ∧ ((run.setStatus .stalled).ctx.issues = true ∧ run.ctx.issues = false)
    ∧ (let k : CmdRec := { cmdRec .ri (cmd 0x13) .issued with uncommitted := true }
       let s := (withCmd run k).setLoop fun l => { l with rolling := true }
       s.ctx.loop.rolling = true ∧ ∃ c ∈ s.ctx.cmds, c.uncommitted = true) := by decide +kernel

/-- The word of a region's version in a module that has a head, and in one that has none. -/
theorem witness_Snapshots_heads :
    (match pooled.snapRegion 4 with
     | .ok (s1, r, _) => !s1.dev.noHead r.verpa && !s1.dev.publishWaits r && still s1 && !s1.cap.isEmpty && !s1.snapWaits
     | .error _ => false) = true := by decide +kernel

/-- A fault that waits for the answer to a request of its command, and one that does not. -/
theorem witness_EngineCompletion_faults :
    let f : EngFault := { cause := 0x211, info := 8, va := 0, cursor := List.replicate 8 0 }
    let k := cmdRec .ri (cmd 0x00) .halted
    let s := (withCmd regs k).updRing .ri fun x => { x with faulting := some f }
    let w : PeerWait := { tag := 7, dst := 3, kind := readKind (ringCode .ri), cls := 0, key := 0, va := 0x20000, seq := 0, data := none,
                          status := 0 }
    (s.ring .ri).faulting = some f ∧ s.requestsOut .ri = false ∧ s.ctx.peer = []
    ∧ ({ s with ctx := { s.ctx with peer := [w] } } : State).requestsOut .ri = true := by decide +kernel

/-! ### Further premises of the claims on the sluice, the memory units and the device -/

/-- A block that a miss made at 0x20000, on a command of this opcode that names it; and one whose address is not mapped. -/
theorem witness_RakeTransfers_missed :
    (∀ o ∈ [0x0C, 0x0800000D], let c : Cmd := { cmd o with w1 := 0x20000 }
      let s0 := sliced regs
      let s : State := { s0 with dev := { s0.dev with blocks := [{ slice := 0, va := 0, asid := 0, lines := [0x100000], nl := 0, done := true }] } }
      let at_ (x : State) (k : CmdRec) : Bool := issued x k noTiles fun y _ => (y.dev.blocksAt y.ctx.asid 0x20000).isEmpty
        && match y.translate k.kernel 0x20000 .read with
          | (z, .ok pa _) => decide (z.dev.missedLine pa = [0x100000]) && !z.dev.spanWaits 0x100000 128
          | _ => false
      (if o = 0x0C then taken s .ri c (bdiscJob c) at_ else taken s .ro c (bflushJob c) at_) = true)
    ∧ (∀ o ∈ [0x0C, 0x0800000D], let c : Cmd := { cmd o with w1 := 0x40000 }
      let at_ (x : State) (k : CmdRec) : Bool := issued x k noTiles fun y _ => (y.dev.blocksAt y.ctx.asid 0x40000).isEmpty
        && match y.translate k.kernel 0x40000 .read with
          | (_, .fault _ _) => true
          | _ => false
      (if o = 0x0C then taken regs .ri c (bdiscJob c) at_ else taken regs .ro c (bflushJob c) at_) = true) := by decide +kernel

/-- The same memory with a page at 0x30000 that lies at device 3. -/
def outlying (s : State) : State :=
  { s with dev := { s.dev with mem := s.dev.mem.writeLE 0x304018 8 (2 ^ 51 + 3 * 2 ^ 39 + 0x71) } }

/-- A packet whose completion can be made now, and one that has to signal a record at a peer first; a RESUME of such a record; a
launch whose first group waits for nothing; completions of a launch, of either kind. -/
theorem witness_QueuesPacketsAndLaunches_ready :
    parsed (sluiced .bound 1 [1, 0, 0, 0x20100]) (fun s m d bs => !s.badPacket d bs && (s.completionReady d.asid d.root m.pkt).2) = true
    ∧ parsed (outlying (sluiced .bound 1 [1, 0, 0, 0x20100, 0, 0, 0x30000])) (fun s m d bs => !s.badPacket d bs
        && !(s.completionReady d.asid d.root m.pkt).2) = true
    ∧ parsed (outlying (sluiced .bound 1 [2, 0, 0, 0x30000])) (fun s m d bs => !s.badPacket d bs
        && (s.signalRecord d.asid d.root (m.pkt.kdva.setWidth 64)).2 == some .wait) = true
    ∧ (let s := launched .heap false 0
       (match s.ready with | .launch l :: _ => !s.startWaits l | _ => false) = true)
    ∧ (∀ va ∈ [0, 0x30000], let s0 := outlying (launched .running false 0)
       let s := s0.sluice fun sl => sl.updMember 0 0 fun m => { m with ended := 1, pkt := { m.pkt with wcva := BitVec.ofNat 56 va } }
       (match s.dev.sluice.byLid 0 with
        | some (l, i, m) => s.mayComplete l i m && ((s.completionReady l.asid l.root m.pkt).2 == decide (va = 0))
        | none => false) = true) := by decide +kernel

/-- A halt behind a VATOM; a pair that restarts; the exchange of a formed partition; a task of a launch, and its member. -/
theorem witness_PreemptionSwapsAndShedding_more :
    (let s : State := { haltedTask with ctx := { haltedTask.ctx with vatom := flying.ctx.vatom } }
     s.ctx.status = .halted ∧ s.ctx.vatom ≠ none)
    ∧ ((haltedTask.sluice fun sl => { sl with stopped := true }).dev.sluice.stopped = true)
    ∧ (let s0 := sluiced .bound 1 aLaunch
       let s : State := { s0 with ctx := { s0.ctx with status := .halted }, dev := { s0.dev with swaps := [0] } }
       0 ∈ s.dev.swaps ∧ s.partHalted 0 = true ∧ s.here < 672 ∧ s.ctxs.length = 672 ∧ s.cores.length = 168 ∧ s.clus.length = 11
        ∧ s.dev.sluice.therm < 2 ∧ s.partClusters 0 = [0]
        ∧ (∀ c ∈ s.allCtxs, c.inPlaceHalt = false)
        ∧ (∀ u ∈ s.partClusters 0, ∀ c ∈ ((s.allClus.getD u ClusterSt.blank).cellar.getD ClusterImage.idle).ctxs,
            c.inPlaceHalt = true → c.status = .halted))
    ∧ (let s : State := { launched .running false 0 with ctx := { ctx0 with job := some job0 } }
       s.ctx.job = some job0 ∧ (s.memberOf job0).isSome = true ∧ s.ownedTiles = [])
    ∧ (∀ c ∈ run.allCtxs, c.inPlaceHalt = false) ∧ run.dev.sluice.therm < 2 := by decide +kernel

/-- Dirty lines of a frame of local memory, and of one of a pool module that has no head; a scrubber at a dirty frame of such a
module, and at an index that holds no frame; a lane's walk that waits. -/
theorem witness_MemoryUnits_heads :
    run.dev.spanWaits 0x100000 (2 ^ 16) = false
    ∧ (let l : CLine := { pa := 2 ^ 50, data := List.replicate 128 0, dirty := true, poison := false, excl := true, mode := 0, stale := false }
       let s : State := { run with dev := { run.dev with lines := [l] } }
       s.dev.spanWaits (2 ^ 50) (2 ^ 16) = true)
    ∧ run.dev.noHead 0x304010 = false ∧ run.dev.noHead (2 ^ 50) = true
    ∧ (run.dev.scrubWaits 0 = false
        ∧ (let f : Frame := { idx := 0, dirty := true, stamp := 5, tag := 0 }
           let s : State := { run with dev := { run.dev with lagoon := [f] } }
           s.dev.scrubWaits 0 = true))
    ∧ (let b : BusyWait := { ring := none, va := 0x30000, kind := 0, kernel := false, cmd := 0, fa := 0, cursor := [], lane := some 5 }
       ({ run with ctx := { run.ctx with busy := some b } } : State).ctx.busy = some b) := by decide +kernel

theorem witness_PoolAndPorts_reset :
    run.dev.state ≠ .reset ∧ State.reset.dev.state = .reset ∧ (11 : Nat) < 12 ∧ (run.dev.port 11).spares < 3 := by decide +kernel

/-- Atomics of device 3 of each size, of every operation, that return a value and that do not. -/
theorem witness_GaretorLinks_atomics :
    (∀ t ∈ [(3 : BitVec 4), 4], ∀ op ∈ [AtomOp.add, .cas, .min, .max, .minn, .maxn, .and, .or, .xor, .swap, .fadd],
      ∀ n ∈ [2, 3], ∀ ret ∈ [false, true], let p := { pkt t 0 (List.replicate 16 1) with ret := ret, op := op.code, size := BitVec.ofNat 2 n }
      p.op = op.code ∧ 2 ≤ p.size.toNat ∧ mapped.dev.refuses p = false ∧ mapped.dev.unitBusy p = false) := by decide +kernel

theorem witness_ErrorsAndHostWindows_bar : (4 : Nat) ≤ 8 ∧ (0x14 : Nat) % 8 ≠ 0 ∧ (0x10 : Nat) % 8 = 0 := by decide

/-- A device with a life-cycle change still to be taken, and one without. -/
theorem witness_ResetBootAndLifeCycle_pending :
    (living .ready .deployed).dev.bizil.pendingLife = none
    ∧ (let s0 := living .reset .deployed
       let s : State := { s0 with dev := { s0.dev with bizil := { s0.dev.bizil with pendingLife := some .retired } } }
       s.dev.bizil.pendingLife ≠ none) := by decide +kernel

/-- A read of the sluice at a peer waits for its answer, and ends with it (12 R380; 14 R448, R450). -/
theorem test_sluice_reads_peer :
    let pa := 2 ^ 51 + 2 ^ 39 * 3 + 0x1000
    let s := (run.sluicePeerRead pa 8).1
    s.dev.sluice.peer.map (·.data) = [none] ∧
    (match ((s.answer (peerOf pa) run.dev.tagNext (leBytes 8 7) 0 0).sluicePeerRead pa 8).2 with
      | .ok (bs, p) => bs == leBytes 8 7 && !p
      | .error _ => false) = true := by decide +kernel

end Sys2Proof.Tests
end

section
/-!
The register file of the context in focus: what a read of a scalar register returns after a write (01 R20).
-/
namespace Sys2Proof.Machine

@[simp] theorem State.reg_zero (s : State) : s.reg 0 = 0 := s.ctx.reg_zero

@[simp] theorem State.regPoison_zero (s : State) : s.regPoison 0 = false := s.ctx.regPoison_zero

@[simp] theorem State.setReg_zero (s : State) (v : Word) (p : Bool) : s.setReg 0 v p = s := by
  rw [State.setReg, Ctx.setReg_zero]

theorem State.reg_setReg_same (s : State) {n : BitVec 5} (v : Word) (p : Bool) (h : n ≠ 0) :
    (s.setReg n v p).reg n = v := s.ctx.reg_setReg_same n v p h

theorem State.regPoison_setReg_same (s : State) {n : BitVec 5} (v : Word) (p : Bool) (h : n ≠ 0) :
    (s.setReg n v p).regPoison n = p := s.ctx.regPoison_setReg_same n v p h

theorem State.reg_setReg_ne (s : State) {n m : BitVec 5} (v : Word) (p : Bool) (h : m ≠ n) :
    (s.setReg n v p).reg m = s.reg m := s.ctx.reg_setReg_ne n m v p h

theorem State.regPoison_setReg_ne (s : State) {n m : BitVec 5} (v : Word) (p : Bool) (h : m ≠ n) :
    (s.setReg n v p).regPoison m = s.regPoison m := s.ctx.regPoison_setReg_ne n m v p h

/-- Settles O9: s0 by its own three laws, any other register by the read-after-write laws of the register file. -/
theorem zeroRegisterAndRegisterFile : Obligations.ZeroRegisterAndRegisterFile := by
  intro s n m v p
  refine ⟨s.reg_zero, s.regPoison_zero, s.setReg_zero v p, fun hn => ?same, fun hmn => ?other⟩
  case same => exact ⟨s.reg_setReg_same v p hn, s.regPoison_setReg_same v p hn⟩
  case other => exact ⟨s.reg_setReg_ne v p hmn, s.regPoison_setReg_ne v p hmn⟩

end Sys2Proof.Machine
end

section
/-!
JR and JLR (04 R120): the target taken from a register, its traps, and a jump outside every loop level (04 R127).
-/
namespace Sys2Proof.Machine

theorem exec_jr (a : BitVec 5) (s : State) : exec (.jr a) s = execJr a s := rfl

theorem exec_jlr (d a : BitVec 5) (s : State) : exec (.jlr d a) s = execJlr d a s := rfl

/-- 01 R22: a poisoned register gives no target. -/
theorem target_poisoned {s : State} {a : BitVec 5} (hp : s.regPoison a = true) :
    s.target a = s.trapWord causePoisonConsumed a.toNat := by
  rw [State.target, needClean_poisoned hp]
  rfl

/-- 03 R84: a clean value with bits 1:0 non-zero is the TVAL of the trap. -/
theorem target_misaligned {s : State} {a : BitVec 5} (hp : s.regPoison a = false) (hm : (s.reg a).toNat % 4 ≠ 0) :
    s.target a = s.trapVal causeMisalignedPc 0 (s.reg a) := by
  rw [State.target, needClean_clean hp]
  exact if_neg hm

theorem target_aligned {s : State} {a : BitVec 5} (hp : s.regPoison a = false) (hm : (s.reg a).toNat % 4 = 0) :
    s.target a = .ok (s.reg a) := by
  rw [State.target, needClean_clean hp]
  exact if_pos hm

/-- JR and JLR end alike where there is no target: nothing is written. -/
theorem exec_registerJump_of_no_target {s : State} {d a : BitVec 5} {e : Stop} (h : s.target a = .error e) :
    ∀ i ∈ [Instr.jr a, .jlr d a], exec i s = finish (.error e) := by
  have hjr : exec (.jr a) s = finish (.error e) := by rw [exec_jr, execJr, h]
  have hjlr : exec (.jlr d a) s = finish (.error e) := by rw [exec_jlr, execJlr, h]
  simp [hjr, hjlr]

theorem exec_jr_of_target {s : State} {a : BitVec 5} {t : Word} (h : s.target a = .ok t) :
    exec (.jr a) s = .next (s.jump t true) := by
  rw [exec_jr, execJr, h]

/-- A call closes no level (04 R127). -/
theorem exec_jlr_of_target {s : State} {d a : BitVec 5} {t : Word} (h : s.target a = .ok t) :
    exec (.jlr d a) s = .next ((s.setReg d (s.ctx.pc + 4) false).countIssue.setPc t) := by
  rw [exec_jlr, execJlr, h]
  exact congrArg Host.Outcome.next (jump_open _ t)

theorem leaveLevels_outside {s : State} (h : s.ctx.loop.levels = []) (target : Word) (k : Nat) :
    State.leaveLevels target k s = s := by
  cases k with
  | zero => rfl
  | succ k => simp [State.leaveLevels, h]

/-- With no level open there is none to close and no iteration to commit. -/
theorem jump_outside {s : State} (h : s.ctx.loop.levels = []) (target : Word) (closes : Bool) :
    s.jump target closes = s.countIssue.setPc target := by
  have hc : s.countIssue.ctx.loop.levels = [] := by simp [h]
  have hS : s.countIssue.inLoopS = false := by simp [State.inLoopS, h]
  simp [State.jump, leaveLevels_outside hc, hS]

/-- Settles O16: the target decides. Without one both instructions take its trap; with one JR jumps and JLR calls. -/
theorem registerJumps : Obligations.RegisterJumps := by
  intro s d a
  refine ⟨fun hp hm => ?aligned, fun hp => ?poisoned, fun hp hm => ?misaligned, by decide, by decide⟩
  case aligned =>
    have hjr := exec_jr_of_target (target_aligned hp hm)
    exact ⟨fun hl => by rw [hjr, jump_outside hl], hjr, exec_jlr_of_target (target_aligned hp hm)⟩
  case poisoned =>
    simpa [State.irVal, causePoisonConsumed] using exec_registerJump_of_no_target (d := d) (target_poisoned hp)
  case misaligned =>
    exact exec_registerJump_of_no_target (target_misaligned hp hm)

end Sys2Proof.Machine
end
